-- ==== Sys2Proof/Word.lean ====
section
/-! DEFINITION. The plain types the commands and the state are written in: bytes, the numbered things of the hall
(tables, cranes, field units, zones, flags) and the operand records of the commands. -/

namespace Sys2Proof

/-- A character of the host line or of the field line. -/
abbrev Byte := BitVec 8

/-- Tables T1 to T4 (00_scope 5.1); `0` is T1. -/
abbrev TableId := Fin 4

/-- Cranes C1, the western one, and C2 (00_scope 5.1); `0` is C1. -/
abbrev CraneId := Fin 2

/-- Field units 1 to 6 (00_scope 3); `0` is unit 1, so `0` to `3` are the table units and `4`, `5` the crane units. -/
abbrev UnitId := Fin 6

/-- Zones 0 to 15, from west to east (00_scope 5.1). -/
abbrev Zone := Fin 16

/-- Sync flags 0 to 15 (R133). -/
abbrev FlagId := Fin 16

/-- Beacon outputs 0 to 7 (11.5). -/
abbrev OutputId := Fin 8

/-- An intact host frame without its start byte, length byte and CRC (Table 12-7). -/
structure HostFrame where
  unit : Byte
  kind : Byte
  tag  : Byte
  body : List Byte
  deriving DecidableEq, Repr

/-- The field commands of Table 10-3. -/
inductive CmdKind where
  | runContour | arcKill | markStart | markFrame | goto | pick | place | stop | statusQuery
  deriving DecidableEq, Repr

/-- What the body of an ACK or NAK names (Table 10-3): a field command, or by another number no command. -/
inductive NamedCmd where
  | cmd (k : CmdKind)
  | other (number : Nat)
  deriving DecidableEq, Repr

/-- The body of a STATUS frame (Table 10-3): a table unit reports its arc, a crane unit its zone and whether it
senses a load. A last byte that names neither of its two values is kept as it came, behind the zone of a crane's body. -/
inductive StatusContent where
  | arc (on : Bool)
  | crane (zone : Nat) (load : Bool)
  | other (zone : Option Nat) (value : Nat)
  deriving DecidableEq, Repr

/-- Bytes 0 to 19 of the stock record body, as STOCK_REGISTER carries them (Table 12-8). The heat is the eight
half bytes of bytes 11 to 14. -/
structure StockBody where
  id       : Nat
  kind     : Nat
  grade    : Nat
  thick    : Nat
  len      : Nat
  wid      : Nat
  presence : Nat
  heat     : List Nat
  parent   : Nat
  gen      : Nat
  zone     : Nat
  slot     : Nat
  deriving DecidableEq, Repr

/-- The five fields of a requirement as a request or a step carries them (Table 2-1), in or out of range. -/
structure ReqFields where
  grade : Nat
  thick : Nat
  len   : Nat
  wid   : Nat
  pref  : Nat
  deriving DecidableEq, Repr

/-- The seven parameters of TABLE_CONFIG, each present or absent (Table 4-4). -/
structure TableParams where
  kerf         : Option Nat
  trim         : Option Nat
  minLen       : Option Nat
  minArea      : Option Nat
  settle       : Option Nat
  contourLimit : Option Nat
  wearLimit    : Option Nat
  deriving DecidableEq, Repr

/-- The three parameters of CRANE_CONFIG, each present or absent (Table 9-5). -/
structure CraneParams where
  base     : Option Nat
  perZone  : Option Nat
  handling : Option Nat
  deriving DecidableEq, Repr

/-- MOVE_POST's body (Table 12-10). -/
structure PostBody where
  load     : Nat
  ref      : Nat
  srcZone  : Nat
  dstZone  : Nat
  dstSlot  : Nat
  priority : Nat
  flag     : Nat
  deriving DecidableEq, Repr

/-- MARK_DEFINE's fields (R111): the serial is absent, or four digits as given. -/
structure MarkBody where
  id     : Nat
  count  : Nat
  codes  : List Nat
  serial : Option (List Nat)
  heat   : Nat
  deriving DecidableEq, Repr

end Sys2Proof
end

