-- ==== Sys2Proof/Config.lean ====
section
/-! DEFINITION. What the CH-42 fixes for good: the sizes of its tables and queues, its fixed times, and the defaults
of its configurations. The spec leaves no value of the part free, so there is no opaque constant here. -/

namespace Sys2Proof.Config

/-- Stock records held at most (1.3). -/
abbrev maxStock : Nat := 192
/-- Records of one stack at most (R10). -/
abbrev maxStack : Nat := 8
/-- Highest host-registered id and the range of part-assigned ids (R5, R6). -/
abbrev lastHostId : Nat := 61439
abbrev firstPartId : Nat := 61440
abbrev lastPartId : Nat := 65535
/-- Highest age stamp (R7). -/
abbrev lastAge : Nat := 4294967295
/-- Steps of one program at most (R50). -/
abbrev maxSteps : Nat := 64
/-- Mark records held at most (R110). -/
abbrev maxMarks : Nat := 48
/-- Moves held at most, and the highest move id (R162). -/
abbrev maxMoves : Nat := 16
abbrev lastMoveId : Nat := 255
/-- Commands waiting behind an outstanding one at most (R190). -/
abbrev maxWaiting : Nat := 4
/-- Failures that take a unit OFFLINE, and attempts of one command (R194, R195). -/
abbrev maxFailures : Nat := 3
/-- Where the stray report count and the later-capture count hold (R190, R211). -/
abbrev lastStray : Nat := 65535
abbrev lastLater : Nat := 255
/-- The answer window of the field line, in ms (R194, R196, R200). -/
abbrev windowMs : Nat := 50
/-- The echo timer, in ms (R121). -/
abbrev echoMs : Nat := 2000
/-- The half periods of the beacon patterns, in ms (R213). -/
abbrev slowHalfMs : Nat := 500
abbrev fastHalfMs : Nat := 125
/-- The filter of the hall stop input and the gap that abandons a host frame, in ms (R206, R215). -/
abbrev stopFilterMs : Nat := 10
abbrev charGapMs : Nat := 20
/-- Frames of the receive buffer and reports of the report queue at most (R216, R219). -/
abbrev maxFrames : Nat := 4
abbrev maxReports : Nat := 48
/-- Where a wear count saturates (R100) and one unit of arc wear (R104). -/
abbrev lastWear : Nat := 65535
abbrev arcUnitDs : Nat := 300
/-- The bounds of the hall account (R46). -/
abbrev lastVolume : Nat := 18446744073709551615
abbrev lastCount : Nat := 4294967295
/-- The model's own bound on the pieces of work of one handling (notes/assumptions/4.md). -/
abbrev handlingBound : Nat := 65536

end Sys2Proof.Config
end

