-- ==== Sys2Proof/Syntax.lean ====
section
/-! DEFINITION. The commands of the CH-42, one constructor for each row of spec/opcode_table.json. A request of the
host carries the fields of its body as numbers, in or out of range; its unit field and tag stay in the frame that
the receive buffer holds (R216). A field frame carries the address it came from and its channel (R191). -/

namespace Sys2Proof

/-- The steps of the part. -/
inductive Instr where
  /-- POWER_ON_RESET (R203, R204): the levels of the four strap pins and whether the hall stop input reads asserted. -/
  | powerOnReset (tsel1 tsel0 csel rsel stopAsserted : Bool)
  | hallClockTick
  /-- HALL_STOP_ASSERTED (R206): how long the input has shown the asserted level without a break, in ms. -/
  | hallStopAsserted (heldMs : Nat)
  /-- HALL_STOP_RELEASED (R206, R207): how long the input has shown the released level without a break, in ms. -/
  | hallStopReleased (heldMs : Nat)
  | beaconPatternToggle (output : OutputId)
  /-- HOST_FRAME_RECEIVED (R215): the characters that arrive on RXH one after another, with good stop bits. -/
  | hostFrameReceived (chars : List Byte)
  /-- HOST_CHAR_GAP_TIMEOUT (R215): the time since the last character, in ms. -/
  | hostCharGapTimeout (gapMs : Nat)
  | transmitterFree
  /-- REQUEST_UNKNOWN_KIND (R216): the frame that stands for no request of Table 12-5. -/
  | requestUnknownKind (frame : HostFrame)
  /-- HALL_MAP (R2): 16 entries of a kind and a table number. -/
  | hallMap (entries : List (Nat × Nat))
  | mapQuery
  | stockRegister (body : StockBody)
  | stockRemove (id : Nat)
  | stockQuarantine (id : Nat)
  | stockRelease (id : Nat)
  | stockQuery (id : Nat)
  /-- STOCK_LIST (R21): filter 0 ALL, 1 a state, 2 a zone; its argument; the start index. -/
  | stockList (filter arg start : Nat)
  | slotQuery (zone slot : Nat)
  | allocQuery
  | allocProbe (req : ReqFields)
  | accountRead
  | accountClear
  | progBegin (table n : Nat)
  /-- PROG_STEPS (R55, Table 12-9): table, first index, count, and the steps, ten bytes each. -/
  | progSteps (table first count : Nat) (data : List Byte)
  | progCommit (table : Nat)
  | progDiscard (table : Nat)
  | progStart (table : Nat)
  | progAbort (table : Nat)
  | progQuery (table : Nat)
  /-- PROG_READ (R64): table, slot 0 ACTIVE or 1 STAGED, first index, count. -/
  | progRead (table slot first count : Nat)
  /-- TABLE_RESUME (R87): table, mode 0 RETRY or 1 SKIP. -/
  | tableResume (table mode : Nat)
  | tableConfig (table : Nat) (params : TableParams)
  | wearReset (table : Nat)
  | wearQuery (table : Nat)
  | markDefine (body : MarkBody)
  | markDelete (id : Nat)
  | markQuery (id : Nat)
  | markSerialSet (id : Nat) (digits : List Nat)
  | composerQuery
  | flagSet (flag : Nat)
  | flagClear (flag : Nat)
  /-- FLAG_QUERY (R143): a flag, or 255 for ALL. -/
  | flagQuery (flag : Nat)
  /-- GUARD_QUERY (R157): a zone, or 255 for ALL. -/
  | guardQuery (zone : Nat)
  | movePost (body : PostBody)
  | craneResume (crane : Nat)
  | moveAcceptWeight (move : Nat)
  | moveAbort (move : Nat)
  | moveRetry (move : Nat)
  /-- MOVE_RECOVER (R184): move, location 0 a slot, 1 HOOK, 2 NONE, and the slot's zone and number. -/
  | moveRecover (move loc zone slot : Nat)
  | moveCancel (move : Nat)
  /-- MOVE_QUERY (R186): a move id, or 0 for ALL. -/
  | moveQuery (move : Nat)
  | craneStatus (crane : Nat)
  | craneConfig (crane : Nat) (params : CraneParams)
  | unitRestore (unit : Nat)
  | unitMaintain (unit : Nat)
  /-- UNIT_QUERY (R201): a unit, or 255 for ALL. -/
  | unitQuery (unit : Nat)
  | hallRun
  | hallContinue
  | hallReset
  /-- FAULT_READ (R212): clear choice 0 YES, 1 NO. -/
  | faultRead (clear : Nat)
  /-- BEACON_SET (R213): output, source in the order of Table 11-7, its table, zone or crane, pattern. -/
  | beaconSet (output source arg pattern : Nat)
  | beaconQuery
  | hallStatus
  | reportStatus (bits : Byte)
  | reportMask (bits : Byte)
  | reportForce (cls : Nat)
  /-- PASS_THROUGH_FRAME (R200): the host frame whose unit field is 1 to 6. -/
  | passThroughFrame (frame : HostFrame)
  /-- PASS_THROUGH_ANSWER (R200): an intact frame from a unit, with its kind byte and body. -/
  | passThroughAnswer (unit : Nat) (kind : Byte) (body : List Byte)
  /-- PASS_THROUGH_TIMEOUT (R200): a damaged frame, or 50 ms without an answer. -/
  | passThroughTimeout (damaged : Bool)
  | lineCommandTurn
  | lineOfferTurn
  /-- ACK (R191): the address it came from, its channel, and what its body names as the command it answers. -/
  | ack (unit : Nat) (marker : Bool) (cmd : NamedCmd)
  | nak (unit : Nat) (marker : Bool) (cmd : NamedCmd)
  | status (unit : Nat) (marker : Bool) (content : StatusContent)
  | fieldAnswerTimeout
  | damagedFieldFrame
  | empty (unit : Nat) (marker : Bool)
  | offerWindowTimeout
  | contourDone (unit : Nat) (marker : Bool) (number arcTime : Nat)
  | contourFault (unit : Nat) (marker : Bool) (number code : Nat)
  | contourTimerExpiry (table : TableId)
  /-- FRAME_ECHO (R122, Table 12-12): mark token, frame number, character count and the six character bytes. -/
  | frameEcho (unit : Nat) (marker : Bool) (token frame count : Nat) (chars : List Nat)
  | frameReject (unit : Nat) (marker : Bool) (token frame : Nat)
  | echoTimerExpiry
  | arrived (unit : Nat) (marker : Bool) (zone : Nat)
  | picked (unit : Nat) (marker : Bool) (kg : Nat)
  | placed (unit : Nat) (marker : Bool)
  | craneFault (unit : Nat) (marker : Bool) (code : Nat)
  | phaseTimerExpiry (crane : CraneId)
  | settleExpiry (zone : Zone)
  | waitListWalk
  | dispatchAttempt
  | hostCharBadStopBit
  | resetPinAsserted
  deriving DecidableEq, Repr

end Sys2Proof
end

