-- ==== Sys2Proof/Machine/State.lean ====
section
/-! DEFINITION. Everything the CH-42 holds, block by block, as plain data, and the part right after power-on reset. -/

namespace Sys2Proof.Machine

/-! ## Hall map and stock table (chapter 1) -/

/-- The kind of a zone in the hall map (Table 1-1). -/
inductive ZoneKind where
  | park | stock | rack | table (t : TableId) | output
  deriving DecidableEq, Repr

/-- The result of the map test (R3, R4): VALID, or the first failing test with the table it concerns. -/
inductive MapResult where
  | valid
  | notOneZone (t : TableId)
  | notFitted (t : TableId)
  | noStore
  deriving DecidableEq, Repr

/-- A slot: its zone and its number within the zone (R1). -/
structure SlotRef where
  zone : Zone
  slot : Fin 16
  deriving DecidableEq, Repr

/-- The location of a stock record (R8): a depth in a slot, or a crane's hook. The kind of the zone in the hall map
tells a stack, a rack slot and BED n apart. A record in a rack slot or on a bed has depth 0. -/
inductive Loc where
  | slot (ref : SlotRef) (depth : Nat)
  | hook (c : CraneId)
  deriving DecidableEq, Repr

inductive StockKind where
  | plate | remnant
  deriving DecidableEq, Repr

/-- The states of a stock record, in the order of Table 1-3. -/
inductive StockState where
  | available | reserved | moving | onBed | quarantined | held
  deriving DecidableEq, Repr

/-- A stock record in use (Table 1-2). -/
structure StockRec where
  id     : Nat
  kind   : StockKind
  grade  : Nat
  thick  : Nat
  len    : Nat
  wid    : Nat
  heat   : Option (List Nat)
  parent : Option Nat
  gen    : Nat
  age    : Nat
  loc    : Loc
  state  : StockState
  table  : Option TableId
  before : Option StockState
  move   : Option Nat
  deriving DecidableEq, Repr

/-- The two locks of a slot (R11). -/
structure SlotLock where
  pick       : Option Nat
  deliveries : Nat
  deriving DecidableEq, Repr

/-- The Stock Table. `events` counts the stock-change events the Allocator has not yet taken (R13, R32). `changed` is
the model's own mark of the handling in progress: it has done something that owes a stock-change event (R13). -/
structure StockTable where
  map      : Vector ZoneKind 16
  recs     : List StockRec
  locks    : Vector (Vector SlotLock 16) 16
  idCursor : Nat
  seq      : Nat
  events   : Nat
  changed  : Bool
  deriving DecidableEq, Repr

/-! ## Allocator (chapter 2) -/

/-- A requirement (Table 2-1). -/
structure Requirement where
  grade     : Nat
  thick     : Nat
  len       : Nat
  wid       : Nat
  plateOnly : Bool
  deriving DecidableEq, Repr

/-- An entry of the stock wait list (R30). -/
structure WaitEntry where
  table  : TableId
  req    : Requirement
  joined : BitVec 32
  deriving DecidableEq, Repr

/-- The hall account (2.10). -/
structure Account where
  plate   : Nat
  nest    : Nat
  remnant : Nat
  scrap   : Nat
  count   : Nat
  frozen  : Bool
  deriving DecidableEq, Repr

structure Allocator where
  waits   : List WaitEntry
  account : Account
  deriving DecidableEq, Repr

/-! ## Nest programs (chapter 3) -/

inductive PlateMode where
  | allocate | adopt
  deriving DecidableEq, Repr

/-- on-mismark: `halt` HALT, `go` CONTINUE (Table 3-2). -/
inductive OnMismark where
  | halt | go
  deriving DecidableEq, Repr

inductive StepLoad where
  | bedStock | batch
  deriving DecidableEq, Repr

inductive Completion where
  | wait | noWait
  deriving DecidableEq, Repr

/-- A step as a program slot stores it: its kind, its named values, and its numbers as the host gave them
(Table 3-2, R55). `finish` is END. -/
inductive NestStep where
  | plate (mode : PlateMode) (req : ReqFields)
  | waitFlag (flag : Nat)
  | setFlag (flag : Nat)
  | mark (id x y : Nat) (onMis : OnMismark)
  | contour (number pierces : Nat)
  | remnant (used : Nat)
  | move (load : StepLoad) (tag zone slot : Nat) (flag : Option Nat) (completion : Completion)
  | finish
  deriving DecidableEq, Repr

/-- An IN_USE ACTIVE slot with its program context (R50, R52); the step count is the length of `steps`. -/
structure Active where
  steps   : List NestStep
  index   : Nat
  loaded  : Option Nat
  remnantRan : Bool
  deriving DecidableEq, Repr

/-- The STAGED slot (Table 3-1). In LOADING the list holds positions 0 to N - 1, each written or empty; the positions
from N on hold nothing. -/
inductive Staged where
  | empty
  | loading (positions : List (Option NestStep))
  | ready (steps : List NestStep)
  deriving DecidableEq, Repr

/-- The state of a STAGED slot alone, as PROG_DISCARD and PROG_QUERY return it (R61, R63). -/
inductive StagedState where
  | empty | loading | ready
  deriving DecidableEq, Repr

/-- The reasons of PROGRAM_INVALID, in the order of Table 3-3. -/
inductive CommitReason where
  | emptyStep | parameter | endPlace | plateCount | plateOrder | remnantCount | remnantOrder | destination
  | plateMissing
  deriving DecidableEq, Repr

/-! ## Refusal codes (Table 12-4) -/

/-- The refusal codes, in the order of Table 12-4. -/
inductive Code where
  | unknownKind | badLength | badState | busy | notFound | duplicate | full | range | unitAbsent | notMaintained
  | slotLocked | notAccessible | mapInvalid | loadOnHook | owned | stopAsserted | stagedOccupied | programInvalid
  | unitLost | aborted
  deriving DecidableEq, Repr

/-! ## Table sequencers (chapters 4 and 5) -/

/-- The states of a table (Table 4-2). -/
inductive TableState where
  | absent | idle | allocWait | bedWait | plateWait | flagWait | markWait | marking | due | pierceWait | cutting
  | moveWait | halted | offline | maintenance
  deriving DecidableEq, Repr

/-- The halt causes (Table 4-3). -/
inductive HaltCause where
  | hallStop | contourFault | contourTimeout | markFault | mismark | markOffPlate | markUndefined | serialSpent
  | noPlate | moveRefused (code : Code) | unitLost
  deriving DecidableEq, Repr

inductive ClaimStatus where
  | open | done | ended
  deriving DecidableEq, Repr

/-- The claim of a table (Table 4-1): a reserved record, or a move with its status. For a plate move `plate` is the
record it carries, which R72 compares with the bed. -/
inductive Claim where
  | none
  | reserved (id : Nat)
  | move (id : Nat) (plate : Option Nat) (status : ClaimStatus)
  deriving DecidableEq, Repr

/-- The contour in flight (Table 4-1). `hand` is the number of the RUN_CONTOUR handing it awaits (R194). -/
structure Contour where
  number     : Nat
  pierces    : Nat
  arcHeld    : Bool
  ackAwaited : Bool
  hand       : Nat
  deriving DecidableEq, Repr

/-- The table configuration (Table 4-4); `wearLimit` is also the limit of the wear record (R99). -/
structure TableCfg where
  kerf         : Nat
  trim         : Nat
  minLen       : Nat
  minArea      : Nat
  settle       : Nat
  contourLimit : Nat
  wearLimit    : Nat
  deriving DecidableEq, Repr

inductive WearState where
  | ok | warn | due
  deriving DecidableEq, Repr

/-- The wear record (Table 5-1) without its limit, which is the table configuration's. -/
structure Wear where
  count : Nat
  rem   : Nat
  state : WearState
  deriving DecidableEq, Repr

/-- A table record (Table 4-1) with its program slots (R50) and its wear record (R99). -/
structure TableRec where
  state      : TableState
  cause      : Option HaltCause
  claim      : Claim
  contour    : Option Contour
  timer      : Option Nat
  killAwaited : Bool
  cfg        : TableCfg
  wear       : Wear
  active     : Option Active
  staged     : Staged
  swap       : Bool
  deriving DecidableEq, Repr

/-! ## Part marking (chapter 6) -/

/-- A mark record (Table 6-1): `heat` is the heat suffix, `spent` the state SPENT. -/
structure MarkRec where
  id     : Nat
  text   : List Nat
  serial : Option (List Nat)
  heat   : Bool
  spent  : Bool
  deriving DecidableEq, Repr

/-- An entry of the mark queue (R118). -/
structure MarkEntry where
  table : TableId
  id    : Nat
  x     : Nat
  y     : Nat
  onMis : OnMismark
  deriving DecidableEq, Repr

/-- The states of the composer (Table 6-4). -/
inductive ComposerState where
  | idle | starting | sending | echoWait
  deriving DecidableEq, Repr

/-- The mark context (R117). `hand` is the number of the handing whose answer the composer acts on (R121), and
`resends` counts the frames sent a second time, for MARK_RESULT (R127). -/
structure MarkCtx where
  entry   : MarkEntry
  token   : Nat
  str     : List Nat
  frame   : Nat
  resend  : Nat
  sticky  : Bool
  used    : Option (List Nat)
  noHeat  : Bool
  timer   : Option Nat
  hand    : Nat
  resends : Nat
  deriving DecidableEq, Repr

structure Composer where
  marks : List MarkRec
  state : ComposerState
  token : BitVec 8
  queue : List MarkEntry
  ctx   : Option MarkCtx
  deriving DecidableEq, Repr

/-- The results of a mark (Table 6-6). -/
inductive MarkOutcome where
  | success | mismarked | fault | aborted | undefined | spent
  deriving DecidableEq, Repr

/-! ## Sync flags (chapter 7) -/

/-- A flag record (Table 7-1): `value` is SET. -/
structure FlagRec where
  value   : Bool
  overrun : Bool
  waiters : List TableId
  deriving DecidableEq, Repr

/-- Who makes a set (Table 7-3). -/
inductive SetSource where
  | step (t : TableId) (index : Nat)
  | move (id : Nat) (origin : Option TableId)
  | host
  deriving DecidableEq, Repr

/-- The outcomes of a set (Table 7-2). -/
inductive SetOutcome where
  | released (t : TableId) | set | overrun
  deriving DecidableEq, Repr

/-! ## Zone guard (chapter 8) -/

/-- A move and its crane, as a transit holder or a pending crane (Table 8-1). -/
structure Holder where
  move  : Nat
  crane : CraneId
  deriving DecidableEq, Repr

/-- The state of a guard with what is present in it only: the settle expiry on the timebase, the transit holder. -/
inductive GuardState where
  | free | arc | settling (expiry : Nat) | transit (holder : Holder)
  deriving DecidableEq, Repr

/-- A guard record (Table 8-1). -/
structure GuardRec where
  state   : GuardState
  pending : Option Holder
  waiter  : Option TableId
  deriving DecidableEq, Repr

/-! ## Crane moves (chapter 9) -/

inductive Origin where
  | host | table (t : TableId) | yield
  deriving DecidableEq, Repr

inductive Load where
  | stock (id : Nat) | batch (tag : Nat) | none
  deriving DecidableEq, Repr

/-- The source of a move (Table 9-2). -/
inductive Src where
  | slot (ref : SlotRef) | zone (z : Zone) | hook (c : CraneId) | none
  deriving DecidableEq, Repr

/-- The destination of a move (Table 9-2). -/
inductive Dst where
  | slot (ref : SlotRef) | zone (z : Zone)
  deriving DecidableEq, Repr

inductive MoveState where
  | queued | dispatched | weightHold | faulted | stopped
  deriving DecidableEq, Repr

/-- The phases of a move (Table 9-3). -/
inductive Phase where
  | holdWait | toSource | picking | toDest | placing
  deriving DecidableEq, Repr

/-- A run of zones from `lo` to `hi`. -/
structure Span where
  lo : Nat
  hi : Nat
  deriving DecidableEq, Repr

/-- A zone of a hold set, marked granted or pending. -/
structure Hold where
  zone    : Zone
  granted : Bool
  deriving DecidableEq, Repr

/-- A move record (Table 9-2). `quarantine` is the placement state QUARANTINED, and `mass` the mass picked, which
MOVE_DONE reports (Table 9-4). -/
structure MoveRec where
  id      : Nat
  origin  : Origin
  load    : Load
  src     : Src
  srcZone : Option Zone
  dst     : Dst
  urgent  : Bool
  flag    : Option FlagId
  quarantine : Bool
  state   : MoveState
  phase   : Option Phase
  returning : Bool
  crane   : Option CraneId
  span    : Option Span
  holds   : List Hold
  age     : Nat
  mass    : Option Nat
  deriving DecidableEq, Repr

/-- The states of a crane (Table 9-1). -/
inductive CraneState where
  | absent | idle | busy | halted | offline | maintenance
  deriving DecidableEq, Repr

inductive CraneCause where
  | stop | fault
  deriving DecidableEq, Repr

inductive Hook where
  | empty | stock (id : Nat) | batch (tag : Nat)
  deriving DecidableEq, Repr

inductive Sensed where
  | yes | no | unknown
  deriving DecidableEq, Repr

/-- The crane configuration (Table 9-5). -/
structure CraneCfg where
  base     : Nat
  perZone  : Nat
  handling : Nat
  deriving DecidableEq, Repr

/-- A crane record (R160). The claimed span is computed from the move's span and the position, as R161 sets it.
`hand` is the number of the phase command whose answer is awaited (R171, R194). -/
structure CraneRec where
  state   : CraneState
  cause   : Option CraneCause
  pos     : Option Zone
  awaited : Bool
  move    : Option Nat
  hook    : Hook
  sensed  : Sensed
  timer   : Option Nat
  hand    : Option Nat
  cfg     : CraneCfg
  deriving DecidableEq, Repr

/-- The Crane Move Controller. `spaceWaits` are the tables that wait for queue space, in the order they entered that
wait (R162), and `attempts` counts the dispatch attempts that are due and not yet made (R168). -/
structure MoveCtl where
  queue      : List MoveRec
  cursor     : Nat
  nextAge    : Nat
  cranes     : Vector CraneRec 2
  spaceWaits : List TableId
  attempts   : Nat
  deriving DecidableEq, Repr

/-- How a move ends, as the origin table is told (R67, R75, R86). -/
inductive MoveEnd where
  | delivered | returned | ended | faulted
  deriving DecidableEq, Repr

/-- The code of a move fault (Table 9-4). -/
inductive MoveFaultCode where
  | craneFault | craneTimeout | unitLost
  deriving DecidableEq, Repr

/-! ## Field line (chapter 10) -/

/-- The body of a MARK_FRAME (Table 12-12). -/
structure MarkFrame where
  token : Nat
  frame : Nat
  count : Nat
  chars : List Nat
  check : Nat
  deriving DecidableEq, Repr

/-- A field command with its body (Table 10-3). -/
inductive FieldCmd where
  | runContour (number pierces : Nat)
  | arcKill
  | markStart (token x y count : Nat)
  | markFrame (f : MarkFrame)
  | goto (z : Zone)
  | pick (slot : Nat)
  | place (slot : Nat)
  | stop
  | statusQuery
  deriving DecidableEq, Repr

/-- Who handed a command (R192). -/
inductive Sender where
  | sequencer | composer | cranes | restore
  deriving DecidableEq, Repr

/-- A command as handed; `hand` tells two handings of equal commands apart, since an answer is handed back with the
command it answers (R194). -/
structure Handed where
  cmd    : FieldCmd
  sender : Sender
  hand   : Nat
  deriving DecidableEq, Repr

/-- The outstanding command of a unit (Table 10-1). -/
structure Outstanding where
  cmd      : Handed
  attempt  : Nat
  inFlight : Bool
  deriving DecidableEq, Repr

inductive Link where
  | online | offline | maintenance | absent
  deriving DecidableEq, Repr

/-- A unit record (Table 10-1); presence is ABSENT exactly in link state ABSENT. -/
structure UnitRec where
  link      : Link
  fails     : Nat
  out       : Option Outstanding
  waiting   : List Handed
  restoring : Bool
  strays    : Nat
  deriving DecidableEq, Repr

/-- What an open answer window belongs to. -/
inductive WindowKind where
  | command | offer | pass
  deriving DecidableEq, Repr

/-- An open answer window with its end on the timebase (R194, R196, R200). -/
structure Window where
  unit   : UnitId
  kind   : WindowKind
  expiry : Nat
  deriving DecidableEq, Repr

inductive Turn where
  | command | offer
  deriving DecidableEq, Repr

/-- A pass-through frame on its way to its unit (R200). -/
structure PassFrame where
  unit : UnitId
  kind : Byte
  body : List Byte
  deriving DecidableEq, Repr

/-- The last transmission of the CH-42 on the field line. -/
inductive FieldTx where
  | command (u : UnitId) (c : FieldCmd)
  | offer (u : UnitId)
  | pass (f : PassFrame)
  deriving DecidableEq, Repr

/-- The Field Line Unit. `cmdNext` and `offerNext` are the units the two rotations look at first, `turn` the turn
that is due (R193), `pass` a pass-through frame not yet sent (R200), `nextHand` the model's own number of the next
handing. -/
structure FieldLine where
  units     : Vector UnitRec 6
  window    : Option Window
  cmdNext   : UnitId
  offerNext : UnitId
  turn      : Turn
  pass      : Option PassFrame
  nextHand  : Nat
  sent      : Option FieldTx
  deriving DecidableEq, Repr

/-- The kind of the failure that brought a count to 3 (Table 10-5). -/
inductive LossCause where
  | noAnswer | badAnswer | badReport
  deriving DecidableEq, Repr

/-- An answer handed back to a sender (R194). -/
inductive Answer where
  | ack | nak | status (c : StatusContent)
  deriving DecidableEq, Repr

/-- An intact frame from a unit (Table 10-3). -/
inductive FieldMsg where
  | ack (k : NamedCmd)
  | nak (k : NamedCmd)
  | status (c : StatusContent)
  | empty
  | contourDone (number arcTime : Nat)
  | contourFault (number code : Nat)
  | frameEcho (token frame count : Nat) (chars : List Nat)
  | frameReject (token frame : Nat)
  | arrived (zone : Nat)
  | picked (kg : Nat)
  | placed
  | craneFault (code : Nat)
  deriving DecidableEq, Repr

/-! ## Hall control (chapter 11) -/

inductive Mode where
  | setup | run | stopped
  deriving DecidableEq, Repr

/-- The strap values (Table 11-1): TSEL, whether CSEL fits two cranes, whether RSEL is high. -/
structure Straps where
  tsel : Fin 4
  csel : Bool
  rsel : Bool
  deriving DecidableEq, Repr

/-- The fault classes, in rising rank (Table 11-6). -/
inductive FaultClass where
  | note | unit | hall
  deriving DecidableEq, Repr

inductive FaultSource where
  | table (t : TableId) | crane (c : CraneId) | hall
  deriving DecidableEq, Repr

/-- The fault codes (Table 11-6). -/
inductive FaultCode where
  | mismark | markOffPlate | markUndefined | serialSpent | noPlate | moveRefused | weightMismatch
  | contourFault | contourTimeout | markFault | craneFault | craneTimeout | unitLost | hallStop
  deriving DecidableEq, Repr

/-- A fault as the first-fault record holds it (R211). -/
structure HallFault where
  cls   : FaultClass
  src   : FaultSource
  code  : FaultCode
  clock : BitVec 32
  index : Option Nat
  deriving DecidableEq, Repr

/-- The first-fault record (R211): EMPTY exactly when no fault is held. -/
structure FaultRec where
  held  : Option HallFault
  later : Nat
  deriving DecidableEq, Repr

/-- The beacon sources (Table 11-7). -/
inductive BeaconSource where
  | off | on | tableArc (t : TableId) | tableHalted (t : TableId) | tableWear (t : TableId)
  | zoneTransit (z : Zone) | craneBusy (c : CraneId) | faultLocked | hallStopped
  deriving DecidableEq, Repr

inductive Pattern where
  | steady | slow | fast
  deriving DecidableEq, Repr

/-- A beacon output: its setting, whether it runs its pattern since its source holds, its lamp, and the end of the
present half period on the timebase (R213). -/
structure Beacon where
  source  : BeaconSource
  pattern : Pattern
  running : Bool
  lit     : Bool
  toggle  : Option Nat
  deriving DecidableEq, Repr

/-- The causes of HALL_MODE (Table 11-5). -/
inductive ModeCause where
  | powerOn | hallRun | stopAsserted | stopReleased | hallContinue | hallReset
  deriving DecidableEq, Repr

/-- Hall Control. `inReset` holds while the reset pin is held (R204), `nextSecond` is the end of the present second on
the timebase (R205). -/
structure HallControl where
  mode       : Mode
  straps     : Straps
  clock      : BitVec 32
  nextSecond : Nat
  stop       : Bool
  fault      : FaultRec
  beacons    : Vector Beacon 8
  inReset    : Bool
  deriving DecidableEq, Repr

/-! ## Reports (Table 12-6) -/

/-- What took the remnant away, or NONE (Table 2-7). -/
inductive DropReason where
  | none | short | small | generation
  deriving DecidableEq, Repr

/-- The NEST_CONSUMED report (Table 2-8). -/
structure NestConsumed where
  table   : TableId
  oldId   : Nat
  newId   : Option Nat
  used    : Nat
  rem     : Nat
  vp      : Nat
  vn      : Nat
  vr      : Nat
  vs      : Nat
  mp      : Nat
  mn      : Nat
  mr      : Nat
  ms      : Nat
  clamped : Bool
  reason  : DropReason
  added   : Bool
  deriving DecidableEq, Repr

/-- What charged the wear (Table 5-3). -/
inductive WearCause where
  | pierce | arc | limit
  deriving DecidableEq, Repr

/-- The WEAR_WARN and WEAR_DUE reports (Table 5-3). -/
structure WearReport where
  table     : TableId
  state     : WearState
  count     : Nat
  rem       : Nat
  limit     : Nat
  threshold : Nat
  cause     : WearCause
  deriving DecidableEq, Repr

/-- The MARK_RESULT report (Table 6-6). -/
structure MarkReport where
  table   : TableId
  id      : Nat
  outcome : MarkOutcome
  used    : Option (List Nat)
  after   : Option (List Nat)
  noHeat  : Bool
  frames  : Nat
  frame   : Nat
  resends : Nat
  deriving DecidableEq, Repr

/-- The report classes, in the order of Table 12-2. -/
inductive ReportClass where
  | table | stock | move | mark | wear | flag | unit | hall
  deriving DecidableEq, Repr

/-- The report kinds with their fields. -/
inductive Report where
  | tableState (t : TableId) (state : TableState) (index : Option Nat) (cause : Option HaltCause)
      (loaded : Option Nat)
  | nestConsumed (r : NestConsumed)
  | stockWanted (t : TableId) (req : Requirement) (position otherKind : Nat)
  | moveDone (id : Nat) (origin : Origin) (load : Load) (src : Src) (dst : Dst) (crane : Option CraneId)
      (returned : Bool) (mass : Option Nat) (flagSet : Bool)
  | moveFault (id : Nat) (origin : Origin) (crane : CraneId) (phase : Option Phase) (code : MoveFaultCode)
      (onHook : Bool)
  | weightMismatch (move : Nat) (crane : CraneId) (id expected tolerance measured : Nat)
  | markResult (r : MarkReport)
  | wearWarn (r : WearReport)
  | wearDue (r : WearReport)
  | flagOverrun (flag : FlagId) (source : SetSource) (clock : BitVec 32)
  | unitOffline (u : UnitId) (cause : LossCause) (cmd : Option (CmdKind × Nat)) (clock : BitVec 32)
  | unitBack (u : UnitId) (from_ : Link) (content : StatusContent) (clock : BitVec 32)
  | hallMode (mode : Mode) (stop : Bool) (cause : ModeCause) (clock : BitVec 32)
  | faultCaptured (f : HallFault) (replaced : Option FaultClass)
  | test (cls : ReportClass)
  deriving DecidableEq, Repr

/-! ## Replies (R216, R217) -/

/-- PROG_COMMIT's outcome (Table 3-4). -/
inductive CommitOutcome where
  | pending | started | heldReady
  deriving DecidableEq, Repr

/-- PROG_QUERY's body (Table 3-5). -/
structure ProgView where
  state     : TableState
  cause     : Option HaltCause
  inUse     : Bool
  count     : Nat
  index     : Option Nat
  loaded    : Option Nat
  remnantRan : Bool
  staged    : StagedState
  stagedCount : Nat
  written   : Nat
  swap      : Bool
  deriving DecidableEq, Repr

/-- The wear record as WEAR_RESET and WEAR_QUERY return it. -/
structure WearView where
  count     : Nat
  rem       : Nat
  limit     : Nat
  threshold : Nat
  state     : WearState
  deriving DecidableEq, Repr

/-- GUARD_QUERY's entry (Table 8-5). -/
structure GuardView where
  zone      : Zone
  table     : TableId
  state     : GuardState
  arcKept   : Bool
  remaining : Option Nat
  pending   : Option Holder
  waiter    : Option TableId
  deriving DecidableEq, Repr

/-- CRANE_STATUS's body: the crane record, its claimed span, and the phase timer's remaining ms (R186). -/
structure CraneView where
  crane     : CraneRec
  claim     : Span
  remaining : Option Nat
  deriving DecidableEq, Repr

/-- UNIT_QUERY's entry of a FITTED unit (R201). An ABSENT unit's entry carries its presence and nothing more. -/
structure UnitView where
  link      : Link
  fails     : Nat
  out       : Option (CmdKind × Nat × Bool)
  waiting   : Nat
  restoring : Bool
  strays    : Nat
  deriving DecidableEq, Repr

/-- HALL_STATUS's body (R221). -/
structure HallView where
  mode       : Mode
  stop       : Bool
  clock      : BitVec 32
  straps     : Straps
  rxOverrun  : Bool
  reportLost : Bool
  frames     : Nat
  reports    : Nat
  locked     : Bool
  deriving DecidableEq, Repr

/-- The mark in progress as COMPOSER_QUERY returns it (R131). -/
structure MarkView where
  table  : TableId
  id     : Nat
  token  : Nat
  length : Nat
  frames : Nat
  frame  : Nat
  resend : Nat
  sticky : Bool
  used   : Option (List Nat)
  noHeat : Bool
  deriving DecidableEq, Repr

/-- COMPOSER_QUERY's body (R131). -/
structure ComposerView where
  state : ComposerState
  token : BitVec 8
  queue : List (TableId × Nat)
  mark  : Option MarkView
  deriving DecidableEq, Repr

/-- The bodies of ACCEPT replies, as the owning chapters give them. -/
inductive Accept where
  | none
  | map (entries : Vector ZoneKind 16) (result : MapResult)
  | registered (id age : Nat) (depth : Option Nat)
  | stock (image : List Byte)
  | list (ids : List Nat) (next : Option Nat)
  | slot (ids : List Nat) (lock : SlotLock)
  | waits (entries : List WaitEntry)
  | probe (winner : Option (Nat × Nat)) (remnants plates : Nat)
  | account (a : Account)
  | written (n : Nat)
  | commit (o : CommitOutcome)
  | staged (before : StagedState)
  | tableWas (state : TableState)
  | program (v : ProgView)
  | steps (images : List (List Byte))
  | resumed (state : TableState)
  | tableCfg (cfg : TableCfg)
  | wear (v : WearView)
  | defined (replaced : Bool)
  | markHeld (serial : Option (List Nat)) (spent : Bool)
  | mark (rec : MarkRec) (composed : Bool) (waiting : Nat)
  | composer (v : ComposerView)
  | setMade (o : SetOutcome)
  | flagHeld (value overrun : Bool)
  | flags (recs : List FlagRec)
  | guards (entries : List GuardView)
  | moveId (id : Nat)
  | crane (state : CraneState) (pos : Option Zone) (move : Option Nat)
  | phase (p : Option Phase)
  | move (m : MoveRec) (remaining : Option Nat)
  | moves (entries : List (Nat × Origin × MoveState × Option Phase × Option CraneId))
  | craneView (v : CraneView)
  | craneCfg (cfg : CraneCfg)
  | restoredTable (from_ : Link) (content : StatusContent) (state : TableState)
  | restoredCrane (from_ : Link) (content : StatusContent) (state : CraneState)
  | units (entries : List (Option UnitView))
  | mapTest (result : MapResult)
  | fault (rec : FaultRec)
  | beaconWas (source : BeaconSource) (pattern : Pattern)
  | beacons (entries : List (BeaconSource × Pattern × Bool))
  | hall (v : HallView)
  | bits (b : BitVec 8)
  | answer (kind : Byte) (body : List Byte)
  deriving DecidableEq, Repr

/-- The extra fields of a refusal (Table 12-4). -/
inductive Extra where
  | none
  | map (result : MapResult)
  | program (index : Nat) (reason : CommitReason)
  deriving DecidableEq, Repr

/-- A reply without its header, which repeats the request's unit field, tag and kind (R217). -/
inductive Reply where
  | accept (body : Accept)
  | refuse (code : Code) (extra : Extra)
  deriving DecidableEq, Repr

/-- A reply that waits on a field exchange (R216). -/
inductive Deferred where
  | craneResume (c : CraneId)
  | unitRestore (u : UnitId)
  | pass (u : UnitId)
  deriving DecidableEq, Repr

/-- How far the head of the receive buffer has come: not yet taken, its reply waiting, its reply ready (R216). -/
inductive Hand where
  | untaken
  | waiting (d : Deferred)
  | ready (r : Reply)
  deriving DecidableEq, Repr

/-- The frame the transmitter last began to send on TXH (R217). -/
inductive HostTx where
  | reply (request : HostFrame) (r : Reply)
  | report (r : Report)
  deriving DecidableEq, Repr

/-- The Host Line Unit. `collected` holds the characters from the start byte on of the frame being collected, and is
empty in HUNTING (R215). -/
structure HostLine where
  collected  : List Byte
  buffer     : List HostFrame
  hand       : Hand
  reports    : List Report
  status     : BitVec 8
  mask       : BitVec 8
  rxOverrun  : Bool
  reportLost : Bool
  sending    : Option HostTx
  deriving DecidableEq, Repr

/-! ## The work of one handling -/

/-- The pieces of work that one handling hands from block to block. They are done one at a time, each piece's own
consequences before the pieces after it (notes/assumptions/4.md). -/
inductive Task where
  | stepStart (t : TableId)
  | stepEnd (t : TableId)
  | plateBed (t : TableId)
  | allocRequest (t : TableId)
  | allocMiss (t : TableId) (req : Requirement) (otherKind : Nat)
  | hit (t : TableId) (id : Nat)
  | postPlate (t : TableId)
  | postMove (t : TableId)
  | bedEmpty (t : TableId)
  | contourArc (t : TableId)
  | arcGranted (t : TableId)
  | arcRelease (t : TableId)
  | halt (t : TableId) (cause : HaltCause)
  | endDone (t : TableId)
  | takeOff (t : TableId)
  | abortEnd (t : TableId)
  | stopHalt (t : TableId)
  | setFlag (f : FlagId) (source : SetSource)
  | serveHead
  | markResult (t : TableId) (o : MarkOutcome)
  | markClose
  | markDrop (o : MarkOutcome)
  | transitAsk (move : Nat) (z : Zone)
  | transitGranted (move : Nat) (z : Zone)
  | travelCheck (move : Nat)
  | enterPhase (move : Nat) (p : Phase)
  | giveUp (move : Nat) (z : Zone)
  | tryMove (move : Nat)
  | complete (move : Nat)
  | moveReport (m : MoveRec)
  | tellOrigin (m : MoveRec) (e : MoveEnd)
  | queueSpace
  | postAgain (t : TableId)
  | faultMove (move : Nat) (code : MoveFaultCode)
  | weigh (move : Nat) (kg : Nat)
  | answered (u : UnitId) (h : Handed) (a : Answer)
  | tableStop (t : TableId)
  | craneStop
  | composerStop
  | guardStop
  | tableLost (t : TableId)
  | composerLost (t : TableId)
  | craneLost (c : CraneId)
  | tableBack (t : TableId) (arcOn : Bool)
  | tableUp (t : TableId)
  | craneBack (c : CraneId) (z : Zone) (load : Bool)
  | craneResumed (c : CraneId)
  | replyResumed (t : TableId)
  | replyRestored (u : UnitId) (from_ : Link) (content : StatusContent)
  deriving DecidableEq, Repr

/-! ## The state -/

/-- The state of the CH-42. `now` is the 1 ms timebase since power-on reset (00_scope 5.3); `work` is the model's own
list of the work still due in the handling in progress, empty between handlings; `pending` are the commands that wait
to be taken, the oldest first. -/
structure State where
  hall     : HallControl
  stock    : StockTable
  alloc    : Allocator
  tables   : Vector TableRec 4
  composer : Composer
  flags    : Vector FlagRec 16
  guards   : Vector GuardRec 16
  moves    : MoveCtl
  line     : FieldLine
  host     : HostLine
  now      : Nat
  work     : List Task
  pending  : List Instr
  deriving DecidableEq, Repr

/-- The reasons a step can stop with a fault. No rule of the spec stops the CH-42, and no meaning of this model
answers with a fault; the type has one constructor so that it is a closed type like every other. Safe: nothing raises it. -/
inductive Fault where
  /-- Raised by nothing. Safe. -/
  | never
  deriving DecidableEq, Repr

/-- The reasons a step can be refused. -/
inductive Refusal where
  /-- Raised by the arm of a command without a meaning; no arm raises it. Safe. -/
  | notModelled (mnemonic : String)
  deriving DecidableEq, Repr

/-! ## The values after power-on reset -/

/-- The defaults of Table 4-4. -/
def TableCfg.initial : TableCfg :=
  { kerf := 4, trim := 10, minLen := 500, minArea := 25, settle := 5, contourLimit := 900, wearLimit := 20000 }

/-- The defaults of Table 9-5. -/
def CraneCfg.initial : CraneCfg := { base := 20, perZone := 6, handling := 60 }

/-- A table record after power-on reset (R66, R97, R109): IDLE when fitted, ABSENT when not. -/
def TableRec.initial (fitted : Bool) : TableRec :=
  { state := if fitted then .idle else .absent, cause := none, claim := .none, contour := none, timer := none,
    killAwaited := false, cfg := .initial, wear := { count := 0, rem := 0, state := .ok }, active := none,
    staged := .empty, swap := false }

/-- A crane record after power-on reset (R188). -/
def CraneRec.initial (fitted : Bool) : CraneRec :=
  { state := if fitted then .idle else .absent, cause := none, pos := none, awaited := false, move := none,
    hook := .empty, sensed := .unknown, timer := none, hand := none, cfg := .initial }

/-- A unit record after power-on reset (R202). -/
def UnitRec.initial (fitted : Bool) : UnitRec :=
  { link := if fitted then .online else .absent, fails := 0, out := none, waiting := [], restoring := false,
    strays := 0 }

/-- A guard record after power-on reset (R159). -/
def GuardRec.initial : GuardRec := { state := .free, pending := none, waiter := none }

/-- A flag record after power-on reset (R144). -/
def FlagRec.initial : FlagRec := { value := false, overrun := false, waiters := [] }

/-- A beacon after power-on reset: source OFF, pattern STEADY, dark (R204, R214). -/
def Beacon.initial : Beacon := { source := .off, pattern := .steady, running := false, lit := false, toggle := none }

/-- The hall account after power-on reset (R49). -/
def Account.initial : Account := { plate := 0, nest := 0, remnant := 0, scrap := 0, count := 0, frozen := false }

/-- Every block at its power-on values for the straps sampled and the level of the hall stop input at the release of
the reset pin (R23, R49, R66, R97, R109, R132, R144, R159, R188, R202, R203, R204, R222), with the HALL_MODE report of
cause POWER_ON in the report queue (R204) and its class status bit set (R218). -/
def State.powerOn (straps : Straps) (stop : Bool) (pending : List Instr) : State :=
  let tab (n : Nat) : Bool := decide (n ≤ straps.tsel.val)
  { hall :=
      { mode := .setup, straps := straps, clock := 0, nextSecond := 1000, stop := stop,
        fault := { held := none, later := 0 }, beacons := Vector.replicate 8 .initial, inReset := false }
    stock :=
      { map := Vector.replicate 16 .park, recs := [],
        locks := Vector.replicate 16 (Vector.replicate 16 { pick := none, deliveries := 0 }),
        idCursor := Config.firstPartId, seq := 1, events := 0, changed := false }
    alloc := { waits := [], account := .initial }
    tables := #v[.initial (tab 0), .initial (tab 1), .initial (tab 2), .initial (tab 3)]
    composer := { marks := [], state := .idle, token := 0, queue := [], ctx := none }
    flags := Vector.replicate 16 .initial
    guards := Vector.replicate 16 .initial
    moves :=
      { queue := [], cursor := 1, nextAge := 0, cranes := #v[.initial true, .initial straps.csel],
        spaceWaits := [], attempts := 0 }
    line :=
      { units := #v[.initial (tab 0), .initial (tab 1), .initial (tab 2), .initial (tab 3), .initial true,
          .initial straps.csel]
        window := none, cmdNext := 0, offerNext := 0, turn := .command, pass := none, nextHand := 0, sent := none }
    host :=
      { collected := [], buffer := [], hand := .untaken, reports := [.hallMode .setup stop .powerOn 0],
        status := 128, mask := 0, rxOverrun := false, reportLost := false, sending := none }
    now := 0
    work := []
    pending := pending }

/-- The part right after power-on reset with the straps of the largest hall, fast lines and the hall stop input
released. DESIGN CHOICE (notes/assumptions/1.md): the straps are tied on the board, and the spec gives no value. -/
def State.reset : State := State.powerOn { tsel := 3, csel := true, rsel := true } false []

end Sys2Proof.Machine
end

