-- ==== Sys2Proof/Machine/Ops.lean ====
section
/-! DEFINITION. The named reads and writes of the state that every block shares: tables, cranes, units, guards, flags,
moves, stock records and slots; the raising of reports (R218, R219) and the capture of faults (R211). -/

namespace Sys2Proof.Machine

/-! ## Work still due in this handling -/

/-- Puts pieces of work in front of the work still due. -/
def State.push (s : State) (ts : List Task) : State := { s with work := ts ++ s.work }

/-! ## Records by number -/

def State.tab (s : State) (t : TableId) : TableRec := s.tables.get t

def State.modTab (s : State) (t : TableId) (f : TableRec → TableRec) : State :=
  { s with tables := s.tables.set t.val (f (s.tab t)) t.isLt }

def State.crane (s : State) (c : CraneId) : CraneRec := s.moves.cranes.get c

def State.modCrane (s : State) (c : CraneId) (f : CraneRec → CraneRec) : State :=
  { s with moves := { s.moves with cranes := s.moves.cranes.set c.val (f (s.crane c)) c.isLt } }

def State.unit (s : State) (u : UnitId) : UnitRec := s.line.units.get u

def State.modUnit (s : State) (u : UnitId) (f : UnitRec → UnitRec) : State :=
  { s with line := { s.line with units := s.line.units.set u.val (f (s.unit u)) u.isLt } }

def State.guard (s : State) (z : Zone) : GuardRec := s.guards.get z

def State.setGuard (s : State) (z : Zone) (g : GuardRec) : State :=
  { s with guards := s.guards.set z.val g z.isLt }

def State.flag (s : State) (f : FlagId) : FlagRec := s.flags.get f

def State.setFlagRec (s : State) (f : FlagId) (r : FlagRec) : State :=
  { s with flags := s.flags.set f.val r f.isLt }

def State.beacon (s : State) (n : OutputId) : Beacon := s.hall.beacons.get n

def State.setBeacon (s : State) (n : OutputId) (b : Beacon) : State :=
  { s with hall := { s.hall with beacons := s.hall.beacons.set n.val b n.isLt } }

/-- The field unit of a table (00_scope 3). -/
def tableUnit (t : TableId) : UnitId := ⟨t.val, by omega⟩

/-- The field unit of a crane (00_scope 3). -/
def craneUnit (c : CraneId) : UnitId := ⟨c.val + 4, by omega⟩

/-- Whose unit it is (R190). -/
inductive Owner where
  | table (t : TableId) | crane (c : CraneId)
  deriving DecidableEq, Repr

def ownerOf (u : UnitId) : Owner :=
  if h : u.val < 4 then .table ⟨u.val, h⟩ else .crane ⟨u.val - 4, by omega⟩

/-- The other crane. -/
def otherCrane (c : CraneId) : CraneId := if c = 0 then 1 else 0

/-! ## Zones and slots (R1, R10) -/

def State.kindOf (s : State) (z : Zone) : ZoneKind := s.stock.map.get z

/-- How many slots a zone of a kind has (Table 1-1). -/
def slotCount : ZoneKind → Nat
  | .park => 0
  | .stock => 4
  | .rack => 16
  | .table _ => 1
  | .output => 4

/-- The slot that a zone number and a slot number name, if any (R1). -/
def State.slotRef (s : State) (zone slot : Nat) : Option SlotRef :=
  if hz : zone < 16 then
    if hs : slot < 16 then
      if slot < slotCount (s.kindOf ⟨zone, hz⟩) then some { zone := ⟨zone, hz⟩, slot := ⟨slot, hs⟩ } else none
    else none
  else none

/-- A slot that may hold stock records: every slot but those of OUTPUT zones (Table 1-1). -/
def State.stockSlotRef (s : State) (zone slot : Nat) : Option SlotRef :=
  match s.slotRef zone slot with
  | some r => if s.kindOf r.zone = .output then none else some r
  | none => none

/-- The sixteen zones from west to east. -/
def allZones : List Zone := List.finRange 16

/-- The zone the map makes TABLE n. -/
def State.tableZone (s : State) (t : TableId) : Option Zone := allZones.find? (fun z => s.kindOf z = .table t)

/-- BED n, slot 0 of that zone (Table 1-1). -/
def State.bedRef (s : State) (t : TableId) : Option SlotRef :=
  (s.tableZone t).map (fun z => { zone := z, slot := 0 })

/-- The table whose bed a slot is, if it is a bed. -/
def State.bedTable (s : State) (r : SlotRef) : Option TableId :=
  match s.kindOf r.zone with
  | .table t => if r.slot = 0 then some t else none
  | _ => none

def State.lock (s : State) (r : SlotRef) : SlotLock := (s.stock.locks.get r.zone).get r.slot

def State.setLock (s : State) (r : SlotRef) (l : SlotLock) : State :=
  let row := (s.stock.locks.get r.zone).set r.slot.val l r.slot.isLt
  { s with stock := { s.stock with locks := s.stock.locks.set r.zone.val row r.zone.isLt } }

/-! ## Stock records -/

def StockRec.inSlot (x : StockRec) (r : SlotRef) : Bool :=
  match x.loc with
  | .slot q _ => decide (q = r)
  | .hook _ => false

def StockRec.depth (x : StockRec) : Nat :=
  match x.loc with
  | .slot _ d => d
  | .hook _ => 0

def State.stockRec (s : State) (id : Nat) : Option StockRec := s.stock.recs.find? (fun x => x.id = id)

/-- The records a slot holds. -/
def State.slotRecs (s : State) (r : SlotRef) : List StockRec := s.stock.recs.filter (fun x => x.inSlot r)

/-- The top of a slot: the record at the greatest depth (R10). -/
def State.slotTop (s : State) (r : SlotRef) : Option StockRec :=
  (s.slotRecs r).find? (fun x => x.depth + 1 = (s.slotRecs r).length)

/-- The record on BED n. -/
def State.bedRec (s : State) (t : TableId) : Option StockRec := (s.bedRef t).bind s.slotTop

/-- A record is accessible when it is the top of its stack, in a rack slot or on a bed (R10). -/
def State.accessible (s : State) (x : StockRec) : Bool :=
  match x.loc with
  | .slot r d => decide (d + 1 = (s.slotRecs r).length)
  | .hook _ => false

def State.setRecs (s : State) (l : List StockRec) : State := { s with stock := { s.stock with recs := l } }

def State.modRec (s : State) (id : Nat) (f : StockRec → StockRec) : State :=
  s.setRecs (s.stock.recs.map (fun x => if x.id = id then f x else x))

def State.dropRec (s : State) (id : Nat) : State := s.setRecs (s.stock.recs.filter (fun x => x.id ≠ id))

/-- This handling owes a stock-change event (R13). -/
def State.stockChanged (s : State) : State := { s with stock := { s.stock with changed := true } }

/-- What a slot that has just lost its top owes: a stock-change event (R13), and a bed-empty event for a bed (R14). -/
def State.slotLeft (s : State) (r : SlotRef) : State :=
  match s.bedTable r with
  | some t => s.stockChanged.push [.bedEmpty t]
  | none => s.stockChanged

/-- The delivery count of a slot falls by 1 (R11). At 0 it owes a stock-change event (R13), and a bed-empty event for
an empty bed (R14). -/
def State.endDelivery (s : State) (r : SlotRef) : State :=
  let l := s.lock r
  let s := s.setLock r { l with deliveries := l.deliveries - 1 }
  if l.deliveries = 1 then
    if (s.slotRecs r).isEmpty then s.slotLeft r else s.stockChanged
  else s

def State.beginDelivery (s : State) (r : SlotRef) : State :=
  let l := s.lock r
  s.setLock r { l with deliveries := l.deliveries + 1 }

def State.setPick (s : State) (r : SlotRef) (p : Option Nat) : State := s.setLock r { s.lock r with pick := p }

/-- The delivery test of Table 1-5. -/
def State.deliveryTest (s : State) (r : SlotRef) : Option Code :=
  let l := s.lock r
  if l.pick.isSome then some .slotLocked
  else match s.kindOf r.zone with
    | .stock =>
      if (s.slotTop r).any (fun x => x.state = .reserved || x.state = .moving) then some .slotLocked
      else if (s.slotRecs r).length + l.deliveries < Config.maxStack then none else some .full
    | _ =>
      if l.deliveries ≠ 0 then some .slotLocked
      else if (s.slotRecs r).isEmpty then none else some .full

/-- The pick test of Table 1-5 for a record in a slot; a record on a hook is not accessible. -/
def State.pickTest (s : State) (x : StockRec) : Option Code :=
  match x.loc with
  | .hook _ => some .notAccessible
  | .slot r _ =>
    if !s.accessible x then some .notAccessible
    else if (s.lock r).pick.isSome then some .slotLocked
    else if (s.lock r).deliveries ≠ 0 then some .slotLocked
    else none

/-- The record becomes AVAILABLE with its reserving table and move fields removed (R9, R34), and a stock-change event is
owed (R13). -/
def State.makeAvailable (s : State) (id : Nat) : State :=
  (s.modRec id (fun x => { x with state := .available, table := none, before := none, move := none })).stockChanged

/-! ## Cursors (R6, R7, R162) -/

/-- The first value not in use at or after `v`, wrapping from `hi` to `lo`; `n` bounds the values passed over. -/
def firstFree (used : Nat → Bool) (lo hi : Nat) : Nat → Nat → Nat
  | 0, v => v
  | n + 1, v => if used v then firstFree used lo hi n (if v = hi then lo else v + 1) else v

/-- The value after `v`, wrapping from `hi` to `lo`. -/
def nextValue (lo hi v : Nat) : Nat := if v = hi then lo else v + 1

def State.idUsed (s : State) (id : Nat) : Bool := s.stock.recs.any (fun x => x.id = id)

/-- The part-assigned id the Stock Table gives next (R6). -/
def State.partId (s : State) : Nat :=
  firstFree s.idUsed Config.firstPartId Config.lastPartId (s.stock.recs.length + 1) s.stock.idCursor

/-- The stock sequence counter after a record has taken its value (R7): it steps on past the stamps in use. -/
def State.countAge (s : State) : State :=
  let used (v : Nat) : Bool := s.stock.recs.any (fun x => x.age = v)
  let v := firstFree used 1 Config.lastAge (s.stock.recs.length + 1) (nextValue 1 Config.lastAge s.stock.seq)
  { s with stock := { s.stock with seq := v } }

/-! ## Moves -/

def State.move (s : State) (id : Nat) : Option MoveRec := s.moves.queue.find? (fun m => m.id = id)

def State.setQueue (s : State) (q : List MoveRec) : State := { s with moves := { s.moves with queue := q } }

def State.modMove (s : State) (id : Nat) (f : MoveRec → MoveRec) : State :=
  s.setQueue (s.moves.queue.map (fun m => if m.id = id then f m else m))

/-- A dispatch attempt is due (R168). -/
def State.wantAttempt (s : State) : State := { s with moves := { s.moves with attempts := s.moves.attempts + 1 } }

def State.setSpaceWaits (s : State) (l : List TableId) : State := { s with moves := { s.moves with spaceWaits := l } }

/-! ## Reports (R218, R219) -/

def Report.cls : Report → ReportClass
  | .tableState .. => .table
  | .nestConsumed _ => .stock
  | .stockWanted .. => .stock
  | .moveDone .. => .move
  | .moveFault .. => .move
  | .weightMismatch .. => .move
  | .markResult _ => .mark
  | .wearWarn _ => .wear
  | .wearDue _ => .wear
  | .flagOverrun .. => .flag
  | .unitOffline .. => .unit
  | .unitBack .. => .unit
  | .hallMode .. => .hall
  | .faultCaptured .. => .hall
  | .test c => c

/-- The bit of a class in the status and mask words, bit 0 for TABLE (R220). -/
def ReportClass.bit : ReportClass → Nat
  | .table => 0
  | .stock => 1
  | .move => 2
  | .mark => 3
  | .wear => 4
  | .flag => 5
  | .unit => 6
  | .hall => 7

/-- The bit of a class alone. -/
def ReportClass.mask (c : ReportClass) : BitVec 8 := (1 : BitVec 8) <<< c.bit

/-- A report is handed to the Host Line Unit: its class status bit is set; it is dropped if its class is masked (R218),
lost if the queue holds 48, and else appended (R219). -/
def HostLine.report (h : HostLine) (r : Report) : HostLine :=
  let h := { h with status := h.status ||| r.cls.mask }
  if h.mask &&& r.cls.mask ≠ 0 then h
  else if Config.maxReports ≤ h.reports.length then { h with reportLost := true }
  else { h with reports := h.reports ++ [r] }

def State.raise (s : State) (r : Report) : State := { s with host := s.host.report r }

/-! ## The first-fault record (R211) -/

def FaultClass.rank : FaultClass → Nat
  | .note => 1
  | .unit => 2
  | .hall => 3

/-- A capture: written from EMPTY or over a lower class, and reported; else counted as a later capture. -/
def State.capture (s : State) (cls : FaultClass) (src : FaultSource) (code : FaultCode) (index : Option Nat) : State :=
  let f : HallFault := { cls := cls, src := src, code := code, clock := s.hall.clock, index := index }
  let keep (later : Nat) (held : Option HallFault) : State :=
    { s with hall := { s.hall with fault := { held := held, later := later } } }
  match s.hall.fault.held with
  | none => (keep s.hall.fault.later (some f)).raise (.faultCaptured f none)
  | some g =>
    if g.cls.rank < cls.rank then (keep s.hall.fault.later (some f)).raise (.faultCaptured f (some g.cls))
    else keep (min (s.hall.fault.later + 1) Config.lastLater) (some g)

/-! ## Replies (R216) -/

def State.setHand (s : State) (h : Hand) : State := { s with host := { s.host with hand := h } }

def State.accept (s : State) (b : Accept) : State := s.setHand (.ready (.accept b))

def State.refuse (s : State) (c : Code) : State := s.setHand (.ready (.refuse c .none))

end Sys2Proof.Machine
end

