-- ==== Sys2Proof/Machine/Operands.lean ====
section
/-! DEFINITION. The operand forms of the commands: numbers of tables, cranes, units, zones and flags; the range tests of
the records a request carries; the byte images of steps, stock records and marker frames (12.6). -/

namespace Sys2Proof.Machine

/-! ## Numbers -/

/-- A number of one of `n` things counted from `lo`. -/
def numbered (n lo v : Nat) : Option (Fin n) :=
  if h : lo ≤ v ∧ v < lo + n then some ⟨v - lo, by omega⟩ else none

/-- Whether a value lies in `lo..hi`. -/
def within (lo hi v : Nat) : Bool := decide (lo ≤ v) && decide (v ≤ hi)

/-- The table tests common to the requests that name one: RANGE, then UNIT_ABSENT (R53, R87, R96, R107). -/
def State.withTable (s : State) (n : Nat) (f : TableId → State) : State :=
  match numbered 4 1 n with
  | none => s.refuse .range
  | some t => if (s.tab t).state = .absent then s.refuse .unitAbsent else f t

/-- The crane tests of R180: RANGE, then UNIT_ABSENT. -/
def State.withCrane (s : State) (n : Nat) (f : CraneId → State) : State :=
  match numbered 2 1 n with
  | none => s.refuse .range
  | some c => if (s.crane c).state = .absent then s.refuse .unitAbsent else f c

/-- The unit tests of R198 and R199: RANGE, then UNIT_ABSENT. -/
def State.withUnit (s : State) (n : Nat) (f : UnitId → State) : State :=
  match numbered 6 1 n with
  | none => s.refuse .range
  | some u => if (s.unit u).link = .absent then s.refuse .unitAbsent else f u

/-- A request that is refused with BAD_STATE in SETUP (Table 11-3). -/
def State.notInSetup (s : State) (k : State) : State := if s.hall.mode = .setup then s.refuse .badState else k

/-- An optional on-complete flag byte, 255 standing for absent; `none` where the byte is out of range (R163). -/
def flagByte (v : Nat) : Option (Option FlagId) :=
  if v = 255 then some none
  else match numbered 16 0 v with
    | some f => some (some f)
    | none => none

/-! ## Bytes -/

def byteOf (n : Nat) : Byte := BitVec.ofNat 8 n

/-- A number in two bytes, most significant first (R217). -/
def bytes2 (n : Nat) : List Byte := [byteOf (n / 256), byteOf n]

/-- A number in four bytes, most significant first (R217). -/
def bytes4 (n : Nat) : List Byte := bytes2 (n / 65536) ++ bytes2 n

/-- The number two bytes spell, most significant first. -/
def num2 (a b : Byte) : Nat := a.toNat * 256 + b.toNat

/-- CRC-16 over a list of bytes (Table 12-3). -/
def crcBit (crc : BitVec 16) (bit : Bool) : BitVec 16 :=
  if crc.msb = bit then crc <<< 1 else (crc <<< 1) ^^^ 0x1021#16

def crcByte (crc : BitVec 16) (b : Byte) : BitVec 16 :=
  crcBit (crcBit (crcBit (crcBit (crcBit (crcBit (crcBit (crcBit crc (b.getLsbD 7)) (b.getLsbD 6)) (b.getLsbD 5))
    (b.getLsbD 4)) (b.getLsbD 3)) (b.getLsbD 2)) (b.getLsbD 1)) (b.getLsbD 0)

def crc16 (bs : List Byte) : BitVec 16 := bs.foldl crcByte 0xFFFF#16

/-! ## Requirements (Table 2-1) -/

/-- Whether every field of a requirement is in range and its preference known. -/
def reqOk (r : ReqFields) : Bool :=
  decide (r.grade ≤ 63) && within 40 1000 r.thick && within 300 18000 r.len && within 300 4000 r.wid
    && decide (r.pref ≤ 1)

/-- The requirement the fields give; preference 1 is PLATE_ONLY (Table 12-9). -/
def toReq (r : ReqFields) : Requirement :=
  { grade := r.grade, thick := r.thick, len := r.len, wid := r.wid, plateOnly := decide (r.pref = 1) }

/-! ## Steps (Tables 3-2 and 12-9) -/

/-- The step that ten bytes spell; `none` where the kind or one of its named values is unknown (R55). Bytes that the
kind does not use are disregarded. In ADOPT mode the requirement is not tested, its preference included (R51). -/
def parseStep : List Byte → Option NestStep
  | [k, b1, b2, b3, b4, b5, b6, b7, b8, b9] =>
    match k.toNat with
    | 1 =>
      let r : ReqFields :=
        { grade := b2.toNat, thick := num2 b3 b4, len := num2 b5 b6, wid := num2 b7 b8, pref := b9.toNat }
      match b1.toNat with
      | 0 => if b9.toNat ≤ 1 then some (.plate .allocate r) else none
      | 1 => some (.plate .adopt r)
      | _ => none
    | 2 => some (.waitFlag b1.toNat)
    | 3 => some (.setFlag b1.toNat)
    | 4 =>
      match b6.toNat with
      | 0 => some (.mark b1.toNat (num2 b2 b3) (num2 b4 b5) .halt)
      | 1 => some (.mark b1.toNat (num2 b2 b3) (num2 b4 b5) .go)
      | _ => none
    | 5 => some (.contour (num2 b1 b2) b3.toNat)
    | 6 => some (.remnant (num2 b1 b2))
    | 7 =>
      let flag : Option Nat := if b5.toNat = 255 then none else some b5.toNat
      match b1.toNat, b6.toNat with
      | 0, 0 => some (.move .bedStock b2.toNat b3.toNat b4.toNat flag .wait)
      | 0, 1 => some (.move .bedStock b2.toNat b3.toNat b4.toNat flag .noWait)
      | 1, 0 => some (.move .batch b2.toNat b3.toNat b4.toNat flag .wait)
      | 1, 1 => some (.move .batch b2.toNat b3.toNat b4.toNat flag .noWait)
      | _, _ => none
    | 8 => some .finish
    | _ => none
  | _ => none

/-- The ten bytes of a step, as PROG_READ returns it (R64); an unwritten position has kind byte 0. -/
def stepImage : Option NestStep → List Byte
  | none => List.replicate 10 0
  | some (.plate mode r) =>
    [1, (if mode = .allocate then 0 else 1), byteOf r.grade] ++ bytes2 r.thick ++ bytes2 r.len ++ bytes2 r.wid
      ++ [byteOf r.pref]
  | some (.waitFlag f) => [2, byteOf f] ++ List.replicate 8 0
  | some (.setFlag f) => [3, byteOf f] ++ List.replicate 8 0
  | some (.mark id x y m) =>
    [4, byteOf id] ++ bytes2 x ++ bytes2 y ++ [if m = .halt then 0 else 1] ++ List.replicate 3 0
  | some (.contour n p) => [5] ++ bytes2 n ++ [byteOf p] ++ List.replicate 6 0
  | some (.remnant u) => [6] ++ bytes2 u ++ List.replicate 7 0
  | some (.move l tag z sl f c) =>
    [7, (if l = .bedStock then 0 else 1), byteOf tag, byteOf z, byteOf sl, byteOf (f.getD 255),
      (if c = .wait then 0 else 1)] ++ List.replicate 3 0
  | some .finish => [8] ++ List.replicate 9 0

/-- Cuts the steps of PROG_STEPS out of its data and reads each; `none` where one cannot be read. -/
def parseSteps : Nat → List Byte → Option (List NestStep)
  | 0, _ => some []
  | n + 1, bs =>
    match parseStep (bs.take 10), parseSteps n (bs.drop 10) with
    | some x, some xs => some (x :: xs)
    | _, _ => none

/-- Whether every parameter of a step lies within Table 3-2. The destination of a MOVE is tested against the map by
the eighth test of Table 3-3. -/
def stepInRange : NestStep → Bool
  | .plate .allocate r => reqOk r
  | .plate .adopt _ => true
  | .waitFlag f => decide (f ≤ 15)
  | .setFlag f => decide (f ≤ 15)
  | .mark id x y _ => within 1 255 id && decide (x ≤ 18000) && decide (y ≤ 4000)
  | .contour n p => within 1 999 n && within 1 8 p
  | .remnant u => decide (u ≤ 18000)
  | .move l tag z _ f _ =>
    (decide (l = .bedStock) || within 1 255 tag) && decide (z ≤ 15) && decide (f.getD 0 ≤ 15)
  | .finish => true

/-! ## Stock records (Table 12-8) -/

def StockState.number : StockState → Nat
  | .available => 0
  | .reserved => 1
  | .moving => 2
  | .onBed => 3
  | .quarantined => 4
  | .held => 5

/-- The state a number names, in the order of Table 1-3. -/
def stockStateOf : Nat → Option StockState
  | 0 => some .available
  | 1 => some .reserved
  | 2 => some .moving
  | 3 => some .onBed
  | 4 => some .quarantined
  | 5 => some .held
  | _ => none

/-- Two decimal digits in a byte, the first in the high half. -/
def digitPairs : List Nat → List Byte
  | a :: b :: rest => byteOf (a * 16 + b) :: digitPairs rest
  | _ => []

/-- Bytes 0 to 31 of a stock record, as STOCK_QUERY returns it (R20, Table 12-8). R20 gives the pick lock and the delivery
count for a record in a slot alone, and Table 12-8 has the heat bytes of a record without a heat disregarded; the model sends 0
in bytes 29 and 30 of a record on a hook, and in bytes 11 to 14 of one without a heat. DESIGN CHOICE
(notes/assumptions/19.md). -/
def State.stockImage (s : State) (x : StockRec) : List Byte :=
  let lock : SlotLock := match x.loc with
    | .slot r _ => s.lock r
    | .hook _ => { pick := none, deliveries := 0 }
  bytes2 x.id ++ [byteOf (if x.kind = .plate then 0 else 1), byteOf x.grade] ++ bytes2 x.thick ++ bytes2 x.len
    ++ bytes2 x.wid
    ++ [byteOf ((if x.heat.isSome then 1 else 0) + (if x.parent.isSome then 2 else 0))]
    ++ digitPairs (x.heat.getD (List.replicate 8 0)) ++ bytes2 (x.parent.getD 0) ++ [byteOf x.gen]
    ++ (match x.loc with
        | .slot r _ => [byteOf r.zone.val, byteOf r.slot.val]
        | .hook c => [0xFF, byteOf (c.val + 1)])
    ++ bytes4 x.age
    ++ [byteOf x.depth, byteOf x.state.number, byteOf (x.table.elim 255 (fun t => t.val + 1)),
        byteOf (x.before.elim 255 StockState.number), byteOf (x.move.getD 0), byteOf (lock.pick.getD 0),
        byteOf lock.deliveries, 0]

/-- Test 1 of STOCK_REGISTER (R16) on everything but the location: the ranges of Table 1-2 and R5, the digits of a
heat that is present, and generation 0 for a PLATE. Presence bits 1 to 7 and the parent bytes are disregarded: R16 names no
parent among the fields of the request, and does not say whether such a body is refused. DESIGN CHOICE
(notes/assumptions/20.md). -/
def stockBodyOk (b : StockBody) : Bool :=
  within 1 Config.lastHostId b.id && decide (b.kind ≤ 1) && decide (b.grade ≤ 63) && within 40 1000 b.thick
    && within 300 18000 b.len && within 300 4000 b.wid && decide (b.gen ≤ 7)
    && (decide (b.kind = 1) || decide (b.gen = 0))
    && (decide (b.presence % 2 = 0) || b.heat.all (fun d => decide (d ≤ 9)))

/-! ## Marker frames (Table 12-12, R116) -/

/-- The check nibble of a frame (R116). -/
def checkNibble (chars : List Nat) (frame : Nat) : Nat := (chars.sum + frame + chars.length) % 16

/-- The characters of frame `n` of a string: six, or what is left. -/
def frameChars (str : List Nat) (n : Nat) : List Nat := (str.drop (6 * n)).take 6

/-- ceil(c / 6), the number of frames of a string. -/
def frameCount (str : List Nat) : Nat := (str.length + 5) / 6

/-- The MARK_FRAME of frame `n` of a string under a token (R116, R121). -/
def markFrameOf (token : Nat) (str : List Nat) (n : Nat) : MarkFrame :=
  { token := token, frame := n, count := (frameChars str n).length, chars := frameChars str n,
    check := checkNibble (frameChars str n) n }

/-- The ten bytes of a MARK_FRAME body; bytes past the count are 0 (Table 12-12). -/
def MarkFrame.image (f : MarkFrame) : List Byte :=
  [byteOf f.token, byteOf f.frame, byteOf f.count] ++ f.chars.map byteOf
    ++ List.replicate (6 - f.chars.length) 0 ++ [byteOf f.check]

/-! ## Table and crane configuration -/

def optWithin (lo hi : Nat) : Option Nat → Bool
  | none => true
  | some v => within lo hi v

/-- Whether every present parameter lies in its range (Table 4-4). -/
def tableParamsOk (p : TableParams) : Bool :=
  optWithin 0 20 p.kerf && optWithin 0 100 p.trim && optWithin 300 6000 p.minLen && optWithin 1 1000 p.minArea
    && optWithin 0 30 p.settle && optWithin 10 3600 p.contourLimit && optWithin 500 60000 p.wearLimit

/-- The configuration with every present parameter at its new value (R96). -/
def TableCfg.update (c : TableCfg) (p : TableParams) : TableCfg :=
  { kerf := p.kerf.getD c.kerf, trim := p.trim.getD c.trim, minLen := p.minLen.getD c.minLen,
    minArea := p.minArea.getD c.minArea, settle := p.settle.getD c.settle,
    contourLimit := p.contourLimit.getD c.contourLimit, wearLimit := p.wearLimit.getD c.wearLimit }

/-- Whether every present parameter lies in its range (Table 9-5). -/
def craneParamsOk (p : CraneParams) : Bool :=
  optWithin 5 120 p.base && optWithin 1 30 p.perZone && optWithin 10 300 p.handling

/-- The configuration with every present parameter at its new value (R187). -/
def CraneCfg.update (c : CraneCfg) (p : CraneParams) : CraneCfg :=
  { base := p.base.getD c.base, perZone := p.perZone.getD c.perZone, handling := p.handling.getD c.handling }

/-! ## Beacon settings (R213) -/

/-- The source that a number and an argument name, in the order of Table 11-7; tables count from 1, zones from 0 and
cranes from 1. For OFF, ON, FAULT_LOCKED and HALL_STOPPED, which have no table, zone or crane, the argument is disregarded:
DESIGN CHOICE (notes/assumptions/3.md). -/
def beaconSourceOf (source arg : Nat) : Option BeaconSource :=
  match source with
  | 0 => some .off
  | 1 => some .on
  | 2 => (numbered 4 1 arg).map .tableArc
  | 3 => (numbered 4 1 arg).map .tableHalted
  | 4 => (numbered 4 1 arg).map .tableWear
  | 5 => (numbered 16 0 arg).map .zoneTransit
  | 6 => (numbered 2 1 arg).map .craneBusy
  | 7 => some .faultLocked
  | 8 => some .hallStopped
  | _ => none

def patternOf : Nat → Option Pattern
  | 0 => some .steady
  | 1 => some .slow
  | 2 => some .fast
  | _ => none

/-- The report class of a number 1 to 8, in the order of Table 12-2. -/
def classOf : Nat → Option ReportClass
  | 1 => some .table
  | 2 => some .stock
  | 3 => some .move
  | 4 => some .mark
  | 5 => some .wear
  | 6 => some .flag
  | 7 => some .unit
  | 8 => some .hall
  | _ => none

/-- The zone kind of a HALL_MAP entry, in the order R2 names the kinds; a TABLE entry needs a table number 1 to 4.
R2 gives a table to TABLE entries alone, and does not say whether a value beside another kind is refused; the model disregards
it. DESIGN CHOICE (notes/assumptions/3.md). -/
def zoneKindOf (e : Nat × Nat) : Option ZoneKind :=
  match e.1 with
  | 0 => some .park
  | 1 => some .stock
  | 2 => some .rack
  | 3 => (numbered 4 1 e.2).map .table
  | 4 => some .output
  | _ => none

end Sys2Proof.Machine
end

