-- ==== Sys2Proof/Decode.lean ====
section
/-! DEFINITION. The request that an intact host frame spells (R216, 12.6), and the frame of a request. The opcode table
gives its rows no bits, so no word spells a command. Body layouts that 12.6 does not give are the model's own, from its
two conventions: values in the order the chapter names the fields, a number in as many bytes as its range needs
(notes/assumptions/3.md). -/

namespace Sys2Proof

open Machine

/-- The command that a word spells by the bits of spec/opcode_table.json: none of its rows has bits. -/
def decodeTableWord (_nbits _w : Nat) : Option Instr := none

/-! ## Shapes of bodies -/

def body0 (i : Instr) : List Byte → Option Instr
  | [] => some i
  | _ => none

def body1 (f : Nat → Instr) : List Byte → Option Instr
  | [a] => some (f a.toNat)
  | _ => none

def body2 (f : Nat → Nat → Instr) : List Byte → Option Instr
  | [a, b] => some (f a.toNat b.toNat)
  | _ => none

/-- A body of one number in two bytes. -/
def bodyId (f : Nat → Instr) : List Byte → Option Instr
  | [a, b] => some (f (num2 a b))
  | _ => none

def body4 (f : Nat → Nat → Nat → Nat → Instr) : List Byte → Option Instr
  | [a, b, c, d] => some (f a.toNat b.toNat c.toNat d.toNat)
  | _ => none

/-- Pairs of bytes as numbers. -/
def pairsOf : List Byte → List (Nat × Nat)
  | a :: b :: rest => (a.toNat, b.toNat) :: pairsOf rest
  | _ => []

/-- The half bytes of bytes, the high half first. -/
def halves : List Byte → List Nat
  | [] => []
  | a :: rest => a.toNat / 16 :: a.toNat % 16 :: halves rest

/-- A parameter that a presence byte marks present or absent. -/
def present (bits : Nat) (i : Nat) (a b : Byte) : Option Nat :=
  if bits / 2 ^ i % 2 = 1 then some (num2 a b) else none

/-- STOCK_REGISTER (Table 12-8, bytes 0 to 19). -/
def stockBody : List Byte → Option Instr
  | [i1, i2, k, g, t1, t2, l1, l2, w1, w2, p, h1, h2, h3, h4, r1, r2, n, z, s] =>
    some (.stockRegister
      { id := num2 i1 i2, kind := k.toNat, grade := g.toNat, thick := num2 t1 t2, len := num2 l1 l2, wid := num2 w1 w2,
        presence := p.toNat, heat := halves [h1, h2, h3, h4], parent := num2 r1 r2, gen := n.toNat, zone := z.toNat,
        slot := s.toNat })
  | _ => none

/-- ALLOC_PROBE: the five fields of Table 2-1. -/
def probeBody : List Byte → Option Instr
  | [g, t1, t2, l1, l2, w1, w2, p] =>
    some (.allocProbe
      { grade := g.toNat, thick := num2 t1 t2, len := num2 l1 l2, wid := num2 w1 w2, pref := p.toNat })
  | _ => none

/-- PROG_STEPS: table, first index, count, and the steps, ten bytes each (12.6). -/
def stepsBody : List Byte → Option Instr
  | t :: f :: c :: data =>
    if data.length = 10 * c.toNat then some (.progSteps t.toNat f.toNat c.toNat data) else none
  | _ => none

/-- TABLE_CONFIG: table, presence bits, and the seven parameters of Table 4-4. -/
def tableBody : List Byte → Option Instr
  | [t, p, a1, a2, b1, b2, c1, c2, d1, d2, e1, e2, f1, f2, g1, g2] =>
    some (.tableConfig t.toNat
      { kerf := present p.toNat 0 a1 a2, trim := present p.toNat 1 b1 b2, minLen := present p.toNat 2 c1 c2,
        minArea := present p.toNat 3 d1 d2, settle := present p.toNat 4 e1 e2,
        contourLimit := present p.toNat 5 f1 f2, wearLimit := present p.toNat 6 g1 g2 })
  | _ => none

/-- CRANE_CONFIG: crane, presence bits, and the three parameters of Table 9-5. -/
def craneBody : List Byte → Option Instr
  | [c, p, a1, a2, b1, b2, d1, d2] =>
    some (.craneConfig c.toNat
      { base := present p.toNat 0 a1 a2, perZone := present p.toNat 1 b1 b2, handling := present p.toNat 2 d1 d2 })
  | _ => none

/-- What follows the codes of MARK_DEFINE: the serial digits, a first digit of 0xFF standing for an absent serial, and
the heat suffix. -/
def markTail (id count : Nat) (codes : List Nat) : List Byte → Option Instr
  | [s1, s2, s3, s4, h] =>
    let serial := if s1.toNat = 255 then none else some [s1.toNat, s2.toNat, s3.toNat, s4.toNat]
    some (.markDefine { id := id, count := count, codes := codes, serial := serial, heat := h.toNat })
  | _ => none

/-- MARK_DEFINE: mark id, count, the codes, then the tail. -/
def markBody : List Byte → Option Instr
  | i :: c :: rest => markTail i.toNat c.toNat ((rest.take c.toNat).map BitVec.toNat) (rest.drop c.toNat)
  | _ => none

def serialBody : List Byte → Option Instr
  | [i, a, b, c, d] => some (.markSerialSet i.toNat [a.toNat, b.toNat, c.toNat, d.toNat])
  | _ => none

/-- MOVE_POST (Table 12-10): the record id stands in bytes 1 and 2, and so does the tag, byte 1 being 0. -/
def postBody : List Byte → Option Instr
  | [l, r1, r2, sz, dz, ds, p, f] =>
    some (.movePost
      { load := l.toNat, ref := num2 r1 r2, srcZone := sz.toNat, dstZone := dz.toNat, dstSlot := ds.toNat,
        priority := p.toNat, flag := f.toNat })
  | _ => none

def bits1 (f : Byte → Instr) : List Byte → Option Instr
  | [a] => some (f a)
  | _ => none

/-! ## Kinds (Table 12-5) -/

/-- The reader of the body of a request kind; none for a number of no kind. -/
def bodyOf : Nat → Option (List Byte → Option Instr)
  | 1 => some (fun b => if b.length = 32 then some (.hallMap (pairsOf b)) else none)
  | 2 => some (body0 .mapQuery)
  | 3 => some stockBody
  | 4 => some (bodyId .stockRemove)
  | 5 => some (bodyId .stockQuarantine)
  | 6 => some (bodyId .stockRelease)
  | 7 => some (bodyId .stockQuery)
  | 8 => some (fun b => match b with
      | [f, a, s] => some (.stockList f.toNat a.toNat s.toNat)
      | _ => none)
  | 9 => some (body2 .slotQuery)
  | 10 => some (body0 .allocQuery)
  | 11 => some probeBody
  | 12 => some (body0 .accountRead)
  | 13 => some (body0 .accountClear)
  | 14 => some (body2 .progBegin)
  | 15 => some stepsBody
  | 16 => some (body1 .progCommit)
  | 17 => some (body1 .progDiscard)
  | 18 => some (body1 .progStart)
  | 19 => some (body1 .progAbort)
  | 20 => some (body1 .progQuery)
  | 21 => some (body4 .progRead)
  | 22 => some (body2 .tableResume)
  | 23 => some tableBody
  | 24 => some (body1 .wearReset)
  | 25 => some (body1 .wearQuery)
  | 26 => some markBody
  | 27 => some (body1 .markDelete)
  | 28 => some (body1 .markQuery)
  | 29 => some serialBody
  | 30 => some (body0 .composerQuery)
  | 31 => some (body1 .flagSet)
  | 32 => some (body1 .flagClear)
  | 33 => some (body1 .flagQuery)
  | 34 => some (body1 .guardQuery)
  | 35 => some postBody
  | 36 => some (body1 .craneResume)
  | 37 => some (body1 .moveAcceptWeight)
  | 38 => some (body1 .moveAbort)
  | 39 => some (body1 .moveRetry)
  | 40 => some (body4 .moveRecover)
  | 41 => some (body1 .moveCancel)
  | 42 => some (body1 .moveQuery)
  | 43 => some (body1 .craneStatus)
  | 44 => some craneBody
  | 45 => some (body1 .unitRestore)
  | 46 => some (body1 .unitMaintain)
  | 47 => some (body1 .unitQuery)
  | 48 => some (body0 .hallRun)
  | 49 => some (body0 .hallContinue)
  | 50 => some (body0 .hallReset)
  | 51 => some (body1 .faultRead)
  | 52 => some (body4 .beaconSet)
  | 53 => some (body0 .beaconQuery)
  | 54 => some (body0 .hallStatus)
  | 55 => some (bits1 .reportStatus)
  | 56 => some (bits1 .reportMask)
  | 57 => some (body1 .reportForce)
  | _ => none

/-- The command that the frame at the head of the receive buffer stands for (R216). A frame with a unit field of 1 to 6
is a pass-through frame. One with another unit field than 15, an unknown kind, or a body of the wrong length is what
REQUEST_UNKNOWN_KIND refuses. -/
def decodeFrame (f : HostFrame) : Instr :=
  if 1 ≤ f.unit.toNat ∧ f.unit.toNat ≤ 6 then .passThroughFrame f
  else if f.unit.toNat ≠ 15 then .requestUnknownKind f
  else ((bodyOf f.kind.toNat).bind (fun d => d f.body)).getD (.requestUnknownKind f)

/-! ## The frames of the requests -/

/-- The two bytes of a parameter, 0 where it is absent. -/
def paramBytes (p : Option Nat) : List Byte := bytes2 (p.getD 0)

/-- The presence bits of a list of parameters, the first in bit 0. -/
def presenceOf : List (Option Nat) → Nat
  | [] => 0
  | p :: ps => (if p.isSome then 1 else 0) + 2 * presenceOf ps

/-- The bytes that pairs of half bytes make. -/
def joinHalves : List Nat → List Byte
  | a :: b :: rest => byteOf (a * 16 + b) :: joinHalves rest
  | _ => []

/-- Kind number and body of a request (Table 12-5, 12.6); none for a command that no frame of the CH-42's own unit
field spells. -/
def encodeBody : Instr → Option (Nat × List Byte)
  | .hallMap es => some (1, es.flatMap (fun e => [byteOf e.1, byteOf e.2]))
  | .mapQuery => some (2, [])
  | .stockRegister b => some (3, bytes2 b.id ++ [byteOf b.kind, byteOf b.grade] ++ bytes2 b.thick ++ bytes2 b.len
      ++ bytes2 b.wid ++ [byteOf b.presence] ++ joinHalves b.heat ++ bytes2 b.parent
      ++ [byteOf b.gen, byteOf b.zone, byteOf b.slot])
  | .stockRemove id => some (4, bytes2 id)
  | .stockQuarantine id => some (5, bytes2 id)
  | .stockRelease id => some (6, bytes2 id)
  | .stockQuery id => some (7, bytes2 id)
  | .stockList f a s => some (8, [byteOf f, byteOf a, byteOf s])
  | .slotQuery z s => some (9, [byteOf z, byteOf s])
  | .allocQuery => some (10, [])
  | .allocProbe r => some (11, [byteOf r.grade] ++ bytes2 r.thick ++ bytes2 r.len ++ bytes2 r.wid ++ [byteOf r.pref])
  | .accountRead => some (12, [])
  | .accountClear => some (13, [])
  | .progBegin t n => some (14, [byteOf t, byteOf n])
  | .progSteps t f c data => some (15, [byteOf t, byteOf f, byteOf c] ++ data)
  | .progCommit t => some (16, [byteOf t])
  | .progDiscard t => some (17, [byteOf t])
  | .progStart t => some (18, [byteOf t])
  | .progAbort t => some (19, [byteOf t])
  | .progQuery t => some (20, [byteOf t])
  | .progRead t s f c => some (21, [byteOf t, byteOf s, byteOf f, byteOf c])
  | .tableResume t m => some (22, [byteOf t, byteOf m])
  | .tableConfig t p => some (23,
      [byteOf t, byteOf (presenceOf [p.kerf, p.trim, p.minLen, p.minArea, p.settle, p.contourLimit, p.wearLimit])]
        ++ paramBytes p.kerf ++ paramBytes p.trim ++ paramBytes p.minLen ++ paramBytes p.minArea
        ++ paramBytes p.settle ++ paramBytes p.contourLimit ++ paramBytes p.wearLimit)
  | .wearReset t => some (24, [byteOf t])
  | .wearQuery t => some (25, [byteOf t])
  | .markDefine m => some (26, [byteOf m.id, byteOf m.count] ++ m.codes.map byteOf
      ++ (m.serial.getD [255, 0, 0, 0]).map byteOf ++ [byteOf m.heat])
  | .markDelete id => some (27, [byteOf id])
  | .markQuery id => some (28, [byteOf id])
  | .markSerialSet id ds => some (29, byteOf id :: ds.map byteOf)
  | .composerQuery => some (30, [])
  | .flagSet f => some (31, [byteOf f])
  | .flagClear f => some (32, [byteOf f])
  | .flagQuery f => some (33, [byteOf f])
  | .guardQuery z => some (34, [byteOf z])
  | .movePost b => some (35, [byteOf b.load] ++ bytes2 b.ref
      ++ [byteOf b.srcZone, byteOf b.dstZone, byteOf b.dstSlot, byteOf b.priority, byteOf b.flag])
  | .craneResume c => some (36, [byteOf c])
  | .moveAcceptWeight m => some (37, [byteOf m])
  | .moveAbort m => some (38, [byteOf m])
  | .moveRetry m => some (39, [byteOf m])
  | .moveRecover m l z s => some (40, [byteOf m, byteOf l, byteOf z, byteOf s])
  | .moveCancel m => some (41, [byteOf m])
  | .moveQuery m => some (42, [byteOf m])
  | .craneStatus c => some (43, [byteOf c])
  | .craneConfig c p => some (44, [byteOf c, byteOf (presenceOf [p.base, p.perZone, p.handling])]
      ++ paramBytes p.base ++ paramBytes p.perZone ++ paramBytes p.handling)
  | .unitRestore u => some (45, [byteOf u])
  | .unitMaintain u => some (46, [byteOf u])
  | .unitQuery u => some (47, [byteOf u])
  | .hallRun => some (48, [])
  | .hallContinue => some (49, [])
  | .hallReset => some (50, [])
  | .faultRead c => some (51, [byteOf c])
  | .beaconSet o s a p => some (52, [byteOf o, byteOf s, byteOf a, byteOf p])
  | .beaconQuery => some (53, [])
  | .hallStatus => some (54, [])
  | .reportStatus b => some (55, [b])
  | .reportMask b => some (56, [b])
  | .reportForce c => some (57, [byteOf c])
  | .powerOnReset .. => none
  | .hallClockTick => none
  | .hallStopAsserted _ => none
  | .hallStopReleased _ => none
  | .beaconPatternToggle _ => none
  | .hostFrameReceived _ => none
  | .hostCharGapTimeout _ => none
  | .transmitterFree => none
  | .requestUnknownKind _ => none
  | .passThroughFrame _ => none
  | .passThroughAnswer .. => none
  | .passThroughTimeout _ => none
  | .lineCommandTurn => none
  | .lineOfferTurn => none
  | .ack .. => none
  | .nak .. => none
  | .status .. => none
  | .fieldAnswerTimeout => none
  | .damagedFieldFrame => none
  | .empty .. => none
  | .offerWindowTimeout => none
  | .contourDone .. => none
  | .contourFault .. => none
  | .contourTimerExpiry _ => none
  | .frameEcho .. => none
  | .frameReject .. => none
  | .echoTimerExpiry => none
  | .arrived .. => none
  | .picked .. => none
  | .placed .. => none
  | .craneFault .. => none
  | .phaseTimerExpiry _ => none
  | .settleExpiry _ => none
  | .waitListWalk => none
  | .dispatchAttempt => none
  | .hostCharBadStopBit => none
  | .resetPinAsserted => none

/-- The host frame of a request of the CH-42 with a tag, as the receive buffer holds it. -/
def encodeFrame (i : Instr) (tag : Byte) : Option HostFrame :=
  (encodeBody i).map (fun p => { unit := 15, kind := byteOf p.1, tag := tag, body := p.2 })

end Sys2Proof
end

