-- ==== Sys2Proof/Machine/Flags.lean ====
section
/-! DEFINITION. The sync flags (chapter 7): a set of a flag, the consumption of a flag, withdrawal from a waiter list. -/

namespace Sys2Proof.Machine

/-- What a set of a flag record does (Table 7-2). -/
def FlagRec.outcome (r : FlagRec) : SetOutcome :=
  if r.value then .overrun
  else match r.waiters with
    | [] => .set
    | t :: _ => .released t

/-- The flag record after a set (Table 7-2). -/
def FlagRec.afterSet (r : FlagRec) : FlagRec :=
  match r.outcome with
  | .released _ => { r with waiters := r.waiters.tail }
  | .set => { r with value := true }
  | .overrun => { r with overrun := true }

/-- One set of a flag (R134): the record is complete before a released table's step ends (R135), and an overrun raises
FLAG_OVERRUN (R136). -/
def runSetFlag (f : FlagId) (source : SetSource) (s : State) : State :=
  let r := s.flag f
  let s' := s.setFlagRec f r.afterSet
  match r.outcome with
  | .released t => s'.push [.stepEnd t]
  | .set => s'
  | .overrun => s'.raise (.flagOverrun f source s.hall.clock)

/-- A table leaves every waiter list; values and overrun marks stay (R139). -/
def State.dropWaiter (s : State) (t : TableId) : State :=
  { s with flags := s.flags.map (fun r => { r with waiters := r.waiters.filter (fun w => w ≠ t) }) }

end Sys2Proof.Machine
end

