-- ==== Sys2Proof/Machine/Tables.lean ====
section
/-! DEFINITION. Changes of a table's state with their report (R68), halting (R69), and what a table holds on its bed. -/

namespace Sys2Proof.Machine

/-- The TABLE_STATE report of a table as it stands (R68). -/
def State.tableReport (s : State) (t : TableId) : Report :=
  let r := s.tab t
  .tableState t r.state (r.active.map Active.index) (if r.state = .halted then r.cause else none)
    (r.active.bind Active.loaded)

/-- The table enters a state other than HALTED. A change of state raises TABLE_STATE (R68); a halt cause is absent
outside HALTED (Table 4-1). -/
def State.enter (s : State) (t : TableId) (st : TableState) : State :=
  let s' := s.modTab t (fun r => { r with state := st, cause := none })
  if (s.tab t).state = st then s' else s'.raise (s'.tableReport t)

/-- The class and code of the fault a halt hands to the first-fault record; none for HALL_STOP and UNIT_LOST
(Table 4-3, R69). -/
def HaltCause.fault : HaltCause → Option (FaultClass × FaultCode)
  | .hallStop => none
  | .contourFault => some (.unit, .contourFault)
  | .contourTimeout => some (.unit, .contourTimeout)
  | .markFault => some (.unit, .markFault)
  | .mismark => some (.note, .mismark)
  | .markOffPlate => some (.note, .markOffPlate)
  | .markUndefined => some (.note, .markUndefined)
  | .serialSpent => some (.note, .serialSpent)
  | .noPlate => some (.note, .noPlate)
  | .moveRefused _ => some (.note, .moveRefused)
  | .unitLost => none

/-- The table halts (R69): HALTED with the cause, the context, claim and swap-pending kept, TABLE_STATE raised, and then
the fault handed on where the cause has one. -/
def runHalt (t : TableId) (cause : HaltCause) (s : State) : State :=
  let s := s.modTab t (fun r => { r with state := .halted, cause := some cause })
  let s := s.raise (s.tableReport t)
  match cause.fault with
  | none => s
  | some (cls, code) => s.capture cls (.table t) code ((s.tab t).active.map Active.index)

/-- The program context changes. -/
def State.modActive (s : State) (t : TableId) (f : Active → Active) : State :=
  s.modTab t (fun r => { r with active := r.active.map f })

/-- The step at the step index of the running program. -/
def TableRec.step (r : TableRec) : Option NestStep := r.active.bind (fun a => a.steps[a.index]?)

/-- The LOADED plate's record when it lies ON_BED on BED n (R77, R79). -/
def State.loadedOnBed (s : State) (t : TableId) : Option StockRec :=
  match (s.tab t).active.bind Active.loaded, s.bedRec t with
  | some id, some x => if x.id = id ∧ x.state = .onBed then some x else none
  | _, _ => none

/-- A reservation without a move goes back: the record becomes AVAILABLE and a stock-change event follows (R91). -/
def State.returnReservation (s : State) (t : TableId) : State :=
  match (s.tab t).claim with
  | .reserved id => (s.makeAvailable id).modTab t (fun r => { r with claim := .none })
  | _ => s

/-- The step in progress ends and the next one starts in the same handling (R70). -/
def runStepEnd (t : TableId) (s : State) : State :=
  (s.modActive t (fun a => { a with index := a.index + 1 })).push [.stepStart t]

end Sys2Proof.Machine
end

