-- ==== Sys2Proof/Machine/Lines.lean ====
section
/-! DEFINITION. The Field Line Unit: handing a command to a unit (R192), the end of an exchange (R194), the counting of
failures (R195), the loss of a unit (R197) and the outcomes of a restore (R198). -/

namespace Sys2Proof.Machine

def FieldCmd.kind : FieldCmd → CmdKind
  | .runContour .. => .runContour
  | .arcKill => .arcKill
  | .markStart .. => .markStart
  | .markFrame _ => .markFrame
  | .goto _ => .goto
  | .pick _ => .pick
  | .place _ => .place
  | .stop => .stop
  | .statusQuery => .statusQuery

/-- Whether a command travels on the marker channel (Table 10-3). -/
def cmdMarker : CmdKind → Bool
  | .markStart => true
  | .markFrame => true
  | _ => false

/-- The commands a STOP removes from the waiting list (R192). -/
def cmdMotion : CmdKind → Bool
  | .goto => true
  | .pick => true
  | .place => true
  | _ => false

/-- The unit record after a command is taken; `none` when four commands wait already (R192). A STOP or ARC_KILL goes to
the head of the waiting list, after the removal of what it is meant to stop; a STATUS_QUERY merges with one that is
outstanding or waiting. -/
def UnitRec.take (r : UnitRec) (h : Handed) : Option UnitRec :=
  match r.out with
  | none => some { r with out := some { cmd := h, attempt := 1, inFlight := false } }
  | some o =>
    match h.cmd.kind with
    | .statusQuery =>
      if o.cmd.cmd.kind = .statusQuery || r.waiting.any (fun w => w.cmd.kind = .statusQuery) then some r
      else if r.waiting.length < Config.maxWaiting then some { r with waiting := r.waiting ++ [h] } else none
    | .stop =>
      let w := r.waiting.filter (fun w => !cmdMotion w.cmd.kind)
      if w.length < Config.maxWaiting then some { r with waiting := h :: w } else none
    | .arcKill =>
      let w := r.waiting.filter (fun w => w.cmd.kind ≠ .runContour)
      if w.length < Config.maxWaiting then some { r with waiting := h :: w } else none
    | _ => if r.waiting.length < Config.maxWaiting then some { r with waiting := r.waiting ++ [h] } else none

/-- Whether a handing is taken at all: the unit is ONLINE, or it is the STATUS_QUERY of a restore (R192). -/
def UnitRec.takes (r : UnitRec) (sender : Sender) : Bool :=
  r.link = .online || (r.restoring && sender = .restore)

/-- A block hands a command to the Field Line Unit (R192): discarded, taken, or answered NAK at once. -/
def State.handTo (s : State) (u : UnitId) (cmd : FieldCmd) (sender : Sender) : State :=
  let h : Handed := { cmd := cmd, sender := sender, hand := s.line.nextHand }
  let s := { s with line := { s.line with nextHand := s.line.nextHand + 1 } }
  if (s.unit u).takes sender then
    match (s.unit u).take h with
    | some r => s.modUnit u (fun _ => r)
    | none => s.push [.answered u h .nak]
  else s

/-- The outstanding command ends, and the oldest waiting command becomes outstanding, DUE at attempt 1 (R192). -/
def UnitRec.next (r : UnitRec) : UnitRec :=
  match r.waiting with
  | [] => { r with out := none }
  | h :: rest => { r with out := some { cmd := h, attempt := 1, inFlight := false }, waiting := rest }

def State.closeWindow (s : State) : State := { s with line := { s.line with window := none } }

/-- A report that no block could act on (R196). -/
def State.stray (s : State) (u : UnitId) : State :=
  s.modUnit u (fun r => { r with strays := min (r.strays + 1) Config.lastStray })

/-- A good answer (R194): the count becomes 0, the command ends, and the answer goes to its sender with the command. -/
def State.goodAnswer (s : State) (u : UnitId) (o : Outstanding) (a : Answer) : State :=
  (s.closeWindow.modUnit u (fun r => { r.next with fails := 0 })).push [.answered u o.cmd a]

/-- The unit is taken OFFLINE (R197). -/
def State.lose (s : State) (u : UnitId) (cause : LossCause) : State :=
  let cmd := (s.unit u).out.map (fun o => (o.cmd.cmd.kind, o.attempt))
  let s := s.modUnit u (fun r => { r with link := .offline, fails := Config.maxFailures, out := none, waiting := [] })
  let s := if s.line.window.any (fun w => w.unit = u) then s.closeWindow else s
  let s := s.raise (.unitOffline u cause cmd s.hall.clock)
  match ownerOf u with
  | .table t => (s.capture .unit (.table t) .unitLost none).push [.tableLost t, .composerLost t]
  | .crane c => (s.capture .unit (.crane c) .unitLost none).push [.craneLost c]

/-- STATUS_QUERY no longer awaits an answer: for a crane, status awaited is cleared (R160). -/
def State.endAwaited (s : State) (u : UnitId) : State :=
  match ownerOf u with
  | .table _ => s
  | .crane c => s.modCrane c (fun r => { r with awaited := false })

/-- A restore ends without a good STATUS (R198): restoring is cleared, the link state is kept, and the request is
refused with UNIT_LOST. -/
def State.restoreFailed (s : State) (u : UnitId) (fails : Nat) : State :=
  let s := (s.modUnit u (fun r => { r.next with restoring := false, fails := fails })).endAwaited u
  if s.host.hand = .waiting (.unitRestore u) then s.refuse .unitLost else s

/-- A restore ends with a good STATUS (R198): ONLINE with count 0, UNIT_BACK raised, the content handed to the owner,
and the request answered with what the owner then is. -/
def State.restoreGood (s : State) (u : UnitId) (content : StatusContent) : State :=
  let was := (s.unit u).link
  let s := s.modUnit u (fun r => { r with restoring := false, fails := 0, link := .online })
  let s := s.raise (.unitBack u was content s.hall.clock)
  match ownerOf u, content with
  | .table t, .arc on => s.push [.tableBack t on, .replyRestored u was content]
  | .crane c, .crane z load =>
    if h : z < 16 then s.push [.craneBack c ⟨z, h⟩ load, .replyRestored u was content] else s
  | _, _ => s

/-- The reply to UNIT_RESTORE (R198). -/
def runReplyRestored (u : UnitId) (from_ : Link) (content : StatusContent) (s : State) : State :=
  if s.host.hand = .waiting (.unitRestore u) then
    match ownerOf u with
    | .table t => s.accept (.restoredTable from_ content (s.tab t).state)
    | .crane c => s.accept (.restoredCrane from_ content (s.crane c).state)
  else s

/-- A failed attempt of the outstanding command (R194, R195): the third failure takes an ONLINE unit OFFLINE; the third
attempt ends a restore; otherwise the command becomes DUE again at its next attempt. A unit in MAINTENANCE has no
failures counted. -/
def State.failCommand (s : State) (u : UnitId) (cause : LossCause) : State :=
  let r := s.unit u
  let fails := if r.link = .maintenance then r.fails else min (r.fails + 1) Config.maxFailures
  let again : State := s.closeWindow.modUnit u (fun r => { r with
    fails := fails, out := r.out.map (fun o => { o with attempt := o.attempt + 1, inFlight := false }) })
  if r.link = .online then
    if Config.maxFailures ≤ fails then s.closeWindow.lose u cause else again
  else if r.restoring then
    if r.out.any (fun o => Config.maxFailures ≤ o.attempt) then
      s.closeWindow.restoreFailed u (if r.link = .maintenance then 0 else Config.maxFailures)
    else again
  else s.closeWindow

/-- A failure of a report: a damaged frame that answers an OFFER, or an ARRIVED outside the runway (R195). -/
def State.failReport (s : State) (u : UnitId) : State :=
  let r := s.unit u
  if r.link = .online then
    if Config.maxFailures ≤ r.fails + 1 then s.lose u .badReport
    else s.modUnit u (fun r => { r with fails := r.fails + 1 })
  else s

end Sys2Proof.Machine
end

