-- ==== Sys2Proof/Machine/Guards.lean ====
section
/-! DEFINITION. The zone guard (chapter 8): arc requests and releases, transit requests and releases, the handing on of a
zone that becomes FREE, and the arc-waiter position. -/

namespace Sys2Proof.Machine

/-- The guard record becomes FREE and hands the zone on (R149): a pending crane first, then an arc waiter. The record is
complete before the grant is handed on. -/
def State.guardFree (s : State) (z : Zone) : State :=
  let g := s.guard z
  match g.pending with
  | some h =>
    (s.setGuard z { state := .transit h, pending := none, waiter := g.waiter }).push [.transitGranted h.move z]
  | none =>
    match g.waiter with
    | some t => (s.setGuard z { state := .arc, pending := none, waiter := none }).push [.arcGranted t]
    | none => s.setGuard z .initial

/-- What an arc request is answered (Table 8-3). -/
inductive ArcAnswer where
  | granted | waits | notReached
  deriving DecidableEq, Repr

def GuardRec.arcAnswer (g : GuardRec) : ArcAnswer :=
  match g.state with
  | .free => .granted
  | .settling _ => if g.pending.isNone then .granted else .waits
  | .transit _ => .waits
  | .arc => .notReached

/-- The guard record after an arc request of table `t` (Table 8-3). -/
def GuardRec.afterArcRequest (g : GuardRec) (t : TableId) : GuardRec :=
  match g.arcAnswer with
  | .granted => { g with state := .arc }
  | .waits => { g with waiter := some t }
  | .notReached => g

/-- An arc release (R148): ARC becomes SETTLING for the settle time in force, and with a settle time of 0 passes through
to FREE. A release that finds the guard not in ARC has no effect. -/
def runArcRelease (t : TableId) (s : State) : State :=
  match s.tableZone t with
  | none => s
  | some z =>
    let g := s.guard z
    if g.state = .arc then
      if (s.tab t).cfg.settle = 0 then s.guardFree z
      else s.setGuard z { g with state := .settling (s.now + 1000 * (s.tab t).cfg.settle) }
    else s

/-- A table leaves its guard's arc-waiter position; everything else of the record is kept (R153). -/
def State.dropArcWaiter (s : State) (t : TableId) : State :=
  match s.tableZone t with
  | none => s
  | some z => s.setGuard z { s.guard z with waiter := none }

/-- A zone of the move's hold set is marked granted (R170). -/
def State.markGranted (s : State) (mv : Nat) (z : Zone) : State :=
  s.modMove mv (fun m => { m with
    holds := m.holds.map (fun h => if h.zone = z then { h with granted := true } else h) })

/-- A transit request of a move on a guard (Table 8-4). -/
def runTransitAsk (mv : Nat) (z : Zone) (s : State) : State :=
  match s.move mv with
  | none => s
  | some m =>
    match m.crane with
    | none => s
    | some c =>
      let g := s.guard z
      let h : Holder := { move := mv, crane := c }
      match g.state with
      | .free => (s.setGuard z { g with state := .transit h }).markGranted mv z
      | .arc => s.setGuard z { g with pending := some (g.pending.getD h) }
      | .settling _ => s.setGuard z { g with pending := some (g.pending.getD h) }
      | .transit k => if k.move = mv then s.markGranted mv z else s

/-- A move gives up its transit business on a guard (R152): a transit hold is released, a pending request withdrawn;
where it has neither, nothing happens. -/
def runGiveUp (mv : Nat) (z : Zone) (s : State) : State :=
  let g := s.guard z
  match g.state with
  | .transit k => if k.move = mv then s.guardFree z else s
  | .settling _ =>
    if g.pending.any (fun h => h.move = mv) then
      match g.waiter with
      | some t => (s.setGuard z { state := .arc, pending := none, waiter := none }).push [.arcGranted t]
      | none => s.setGuard z { g with pending := none }
    else s
  | .arc => if g.pending.any (fun h => h.move = mv) then s.setGuard z { g with pending := none } else s
  | .free => s

/-- The guard's own reaction to the hall stop (R154): every arc waiter is withdrawn, everything else kept. -/
def runGuardStop (s : State) : State := { s with guards := s.guards.map (fun g => { g with waiter := none }) }

end Sys2Proof.Machine
end

