-- ==== Sys2Proof/Machine/WearCount.lean ====
section
/-! DEFINITION. Consumable wear (chapter 5): the arithmetic of each addition, the evaluation of the wear state, its
reports, and its effect on the table. -/

namespace Sys2Proof.Machine

/-- The warn threshold, floor(limit × 7 / 8) (R99). -/
def warnThreshold (limit : Nat) : Nat := limit * 7 / 8

/-- The wear state of a count under a limit (R101). -/
def wearStateOf (count limit : Nat) : WearState :=
  if limit ≤ count then .due else if warnThreshold limit ≤ count then .warn else .ok

/-- The pierce cost of a contour (R103): p × (2 + 3 × ceil(T / 100)). -/
def pierceCost (pierces thick : Nat) : Nat := pierces * (2 + 3 * ((thick + 99) / 100))

/-- The report of an entry into WARN or DUE (R102, Table 5-3). -/
def State.wearReport (s : State) (t : TableId) (cause : WearCause) : WearReport :=
  let r := s.tab t
  { table := t, state := r.wear.state, count := r.wear.count, rem := r.wear.rem, limit := r.cfg.wearLimit,
    threshold := warnThreshold r.cfg.wearLimit, cause := cause }

/-- The effect of a changed wear state on its table (R105): a table in DUE goes on at the arc request; an arc waiter
without the arc hold goes back to DUE. A table that has just been granted the arc hold out of DUE has its contour in
flight already, and does not ask again. -/
def State.wearEffect (s : State) (t : TableId) : State :=
  let r := s.tab t
  if r.wear.state = .due then
    if r.state = .pierceWait ∧ r.contour.any (fun c => !c.arcHeld) then
      ((s.dropArcWaiter t).modTab t (fun r => { r with contour := none })).enter t .due
    else s
  else if r.state = .due ∧ r.contour.isNone then s.push [.contourArc t] else s

/-- An evaluation of the wear state (R101): a change takes effect at once, its report first (R102). -/
def State.evalWear (s : State) (t : TableId) (cause : WearCause) : State :=
  let r := s.tab t
  let st := wearStateOf r.wear.count r.cfg.wearLimit
  if st = r.wear.state then s
  else
    let s := s.modTab t (fun r => { r with wear := { r.wear with state := st } })
    let s := match st with
      | .ok => s
      | .warn => s.raise (.wearWarn (s.wearReport t cause))
      | .due => s.raise (.wearDue (s.wearReport t cause))
    s.wearEffect t

/-- An addition of wear units with saturation, and the evaluation that follows it (R100). -/
def State.addWear (s : State) (t : TableId) (n : Nat) (cause : WearCause) : State :=
  (s.modTab t (fun r => { r with wear := { r.wear with count := min (r.wear.count + n) Config.lastWear } })).evalWear
    t cause

/-- The arc wear of a contour (R104): the remainder carries what does not make up a whole unit. It takes its new value
before the addition, so that a report of the addition carries it; R104 and Table 5-3 leave that order open. DESIGN CHOICE
(notes/assumptions/21.md). -/
def State.addArc (s : State) (t : TableId) (arcTime : Nat) : State :=
  let sum := (s.tab t).wear.rem + arcTime
  (s.modTab t (fun r => { r with wear := { r.wear with rem := sum % Config.arcUnitDs } })).addWear t
    (sum / Config.arcUnitDs) .arc

/-- The wear record as the host reads it (R107, R108). -/
def TableRec.wearView (r : TableRec) : WearView :=
  { count := r.wear.count, rem := r.wear.rem, limit := r.cfg.wearLimit, threshold := warnThreshold r.cfg.wearLimit,
    state := r.wear.state }

end Sys2Proof.Machine
end

