-- ==== Sys2Proof/Machine/Alloc.lean ====
section
/-! DEFINITION. The Allocator (chapter 2): candidacy and selection, reservation, the stock wait list, remnant derivation,
volume and mass, and the hall account. -/

namespace Sys2Proof.Machine

/-! ## Candidates and selection (R26, R27) -/

/-- Whether a record is a candidate for a requirement (R26), the preference's allowance of kinds apart. -/
def State.fits (s : State) (q : Requirement) (x : StockRec) : Bool :=
  match x.loc with
  | .hook _ => false
  | .slot r _ =>
    x.state = .available && x.grade = q.grade && x.thick = q.thick && q.len ≤ x.len && q.wid ≤ x.wid
      && (s.kindOf r.zone = .stock || s.kindOf r.zone = .rack) && s.accessible x
      && (s.lock r).deliveries = 0 && (s.lock r).pick.isNone

/-- Whether a record is a candidate for a requirement under its preference (R26). -/
def State.candidate (s : State) (q : Requirement) (x : StockRec) : Bool :=
  s.fits q x && (!q.plateOnly || x.kind = .plate)

/-- The waste of a candidate, in mm² (R27). -/
def waste (q : Requirement) (x : StockRec) : Nat := x.len * x.wid - q.len * q.wid

/-- Whether `x` goes before `y` by waste and then by age stamp (R27). -/
def before (q : Requirement) (x y : StockRec) : Bool :=
  decide (waste q x < waste q y) || (decide (waste q x = waste q y) && decide (x.age < y.age))

/-- The first of a list by waste and age (R27). -/
def bestOf (q : Requirement) : List StockRec → Option StockRec
  | [] => none
  | x :: xs =>
    match bestOf q xs with
    | none => some x
    | some y => if before q y x then some y else some x

/-- The candidates of a requirement, of one kind. -/
def State.candidates (s : State) (q : Requirement) (k : StockKind) : List StockRec :=
  s.stock.recs.filter (fun x => s.candidate q x && x.kind = k)

/-- The winner of a requirement (R27): remnants first where there are any. -/
def State.winner (s : State) (q : Requirement) : Option StockRec :=
  match bestOf q (s.candidates q .remnant) with
  | some x => some x
  | none => bestOf q (s.candidates q .plate)

/-- The winner becomes RESERVED for the table (R28). -/
def State.reserve (s : State) (id : Nat) (t : TableId) : State :=
  s.modRec id (fun x => { x with state := .reserved, table := some t })

/-! ## The stock wait list (R29 to R33) -/

def State.setWaits (s : State) (l : List WaitEntry) : State := { s with alloc := { s.alloc with waits := l } }

/-- Withdrawal of a table's entry (R33). -/
def State.dropWait (s : State) (t : TableId) : State := s.setWaits (s.alloc.waits.filter (fun e => e.table ≠ t))

/-- One walk of the wait list, oldest first (R32): each entry that finds a winner has it reserved and leaves the list.
The answer is the state, the entries that stay, and the hits in order. -/
def walkList (s : State) : List WaitEntry → State × List WaitEntry × List Task
  | [] => (s, [], [])
  | e :: rest =>
    match s.winner e.req with
    | some x =>
      let r := walkList (s.reserve x.id e.table) rest
      (r.1, r.2.1, .hit e.table x.id :: r.2.2)
    | none =>
      let r := walkList s rest
      (r.1, e :: r.2.1, r.2.2)

/-- A walk: the list keeps the entries without a winner, and the hits go to their tables once the walk has ended. -/
def State.walk (s : State) : State :=
  let r := walkList s s.alloc.waits
  (r.1.setWaits r.2.1).push r.2.2

/-- The requirement of the PLATE step in progress (R25). -/
def State.stepReq (s : State) (t : TableId) : Option Requirement :=
  match (s.tab t).step with
  | some (.plate _ r) => some (toReq r)
  | _ => none

/-- A new allocation request (R29): the wait list is walked first; then the requirement is tested against the stock
as the walk left it. The older tables take their hits, with all that they set off, before the newcomer takes its
outcome. DEDUCED (notes/assumptions/18.md): R29 takes the walk whole, and R32 makes a table's leaving of ALLOC_WAIT part
of the walk. -/
def runAllocRequest (t : TableId) (s : State) : State :=
  match s.stepReq t with
  | none => s
  | some q =>
    let r := walkList s s.alloc.waits
    let s := r.1.setWaits r.2.1
    match s.winner q with
    | some x => (s.reserve x.id t).push (r.2.2 ++ [.hit t x.id])
    | none =>
      let other := if q.plateOnly then (s.stock.recs.filter (s.candidate { q with plateOnly := false })).length else 0
      s.push (r.2.2 ++ [.allocMiss t q other])

/-- A miss (R29, R31): the table is appended to the wait list, enters ALLOC_WAIT, and STOCK_WANTED is raised. -/
def runAllocMiss (t : TableId) (q : Requirement) (otherKind : Nat) (s : State) : State :=
  let s := s.setWaits (s.alloc.waits ++ [{ table := t, req := q, joined := s.hall.clock }])
  (s.enter t .allocWait).raise (.stockWanted t q s.alloc.waits.length otherKind)

/-! ## Volume and mass (R41, R44) -/

/-- m(V), the mass of a volume in whole kilograms, rounded half up (R44). -/
def massOf (v : Nat) : Nat := (v * 785 + 500000000) / 1000000000

def StockRec.volume (x : StockRec) : Nat := x.len * x.wid * x.thick

/-! ## Remnant derivation (R37 to R46) -/

/-- What the first four stages of a derivation work out (R39 to R41). -/
structure Derived where
  used    : Nat
  clamped : Bool
  rem     : Nat
  reason  : DropReason
  vp      : Nat
  vn      : Nat
  vr      : Nat
  vs      : Nat
  deriving DecidableEq, Repr

/-- The clamp and the remnant length (R39). -/
def usedLength (len u : Nat) : Nat := min u len

def remnantLength (len u kerf trim : Nat) : Nat := len - (usedLength len u + kerf + trim)

/-- The drop reason, NONE when the remnant is kept (R40, Table 2-7). -/
def dropReason (c : TableCfg) (rem wid gen : Nat) : DropReason :=
  if rem < c.minLen then .short
  else if rem * wid < c.minArea * 10000 then .small
  else if gen = 7 then .generation
  else .none

/-- Stages 1 to 4 of a derivation of a plate with used length `u` under a table's configuration (R39 to R41). -/
def derive (c : TableCfg) (x : StockRec) (u : Nat) : Derived :=
  let used := usedLength x.len u
  let rem := remnantLength x.len u c.kerf c.trim
  let reason := dropReason c rem x.wid x.gen
  let vp := x.len * x.wid * x.thick
  let vn := used * x.wid * x.thick
  let vr := if reason = .none then rem * x.wid * x.thick else 0
  { used := used, clamped := decide (x.len < u), rem := rem, reason := reason, vp := vp, vn := vn, vr := vr,
    vs := vp - vn - vr }

/-- Whether every addition fits the account (R46). -/
def Account.fits (a : Account) (d : Derived) : Bool :=
  decide (a.plate + d.vp ≤ Config.lastVolume) && decide (a.nest + d.vn ≤ Config.lastVolume)
    && decide (a.remnant + d.vr ≤ Config.lastVolume) && decide (a.scrap + d.vs ≤ Config.lastVolume)
    && decide (a.count + 1 ≤ Config.lastCount)

/-- The account after a consumed plate is offered to it (R46). -/
def Account.add (a : Account) (d : Derived) : Account :=
  if a.frozen then a
  else if a.fits d then
    { a with plate := a.plate + d.vp, nest := a.nest + d.vn, remnant := a.remnant + d.vr, scrap := a.scrap + d.vs,
             count := a.count + 1 }
  else { a with frozen := true }

/-- The fifth stage with the remnant kept: the record storage is rewritten (R42). -/
def State.rewriteRemnant (s : State) (x : StockRec) (d : Derived) : State :=
  let id := s.partId
  let age := s.stock.seq
  let s := s.countAge
  let s := s.modRec x.id (fun y => { y with
    id := id, kind := .remnant, len := d.rem, parent := some x.id, gen := x.gen + 1, age := age, state := .onBed })
  { s with stock := { s.stock with idCursor := nextValue Config.firstPartId Config.lastPartId id } }

/-- A derivation of the LOADED plate of a table with used length `u` (R37): `none` is NO_PLATE. The record rewrite, the
account and the report are complete before the events that a freed bed owes (R43, R45). -/
def State.deriveRemnant (s : State) (t : TableId) (u : Nat) : Option State :=
  match s.loadedOnBed t with
  | none => none
  | some x =>
    let d := derive (s.tab t).cfg x u
    let kept := decide (d.reason = .none)
    let newId := if kept then some s.partId else none
    let s1 := if kept then s.rewriteRemnant x d else s.dropRec x.id
    let s2 := { s1 with alloc := { s1.alloc with account := s1.alloc.account.add d } }
    let s3 := s2.raise (.nestConsumed
      { table := t, oldId := x.id, newId := newId, used := d.used, rem := d.rem, vp := d.vp, vn := d.vn, vr := d.vr,
        vs := d.vs, mp := massOf d.vp, mn := massOf d.vn, mr := massOf d.vr, ms := massOf d.vs, clamped := d.clamped,
        reason := d.reason, added := !s2.alloc.account.frozen })
    if kept then some s3
    else match s.bedRef t with
      | some r => some (s3.slotLeft r)
      | none => some s3

end Sys2Proof.Machine
end

