-- ==== Sys2Proof/Machine/Marks.lean ====
section
/-! DEFINITION. The Mark Composer (chapter 6): the string of a mark, service of the mark queue, the exchange with the
marker head, the end of a mark, and interrupted marks. -/

namespace Sys2Proof.Machine

def State.mark (s : State) (id : Nat) : Option MarkRec := s.composer.marks.find? (fun m => m.id = id)

def State.setComposer (s : State) (c : Composer) : State := { s with composer := c }

def State.setCtx (s : State) (c : MarkCtx) : State := s.setComposer { s.composer with ctx := some c }

/-- A record is being composed while a mark with its id is served (R110). -/
def State.composed (s : State) (id : Nat) : Bool := s.composer.ctx.any (fun c => c.entry.id = id)

/-- The codes of the hyphen and the slash (Table 6-2). -/
def hyphen : Nat := 36
def slash : Nat := 37

/-- The string of a mark (R115): text, serial, and heat where the suffix is ON and the plate has one. -/
def composedString (m : MarkRec) (heat : Option (List Nat)) : List Nat :=
  m.text
    ++ (match m.serial with
        | some d => hyphen :: d
        | none => [])
    ++ (if m.heat then (match heat with
        | some h => slash :: h
        | none => [])
      else [])

/-- The heat number of the serving table's LOADED plate (R115). -/
def State.loadedHeat (s : State) (t : TableId) : Option (List Nat) :=
  (((s.tab t).active.bind Active.loaded).bind s.stockRec).bind StockRec.heat

/-- The serial after a successful mark, digit by digit from the lowest (R126); the list is lowest digit first, and an
increase that carries past the highest digit is `none`. -/
def incDigits : List Nat → Option (List Nat)
  | [] => none
  | d :: ds => if d = 9 then (incDigits ds).map (fun r => 0 :: r) else some ((d + 1) :: ds)

/-- The record after a successful mark (R126): the serial increased, or SPENT at 9999. -/
def MarkRec.increase (m : MarkRec) : MarkRec :=
  match m.serial with
  | none => m
  | some d =>
    match incDigits d.reverse with
    | some r => { m with serial := some r.reverse }
    | none => { m with spent := true }

def State.modMark (s : State) (id : Nat) (f : MarkRec → MarkRec) : State :=
  s.setComposer { s.composer with marks := s.composer.marks.map (fun m => if m.id = id then f m else m) }

/-- Raises MARK_RESULT for the mark in progress (R127). -/
def State.reportMark (s : State) (c : MarkCtx) (o : MarkOutcome) : State :=
  s.raise (.markResult
    { table := c.entry.table, id := c.entry.id, outcome := o, used := c.used,
      after := (s.mark c.entry.id).bind MarkRec.serial, noHeat := c.noHeat, frames := frameCount c.str,
      frame := c.frame, resends := c.resends })

/-- The composer takes no table while it serves one, while the stop is asserted, or from an empty queue; else it takes
the head (R119). -/
def runServeHead (s : State) : State :=
  if s.composer.state ≠ .idle ∨ s.hall.stop then s
  else match s.composer.queue with
    | [] => s
    | e :: rest =>
      let s := s.setComposer { s.composer with queue := rest }
      let turnedAway (o : MarkOutcome) (after : Option (List Nat)) : State :=
        (s.raise (.markResult
          { table := e.table, id := e.id, outcome := o, used := none, after := after, noHeat := false, frames := 0,
            frame := 0, resends := 0 })).push [.markResult e.table o, .serveHead]
      match s.mark e.id with
      | none => turnedAway .undefined none
      | some m =>
        if m.spent then turnedAway .spent m.serial
        else
          let s := s.enter e.table .marking
          let heat := s.loadedHeat e.table
          let token := s.composer.token + 1
          let str := composedString m heat
          let ctx : MarkCtx :=
            { entry := e, token := token.toNat, str := str, frame := 0, resend := 0, sticky := true, used := m.serial,
              noHeat := m.heat && heat.isNone, timer := none, hand := s.line.nextHand, resends := 0 }
          let s := s.setComposer { s.composer with state := .starting, token := token, ctx := some ctx }
          s.handTo (tableUnit e.table) (.markStart token.toNat e.x e.y str.length) .composer

/-- MARK_FRAME for the frame in hand goes to the Field Line Unit, and the composer enters SENDING (R120 to R123). -/
def State.sendFrame (s : State) (c : MarkCtx) : State :=
  let s' := s.setComposer { s.composer with
    state := .sending, ctx := some { c with timer := none, hand := s.line.nextHand } }
  s'.handTo (tableUnit c.entry.table) (.markFrame (markFrameOf c.token c.str c.frame)) .composer

/-- The end of a mark (R125): the serial on SUCCESS, MARK_RESULT, the result to the table, then the composer's own
close and the next head. -/
def State.endMark (s : State) (c : MarkCtx) (o : MarkOutcome) : State :=
  let s := if o = .success ∧ c.used.isSome then s.modMark c.entry.id MarkRec.increase else s
  (s.reportMark c o).push [.markResult c.entry.table o, .markClose, .serveHead]

/-- Stage 4 of R125: the echo timer stops with the context, which is discarded, and the composer becomes IDLE. -/
def runMarkClose (s : State) : State := s.setComposer { s.composer with state := .idle, ctx := none }

/-- A mark in progress is abandoned or lost (R128, R130): MARK_RESULT is raised, the context discarded, and the next
head taken. The table is out of MARKING already and disregards the result. A MARK_START or MARK_FRAME of the mark that still
waits at the unit stays in its waiting list and is sent in its turn; R128 speaks of an outstanding one alone. DESIGN CHOICE
(notes/assumptions/22.md). -/
def runMarkDrop (o : MarkOutcome) (s : State) : State :=
  match s.composer.ctx with
  | none => s
  | some c => (runMarkClose (s.reportMark c o)).push [.serveHead]

/-- A rejection of the frame in hand (R123): sent again once, then FAULT. -/
def State.rejectFrame (s : State) (c : MarkCtx) : State :=
  let c := { c with timer := none }
  if c.resend = 0 then s.sendFrame { c with resend := 1, resends := c.resends + 1 }
  else (s.setCtx c).endMark c .fault

/-- The answer to the command the composer handed last (R120, R121); any other answer is disregarded. -/
def State.composerAnswer (s : State) (h : Handed) (a : Answer) : State :=
  match s.composer.ctx with
  | none => s
  | some c =>
    if c.hand ≠ h.hand then s
    else match s.composer.state, a with
      | .starting, .ack => s.sendFrame c
      | .starting, .nak => s.endMark c .fault
      | .sending, .ack =>
        s.setComposer { s.composer with
          state := .echoWait, ctx := some { c with timer := some (s.now + Config.echoMs) } }
      | .sending, .nak => s.rejectFrame c
      | _, _ => s

/-- Whether the composer acts on an echo or reject with this token and frame number from this table's unit (R121, R124). -/
def State.markAwaits (s : State) (t : TableId) (token frame : Nat) : Option MarkCtx :=
  match s.composer.ctx with
  | none => none
  | some c =>
    if (s.composer.state = .sending ∨ s.composer.state = .echoWait) ∧ c.entry.table = t ∧ c.token = token
        ∧ c.frame = frame then some c
    else none

/-- Whether an echo matches the frame as sent (R122). -/
def echoMatches (sent : List Nat) (count : Nat) (chars : List Nat) : Bool :=
  decide (count = sent.length) && decide (chars.take count = sent)

/-- A FRAME_ECHO (R122); one that the composer does not act on is a stray report (R124). -/
def State.takeEcho (s : State) (t : TableId) (token frame count : Nat) (chars : List Nat) : State :=
  match s.markAwaits t token frame with
  | none => s.stray (tableUnit t)
  | some c =>
    let c := { c with timer := none, sticky := c.sticky && echoMatches (frameChars c.str c.frame) count chars }
    if c.frame + 1 < frameCount c.str then s.sendFrame { c with frame := c.frame + 1, resend := 0 }
    else (s.setCtx c).endMark c (if c.sticky then .success else .mismarked)

/-- A FRAME_REJECT (R123, R124). -/
def State.takeReject (s : State) (t : TableId) (token frame : Nat) : State :=
  match s.markAwaits t token frame with
  | none => s.stray (tableUnit t)
  | some c => s.rejectFrame c

/-- The composer's own reaction to the hall stop (R129). -/
def runComposerStop (s : State) : State := runMarkDrop .aborted s

/-- The loss of the unit of the table served ends its mark with FAULT (R130). -/
def runComposerLost (t : TableId) (s : State) : State :=
  if s.composer.ctx.any (fun c => c.entry.table = t) then runMarkDrop .fault s else s

end Sys2Proof.Machine
end

