-- ==== Sys2Proof/Machine/Cranes.lean ====
section
/-! DEFINITION. The Crane Move Controller (chapter 9): acceptance of moves, dispatch and yields, the phases of a move,
completion, faults, the loss and restore of a crane unit, the hall stop, and the other ends of a move. -/

namespace Sys2Proof.Machine

/-! ## Claimed spans (R161, R169) -/

def Span.whole : Span := { lo := 0, hi := 15 }

def Span.at (z : Zone) : Span := { lo := z.val, hi := z.val }

def Span.has (a : Span) (z : Zone) : Bool := decide (a.lo ≤ z.val) && decide (z.val ≤ a.hi)

/-- The smallest span over a span and a zone. -/
def Span.join (a : Span) (z : Zone) : Span := { lo := min a.lo z.val, hi := max a.hi z.val }

/-- At least one whole zone lies between two spans (R169). -/
def Span.clear (a b : Span) : Bool := decide (a.hi + 2 ≤ b.lo) || decide (b.hi + 2 ≤ a.lo)

/-- A crane's claimed span (R161): its move's span, or the zone of its position, or the whole runway. -/
def State.claim (s : State) (c : CraneId) : Span :=
  let r := s.crane c
  match (r.move.bind s.move).bind MoveRec.span with
  | some a => a
  | none => r.pos.elim Span.whole Span.at

/-- Whether a span of crane `c` stays clear of the other crane's claim; an unfitted crane claims nothing (R169). -/
def State.spanClear (s : State) (c : CraneId) (a : Span) : Bool :=
  (s.crane (otherCrane c)).state = .absent || a.clear (s.claim (otherCrane c))

/-! ## Acceptance (R163 to R167) -/

/-- A move post. -/
structure Post where
  origin  : Origin
  load    : Load
  srcZone : Nat
  dstZone : Nat
  dstSlot : Nat
  urgent  : Bool
  flag    : Option FlagId
  deriving DecidableEq, Repr

/-- What a table's post is answered (R74). -/
inductive PostAnswer where
  | accepted (id : Nat) | full | refused (c : Code)
  deriving DecidableEq, Repr

def Dst.zoneOf : Dst → Zone
  | .slot r => r.zone
  | .zone z => z

/-- The move a post asks for, before it has its id and age (R167). -/
def Post.draft (p : Post) (src : Src) (srcZone : Option Zone) (dst : Dst) (quarantine : Bool) : MoveRec :=
  { id := 0, origin := p.origin, load := p.load, src := src, srcZone := srcZone, dst := dst, urgent := p.urgent,
    flag := p.flag, quarantine := quarantine, state := .queued, phase := none, returning := false, crane := none,
    span := none, holds := [], age := 0, mass := none }

/-- Whether a record's state allows the origin (R164, test 2). -/
def State.stateAllows (s : State) (o : Origin) (x : StockRec) : Bool :=
  match x.state, o with
  | .available, _ => true
  | .quarantined, .host => true
  | .reserved, .table t => decide (x.table = some t)
  | .onBed, .host => true
  | .onBed, .table t => (s.bedRef t).any (fun r => x.inSlot r)
  | _, _ => false

/-- Whether a slot is the bed of a table whose ACTIVE slot is IN_USE. -/
def State.ownedBed (s : State) (r : SlotRef) : Bool :=
  match s.bedTable r with
  | some t => (s.tab t).active.isSome
  | none => false

/-- A source bed is owned unless its table stands in BED_WAIT (R164, test 3). -/
def State.ownedSource (s : State) (l : Loc) : Bool :=
  match l with
  | .hook _ => false
  | .slot r _ =>
    match s.bedTable r with
    | some t => (s.tab t).active.isSome && (s.tab t).state ≠ .bedWait
    | none => false

/-- The tests of a STOCK load (R164), and of a set-down (R165). -/
def State.stockPost (s : State) (p : Post) (id : Nat) : Except Code MoveRec :=
  match s.stockRec id with
  | none => .error .notFound
  | some x =>
    let setDown : Bool := x.state = .held && x.move.isNone && p.origin = .host
    if !setDown && !s.stateAllows p.origin x then .error .badState
    else if p.origin = .host && (s.ownedSource x.loc || (s.slotRef p.dstZone p.dstSlot).any s.ownedBed) then
      .error .owned
    else match (if setDown then none else s.pickTest x) with
      | some c => .error c
      | none =>
        match s.stockSlotRef p.dstZone p.dstSlot with
        | none => .error .range
        | some d =>
          if x.inSlot d then .error .range
          else match s.deliveryTest d with
            | some c => .error c
            | none =>
              match x.loc with
              | .slot r _ => .ok (p.draft (.slot r) (some r.zone) (.slot d) (decide (x.state = .quarantined)))
              | .hook c => .ok (p.draft (.hook c) none (.slot d) true)

/-- The tests of a BATCH load (R166). -/
def State.batchPost (s : State) (p : Post) : Except Code MoveRec :=
  if h : p.srcZone < 16 then
    match s.kindOf ⟨p.srcZone, h⟩, s.slotRef p.dstZone p.dstSlot with
    | .table t, some d =>
      if s.kindOf d.zone ≠ .output then .error .range
      else if p.origin = .host && (s.tab t).active.isSome then .error .owned
      else .ok (p.draft (.zone ⟨p.srcZone, h⟩) (some ⟨p.srcZone, h⟩) (.slot d) false)
    | _, _ => .error .range
  else .error .range

/-- The tests of a post by its load kind (R163, test 3). A NONE load carries a destination zone alone (R166). -/
def State.postTest (s : State) (p : Post) : Except Code MoveRec :=
  match p.load with
  | .stock id => s.stockPost p id
  | .batch _ => s.batchPost p
  | .none => if h : p.dstZone < 16 then .ok (p.draft .none none (.zone ⟨p.dstZone, h⟩) false) else .error .range

/-- The id the next move takes (R162). -/
def State.moveId (s : State) : Nat :=
  firstFree (fun v => s.moves.queue.any (fun m => m.id = v)) 1 Config.lastMoveId (s.moves.queue.length + 1)
    s.moves.cursor

/-- The record and the locks of an accepted STOCK move (R167). -/
def State.lockStock (s : State) (id : Nat) (m : MoveRec) : State :=
  match m.load with
  | .stock x =>
    let s := s.modRec x (fun y => { y with
      state := .moving, table := none, before := if y.state = .held then none else some y.state, move := some id })
    let s := match m.src with
      | .slot r => s.setPick r (some id)
      | _ => s
    match m.dst with
    | .slot r => s.beginDelivery r
    | .zone _ => s
  | _ => s

/-- Acceptance of a move (R167): id and age, locks, record, and the queue; a dispatch attempt follows. -/
def State.acceptMove (s : State) (m : MoveRec) : State :=
  let id := s.moveId
  let s := s.lockStock id m
  { s with moves := { s.moves with
      queue := s.moves.queue ++ [{ m with id := id, age := s.moves.nextAge }],
      cursor := nextValue 1 Config.lastMoveId id, nextAge := s.moves.nextAge + 1,
      attempts := s.moves.attempts + 1 } }

/-- A post is tested and accepted, or answered with what fails (R163). -/
def State.post (s : State) (p : Post) : State × PostAnswer :=
  match s.postTest p with
  | .error c => (s, .refused c)
  | .ok m =>
    if Config.maxMoves ≤ s.moves.queue.length then (s, .full)
    else (s.acceptMove m, .accepted s.moveId)

/-! ## Dispatch (R168 to R170) -/

/-- A crane's state allows it a move, the hook apart (R168). -/
def State.craneReady (s : State) (c : CraneId) : Bool :=
  let r := s.crane c
  r.state = .idle && r.move.isNone && r.pos.isSome && !r.awaited
    && (s.crane 0).state ≠ .maintenance && (s.crane 1).state ≠ .maintenance

/-- Whether a crane is eligible for a move (R168). -/
def State.eligible (s : State) (m : MoveRec) (c : CraneId) : Bool :=
  s.craneReady c &&
    match m.src, m.load with
    | .hook k, .stock id => decide (k = c) && decide ((s.crane c).hook = .stock id)
    | _, _ => decide ((s.crane c).hook = .empty)

/-- The distance by which the cranes are tried: to the source zone, or for a NONE move to the destination (R169). -/
def State.distance (s : State) (m : MoveRec) (c : CraneId) : Nat :=
  let target := match m.load with
    | .none => m.dst.zoneOf.val
    | _ => (m.srcZone.getD m.dst.zoneOf).val
  match (s.crane c).pos with
  | some p => (p.val - target) + (target - p.val)
  | none => 16

/-- The eligible cranes, the nearer first, a tie to C1 (R169). -/
def State.cranesFor (s : State) (m : MoveRec) : List CraneId :=
  (if s.distance m 1 < s.distance m 0 then [1, 0] else [0, 1]).filter (s.eligible m)

/-- A crane's span for a move (R169). -/
def spanFor (p : Zone) (m : MoveRec) : Span := ((Span.at p).join (m.srcZone.getD p)).join m.dst.zoneOf

/-- The TABLE zones of a span, from west to east, each pending (R170). -/
def State.holdSet (s : State) (a : Span) : List Hold :=
  (allZones.filter (fun z => a.has z && (match s.kindOf z with
    | .table _ => true
    | _ => false))).map (fun z => { zone := z, granted := false })

/-- A move is dispatched to a crane at a position (R170). -/
def State.dispatch (s : State) (m : MoveRec) (c : CraneId) (p : Zone) : State :=
  let a := spanFor p m
  let holds := s.holdSet a
  let s := s.modMove m.id (fun m => { m with
    crane := some c, span := some a, state := .dispatched, phase := some .holdWait, holds := holds,
    srcZone := some (m.srcZone.getD p) })
  let s := s.modCrane c (fun r => { r with state := .busy, move := some m.id })
  s.push (holds.map (fun h => Task.transitAsk m.id h.zone) ++ [.travelCheck m.id])

/-- The target of a yield of crane `y` beyond a span: two zones east of it for C2, two zones west for C1 (R169). -/
def yieldTarget (y : CraneId) (a : Span) : Option Zone :=
  if y = 1 then (if h : a.hi + 2 < 16 then some ⟨a.hi + 2, h⟩ else none)
  else (if h : 2 ≤ a.lo ∧ a.lo < 18 then some ⟨a.lo - 2, by omega⟩ else none)

/-- The yield move to a zone (R169). -/
def yieldMove (z : Zone) : MoveRec :=
  { id := 0, origin := .yield, load := .none, src := .none, srcZone := none, dst := .zone z, urgent := true, flag := none,
    quarantine := false, state := .queued, phase := none, returning := false, crane := none, span := none, holds := [],
    age := 0, mass := none }

/-- A yield of the other crane, if one is possible, when crane `c` is tried for span `a` (R169). -/
def State.tryYield (s : State) (c : CraneId) (a : Span) : Option State :=
  let y := otherCrane c
  match yieldTarget y a, (s.crane y).pos with
  | some z, some p =>
    let m := yieldMove z
    if s.moves.queue.length < Config.maxMoves ∧ s.eligible m y ∧ (spanFor p m).clear (s.claim c) then
      some ((s.acceptMove m).dispatch { m with id := s.moveId } y p)
    else none
  | _, _ => none

/-- The eligible cranes are tried in order (R169). -/
def State.tryCranes (s : State) (m : MoveRec) : List CraneId → State
  | [] => s
  | c :: rest =>
    match (s.crane c).pos with
    | none => s.tryCranes m rest
    | some p =>
      if s.spanClear c (spanFor p m) then s.dispatch m c p
      else match s.tryYield c (spanFor p m) with
        | some s' => s'
        | none => s.tryCranes m rest

/-- One QUEUED move of a walk is tried (R168, R169). -/
def runTryMove (mv : Nat) (s : State) : State :=
  match s.move mv with
  | some m => if m.state = .queued then s.tryCranes m (s.cranesFor m) else s
  | none => s

/-- The QUEUED moves in walk order: URGENT first, the oldest first in each priority (R168). -/
def walkOrder (q : List MoveRec) : List MoveRec :=
  (q.filter (fun m => m.state = .queued && m.urgent)) ++ (q.filter (fun m => m.state = .queued && !m.urgent))

/-! ## Phases (R171) -/

/-- The command of a phase (Table 9-3). The PICK of a BATCH load names slot 0 of its source zone (R166). -/
def phaseCmd (m : MoveRec) (p : Phase) : Option FieldCmd :=
  match p with
  | .holdWait => none
  | .toSource => m.srcZone.map .goto
  | .picking =>
    match m.src with
    | .slot r => some (.pick r.slot.val)
    | _ => some (.pick 0)
  | .toDest => some (.goto m.dst.zoneOf)
  | .placing =>
    match m.dst with
    | .slot r => some (.place r.slot.val)
    | .zone _ => none

/-- A move enters a phase, or enters it again: the command goes to the crane, and the timer waits for its ACK. In
HOLD_WAIT the guards still pending are asked (R171, R181). -/
def runEnterPhase (mv : Nat) (p : Phase) (s : State) : State :=
  match s.move mv with
  | none => s
  | some m =>
    match m.crane with
    | none => s
    | some c =>
      let s := s.modMove mv (fun m => { m with phase := some p })
      match phaseCmd m p with
      | none =>
        s.push ((m.holds.filter (fun h => !h.granted)).map (fun h => Task.transitAsk mv h.zone) ++ [.travelCheck mv])
      | some cmd =>
        let s := s.modCrane c (fun r => { r with timer := none, hand := some s.line.nextHand })
        s.handTo (craneUnit c) cmd .cranes

/-- The first phase of a move once every hold is granted (R171); `none` completes a NONE move at once (R174). -/
def firstPhase (m : MoveRec) (p : Zone) : Option Phase :=
  match m.load, m.src with
  | .none, _ => if p = m.dst.zoneOf then none else some .toDest
  | _, .hook _ => if p = m.dst.zoneOf then some .placing else some .toDest
  | _, _ => if some p = m.srcZone then some .picking else some .toSource

/-- Travel begins when the hold set of a DISPATCHED move in HOLD_WAIT is complete (R170). -/
def runTravelCheck (mv : Nat) (s : State) : State :=
  match s.move mv with
  | none => s
  | some m =>
    match m.crane.bind (fun c => (s.crane c).pos) with
    | none => s
    | some p =>
      if m.state = .dispatched ∧ m.phase = some .holdWait ∧ m.holds.all Hold.granted then
        match firstPhase m p with
        | some ph => s.push [.enterPhase mv ph]
        | none => (s.modMove mv (fun m => { m with phase := some .toDest })).push [.complete mv]
      else s

/-- A transit grant that a guard hands on marks its zone and may begin travel (R170). -/
def runTransitGranted (mv : Nat) (z : Zone) (s : State) : State := (s.markGranted mv z).push [.travelCheck mv]

/-- The phase timeout in seconds (R171). -/
def phaseTimeout (r : CraneRec) (m : MoveRec) : Nat :=
  match m.phase with
  | some .toSource =>
    let d := (m.srcZone.getD 0).val
    let p := (r.pos.getD 0).val
    r.cfg.base + r.cfg.perZone * ((d - p) + (p - d))
  | some .toDest =>
    let d := m.dst.zoneOf.val
    let p := (r.pos.getD 0).val
    r.cfg.base + r.cfg.perZone * ((d - p) + (p - d))
  | _ => r.cfg.handling

/-! ## Faults (R175) -/

/-- A move faults (R175). With code UNIT_LOST the crane is OFFLINE, no STOP is sent and no fault handed on (R176). A
STOPPED move that faults gets no second STOP (R179). -/
def State.faultMove (s : State) (m : MoveRec) (c : CraneId) (code : MoveFaultCode) : State :=
  let lost := decide (code = .unitLost)
  let s := s.modCrane c (fun r => { r with
    timer := none, hand := none, state := if lost then .offline else .halted,
    cause := if lost then none else some .fault })
  let s := if lost || m.state = .stopped then s else s.handTo (craneUnit c) .stop .cranes
  let s := s.modMove m.id (fun m => { m with state := .faulted })
  let s := match (s.crane c).hook with
    | .stock id => s.modRec id (fun x => { x with state := .held, before := none })
    | _ => s
  let s := s.raise (.moveFault m.id m.origin c m.phase code (decide ((s.crane c).hook ≠ .empty)))
  let s := match code with
    | .unitLost => s
    | .craneFault => s.capture .unit (.crane c) .craneFault (some m.id)
    | .craneTimeout => s.capture .unit (.crane c) .craneTimeout (some m.id)
  s.push [.tellOrigin m .faulted]

def runFaultMove (mv : Nat) (code : MoveFaultCode) (s : State) : State :=
  match s.move mv with
  | none => s
  | some m =>
    match m.crane with
    | none => s
    | some c => s.faultMove m c code

/-! ## Positions (R161) -/

/-- A crane reports its position (R161). A position outside its move's span widens the span, or faults the move where
the widened span would not stay clear of the other crane's claim. -/
def State.setPosition (s : State) (c : CraneId) (z : Zone) : State :=
  let s := s.modCrane c (fun r => { r with pos := some z })
  match (s.crane c).move.bind s.move with
  | none => s
  | some m =>
    match m.span with
    | none => s
    | some a =>
      if a.has z then s
      else if s.spanClear c (a.join z) then s.modMove m.id (fun m => { m with span := some (a.join z) })
      else if m.state = .faulted then s
      else s.faultMove m c .craneFault

/-! ## Reports of a crane (R171 to R174, R179) -/

/-- The move assigned to a crane. -/
def State.craneMove (s : State) (c : CraneId) : Option MoveRec := (s.crane c).move.bind s.move

def State.stopTimer (s : State) (c : CraneId) : State := s.modCrane c (fun r => { r with timer := none, hand := none })

/-- The end of TO_SOURCE (R171): the span narrows to source and destination, the zones outside it are given up, a
dispatch attempt is due, and PICKING is entered. -/
def State.atSource (s : State) (m : MoveRec) (sz : Zone) : State :=
  let a := (Span.at sz).join m.dst.zoneOf
  let out := m.holds.filter (fun h => !a.has h.zone)
  let s := s.modMove m.id (fun m => { m with span := some a, holds := m.holds.filter (fun h => a.has h.zone) })
  s.wantAttempt.push (out.map (fun h => Task.giveUp m.id h.zone) ++ [.enterPhase m.id .picking])

/-- An ARRIVED (R161, R171): the position is set; in TO_SOURCE or TO_DEST the target ends the phase, and another zone
faults the move. A zone outside the runway is a failure of the unit (R195). One taken with no move, or in any other phase
or state, SETUP included, sets the position and counts no stray: R171 has it set the position and do nothing more, where
R202 counts reports taken in SETUP as strays. DESIGN CHOICE (notes/assumptions/24.md). -/
def State.takeArrived (s : State) (c : CraneId) (zone : Nat) : State :=
  if h : zone < 16 then
    let z : Zone := ⟨zone, h⟩
    let s := s.setPosition c z
    match s.craneMove c with
    | none => s
    | some m =>
      if m.state = .dispatched then
        match m.phase with
        | some .toSource =>
          if m.srcZone = some z then (s.stopTimer c).atSource m z else s.faultMove m c .craneFault
        | some .toDest =>
          if m.dst.zoneOf = z then
            (s.stopTimer c).push [if m.load = .none then .complete m.id else .enterPhase m.id .placing]
          else s.faultMove m c .craneFault
        | _ => s
      else s
  else s.failReport (craneUnit c)

/-- After a pick the move goes on to its destination; a STOPPED move keeps TO_DEST for its resume (R172, R179). -/
def State.afterPick (s : State) (m : MoveRec) : State :=
  if m.state = .stopped then s.modMove m.id (fun m => { m with phase := some .toDest })
  else s.push [.enterPhase m.id (if m.srcZone = some m.dst.zoneOf then .placing else .toDest)]

/-- The tolerance of the weight check (R172). -/
def tolerance (expected : Nat) : Nat := expected / 16 + 20

/-- The weight check (R172): within the tolerance the move goes on; else it is held, reported and captured as NOTE. -/
def runWeigh (mv : Nat) (kg : Nat) (s : State) : State :=
  match s.move mv with
  | none => s
  | some m =>
    match m.load, m.crane with
    | .stock id, some c =>
      match s.stockRec id with
      | none => s
      | some x =>
        let expected := massOf x.volume
        if (kg - expected) + (expected - kg) ≤ tolerance expected then s.afterPick m
        else
          let s := s.modMove mv (fun m => { m with state := .weightHold, phase := some .toDest })
          let s := s.raise (.weightMismatch mv c id expected (tolerance expected) kg)
          s.capture .note (.crane c) .weightMismatch (some mv)
    | _, _ => s.afterPick m

/-- A PICKED (R172, R179): taken in PICKING with the move DISPATCHED or STOPPED, else a stray report. PICKING ends with
it; the weight check that follows decides how the move goes on. -/
def State.takePicked (s : State) (c : CraneId) (kg : Nat) : State :=
  match s.craneMove c with
  | none => s.stray (craneUnit c)
  | some m =>
    if (m.state = .dispatched ∨ m.state = .stopped) ∧ m.phase = some .picking then
      let s := (s.stopTimer c).modMove m.id (fun m => { m with mass := some kg, phase := some .toDest })
      let s := s.push [.weigh m.id kg]
      match m.load, m.src with
      | .stock id, .slot r =>
        let s := (s.modRec id (fun x => { x with loc := .hook c })).setPick r none
        (s.modCrane c (fun k => { k with hook := .stock id })).slotLeft r
      | .batch tag, _ => s.modCrane c (fun k => { k with hook := .batch tag })
      | _, _ => s
    else s.stray (craneUnit c)

/-- The state a record takes where it is placed (R173). -/
def State.placedState (s : State) (r : SlotRef) (quarantine : Bool) : StockState :=
  if quarantine then .quarantined else if (s.bedTable r).isSome then .onBed else .available

/-- The record is laid at a slot: the new top of a stack, or the content of a rack slot or bed (R10, R173). It owes a
stock-change event where it becomes AVAILABLE or changes the top of a stack (R13). -/
def State.layDown (s : State) (id : Nat) (r : SlotRef) (st : StockState) : State :=
  let depth := (s.slotRecs r).length
  let laid := s.modRec id (fun x => { x with loc := .slot r depth, state := st, before := none, move := none })
  if st = .available ∨ s.kindOf r.zone = .stock then laid.stockChanged else laid

/-- A crane gives up its move: a BUSY crane becomes IDLE, any other keeps its state (R173, R184). -/
def State.freeCrane (s : State) (m : MoveRec) : State :=
  match m.crane with
  | none => s
  | some c => s.modCrane c (fun r => { r with
      move := none, timer := none, hand := none, state := if r.state = .busy then .idle else r.state })

/-- The end of a dispatched move (R173, R184): its crane is free of it, it leaves the queue, a dispatch attempt is due, and
its transit business is given up on every guard of its hold set. -/
def State.endMove (s : State) (m : MoveRec) : State :=
  let s := s.freeCrane m
  ((s.setQueue (s.moves.queue.filter (fun k => k.id ≠ m.id))).wantAttempt).push
    (m.holds.map (fun h => Task.giveUp m.id h.zone))

/-- A move completes (R173, R174, R182): the load, the crane and its holds, the queue, the flag, the report, the origin
table, and the queue-space signal, in this order. -/
def runComplete (mv : Nat) (s : State) : State :=
  match s.move mv with
  | none => s
  | some m =>
    match m.crane with
    | none => s
    | some c =>
      let s := s.stopTimer c
      let e : MoveEnd := if m.returning then .returned else .delivered
      let origin : Option TableId := match m.origin with
        | .table t => some t
        | _ => none
      let s := s.push ((match m.flag with
          | some f => [Task.setFlag f (.move mv origin)]
          | none => []) ++ [.moveReport m, .tellOrigin m e, .queueSpace])
      let s := (s.modCrane c (fun k => { k with hook := .empty })).endMove m
      match m.load, m.dst with
      | .stock id, .slot r => (s.layDown id r (s.placedState r m.quarantine)).endDelivery r
      | _, _ => s

/-- MOVE_DONE (Table 9-4). -/
def runMoveReport (m : MoveRec) (s : State) : State :=
  s.raise (.moveDone m.id m.origin m.load m.src m.dst m.crane m.returning m.mass m.flag.isSome)

/-- The queue-space signal reaches the waiting tables in the order they entered their wait (R162). -/
def runQueueSpace (s : State) : State := s.push (s.moves.spaceWaits.map Task.postAgain)

/-- A PLACED (R173, R179): taken in PLACING with the move DISPATCHED or STOPPED, else a stray report. -/
def State.takePlaced (s : State) (c : CraneId) : State :=
  match s.craneMove c with
  | none => s.stray (craneUnit c)
  | some m =>
    if (m.state = .dispatched ∨ m.state = .stopped) ∧ m.phase = some .placing then s.push [.complete m.id]
    else s.stray (craneUnit c)

/-- A CRANE_FAULT (R175, R179): it faults a DISPATCHED, held or STOPPED move, and else is a stray report. -/
def State.takeCraneFault (s : State) (c : CraneId) : State :=
  match s.craneMove c with
  | none => s.stray (craneUnit c)
  | some m =>
    if m.state = .dispatched ∨ m.state = .weightHold ∨ m.state = .stopped then s.faultMove m c .craneFault
    else s.stray (craneUnit c)

/-! ## Answers to the controller's commands -/

/-- CRANE_RESUME goes on after a good STATUS (R181). The reply names the crane's state and move as the resume sets them, before
anything that follows in the same handling, such as the completion of a HOLD_WAIT NONE move whose crane stands at its
destination: R181 says only "new state". DESIGN CHOICE (notes/assumptions/30.md). -/
def runCraneResumed (c : CraneId) (s : State) : State :=
  if s.host.hand = .waiting (.craneResume c) then
    let idle : State := s.modCrane c (fun r => { r with state := .idle, cause := none })
    let busy : State := s.modCrane c (fun r => { r with state := .busy, cause := none })
    let s := match (s.crane c).cause, s.craneMove c with
      | some .stop, some m =>
        match m.state with
        | .stopped =>
          (busy.modMove m.id (fun m => { m with state := .dispatched })).push
            [.enterPhase m.id (m.phase.getD .holdWait)]
        | .weightHold => busy
        | _ => idle
      | _, _ => idle
    s.accept (.crane (s.crane c).state (s.crane c).pos (s.crane c).move)
  else s

/-- The answer to a command of the Crane Move Controller. A phase command's ACK starts the phase timer, its NAK faults
the move (R171); a STATUS that is awaited sets position and sensed load (R177, R181, R188); a NAK of an awaited
STATUS_QUERY ends the wait (R181, R188). An answer no rule takes is disregarded (R194). -/
def State.craneAnswer (s : State) (c : CraneId) (h : Handed) (a : Answer) : State :=
  let r := s.crane c
  match h.cmd.kind, a with
  | .statusQuery, .status (.crane zone load) =>
    if hz : zone < 16 then
      if r.awaited then
        let s := (s.setPosition c ⟨zone, hz⟩).modCrane c (fun r => { r with
          sensed := if load then .yes else .no, awaited := false })
        s.wantAttempt.push [.craneResumed c]
      else s
    else s
  | .statusQuery, .nak =>
    if r.awaited then
      let s := s.modCrane c (fun r => { r with awaited := false })
      if s.host.hand = .waiting (.craneResume c) then s.refuse .unitLost else s
    else s
  | _, .ack =>
    if r.hand = some h.hand then
      match s.craneMove c with
      | some m => s.modCrane c (fun r => { r with hand := none, timer := some (s.now + 1000 * phaseTimeout r m) })
      | none => s
    else s
  | _, .nak =>
    if r.hand = some h.hand then
      match s.craneMove c with
      | some m => s.faultMove m c .craneFault
      | none => s
    else s
  | _, _ => s

/-! ## Stop, loss and restore (R176 to R178) -/

/-- The reaction of one crane to the hall stop (R178). -/
def State.stopCrane (s : State) (c : CraneId) : State :=
  let st := (s.crane c).state
  if st = .idle ∨ st = .busy ∨ st = .halted then
    let s := s.handTo (craneUnit c) .stop .cranes
    let s := if st = .halted then s else s.modCrane c (fun r => { r with state := .halted, cause := some .stop })
    match s.craneMove c with
    | some m =>
      if m.state = .dispatched then
        (s.stopTimer c).modMove m.id (fun m => { m with state := .stopped })
      else s
    | none => s
  else s

def runCraneStop (s : State) : State := (s.stopCrane 0).stopCrane 1

/-- The loss of a crane unit (R176). A CRANE_RESUME that waits on the unit is refused with UNIT_LOST (R181). -/
def runCraneLost (c : CraneId) (s : State) : State :=
  let s := s.modCrane c (fun r => { r with
    state := .offline, cause := none, awaited := false, timer := none, hand := none })
  let s := if s.host.hand = .waiting (.craneResume c) then s.refuse .unitLost else s
  match s.craneMove c with
  | none => s
  | some m =>
    let onHook : Bool := match (s.crane c).hook with
      | .stock _ => true
      | _ => false
    if m.state = .dispatched ∨ m.state = .weightHold ∨ (m.state = .stopped ∧ onHook) then s.faultMove m c .unitLost
    else s

/-- The restore of a crane unit (R177). -/
def runCraneBack (c : CraneId) (z : Zone) (load : Bool) (s : State) : State :=
  let s := (s.setPosition c z).modCrane c (fun r => { r with
    sensed := if load then .yes else .no, awaited := false })
  let halt := s.hall.stop || (s.craneMove c).any (fun m => m.state = .stopped)
  (s.modCrane c (fun r => { r with
    state := if halt then .halted else .idle, cause := if halt then some .stop else none })).wantAttempt

/-! ## Other ends of a move -/

/-- A QUEUED move is cancelled (R185): locks and record undone, RESERVED taken back as AVAILABLE; a set-down's record
stays HELD on its hook with no move id. The queue-space signal follows. -/
def State.cancelMove (s : State) (m : MoveRec) : State :=
  let s := (s.setQueue (s.moves.queue.filter (fun k => k.id ≠ m.id))).push [.queueSpace]
  match m.load, m.src, m.dst with
  | .stock id, .slot r, .slot d =>
    let back := match (s.stockRec id).bind StockRec.before with
      | some .reserved => StockState.available
      | some st => st
      | none => .available
    let s := s.setPick r none
    let s := if back = .available then s.makeAvailable id
      else s.modRec id (fun x => { x with state := back, table := none, before := none, move := none })
    s.endDelivery d
  | .stock id, _, .slot d =>
    (s.modRec id (fun x => { x with state := .held, before := none, move := none })).endDelivery d
  | _, _, _ => s

/-- The end of a FAULTED move by MOVE_RECOVER or STOCK_REMOVE (R17, R184): the destination's delivery count, the transit
business, the crane, the queue, the origin table and the queue-space signal. -/
def State.endFaulted (s : State) (m : MoveRec) : State :=
  let s := (s.push [.tellOrigin m .ended, .queueSpace]).endMove m
  match m.load, m.dst with
  | .stock _, .slot d => s.endDelivery d
  | _, _ => s

end Sys2Proof.Machine
end

