-- ==== Sys2Proof/Machine/Sequencer.lean ====
section
/-! DEFINITION. The table sequencers (chapter 4) and the change from one program to the next (3.6, 3.7): the start of a
step, its waits, its end, the reactions to abort, hall stop, loss and restore of the table unit. -/

namespace Sys2Proof.Machine

/-! ## Plates on the bed -/

def State.setClaim (s : State) (t : TableId) (c : Claim) : State := s.modTab t (fun r => { r with claim := c })

/-- A record becomes the LOADED plate, the claim is cleared and the step ends (R71, R72, R75). -/
def State.load (s : State) (t : TableId) (id : Nat) : State :=
  ((s.setClaim t .none).modActive t (fun a => { a with loaded := some id })).push [.stepEnd t]

/-- A PLATE step in ADOPT mode (R71). -/
def State.startAdopt (s : State) (t : TableId) : State :=
  match s.bedRec t with
  | some x =>
    if x.state = .onBed then (s.modActive t (fun a => { a with loaded := some x.id })).push [.stepEnd t]
    else s.push [.halt t .noPlate]
  | none => s.push [.halt t .noPlate]

/-- Whether a record lies ON_BED on the bed of a table. -/
def State.liesOnBed (s : State) (t : TableId) (id : Nat) : Bool :=
  (s.bedRec t).any (fun x => x.id = id && x.state = .onBed)

/-- Stages 1 to 3 of a PLATE step in ALLOCATE mode (R72). -/
def State.startAllocate (s : State) (t : TableId) : State :=
  match (s.tab t).claim with
  | .move _ _ .open => s.enter t .plateWait
  | .move _ (some id) .done =>
    if s.liesOnBed t id then s.load t id else (s.setClaim t .none).push [.plateBed t]
  | _ => (s.setClaim t .none).push [.plateBed t]

/-- Stages 4 and 5 of a PLATE step in ALLOCATE mode (R72). -/
def runPlateBed (t : TableId) (s : State) : State :=
  if (s.bedRec t).isSome || (s.bedRef t).any (fun r => (s.lock r).deliveries ≠ 0) then s.enter t .bedWait
  else s.push [.allocRequest t]

/-- A bed-empty event (R14): taken in BED_WAIT only (R70, R72). -/
def runBedEmpty (t : TableId) (s : State) : State :=
  if (s.tab t).state = .bedWait then s.push [.plateBed t] else s

/-! ## Posts of a table -/

/-- The table waits for queue space no more. -/
def State.leaveSpace (s : State) (t : TableId) : State :=
  s.setSpaceWaits (s.moves.spaceWaits.filter (fun w => w ≠ t))

/-- The table waits for queue space: at the tail, or at the place it has (R162). -/
def State.waitSpace (s : State) (t : TableId) : State :=
  if s.moves.spaceWaits.contains t then s else s.setSpaceWaits (s.moves.spaceWaits ++ [t])

/-- The post of a plate move (R74). -/
def platePost (t : TableId) (id : Nat) (bed : SlotRef) : Post :=
  { origin := .table t, load := .stock id, srcZone := 0, dstZone := bed.zone.val, dstSlot := bed.slot.val,
    urgent := false, flag := none }

/-- The plate move of a reserved record is posted (R74). -/
def runPostPlate (t : TableId) (s : State) : State :=
  match (s.tab t).claim, s.bedRef t with
  | .reserved id, some bed =>
    match s.post (platePost t id bed) with
    | (s', .accepted mv) => ((s'.setClaim t (.move mv (some id) .open)).leaveSpace t).enter t .plateWait
    | (s', .full) => (s'.waitSpace t).enter t .plateWait
    | (s', .refused c) => (((s'.makeAvailable id).setClaim t .none).leaveSpace t).push [.halt t (.moveRefused c)]
  | _, _ => s

/-- A hit: the claim takes the reserved record, and the plate move is posted at once (R73). -/
def runHit (t : TableId) (id : Nat) (s : State) : State := runPostPlate t (s.setClaim t (.reserved id))

/-- The post of a MOVE step (R85); `none` is BED_STOCK with an empty bed. -/
def State.stepPost (s : State) (t : TableId) (load : StepLoad) (tag zone slot : Nat) (flag : Option Nat) :
    Option Post :=
  let post (l : Load) : Post :=
    { origin := .table t, load := l, srcZone := (s.tableZone t).elim 16 (fun z => z.val), dstZone := zone,
      dstSlot := slot, urgent := false, flag := flag.bind (numbered 16 0) }
  match load with
  | .bedStock => (s.bedRec t).map (fun x => post (.stock x.id))
  | .batch => some (post (.batch tag))

/-- The move of a MOVE step is posted (R85). -/
def runPostMove (t : TableId) (s : State) : State :=
  match (s.tab t).step with
  | some (.move load tag zone slot flag completion) =>
    match s.stepPost t load tag zone slot flag with
    | none => (s.leaveSpace t).push [.halt t .noPlate]
    | some p =>
      match s.post p with
      | (s', .accepted mv) =>
        match completion with
        | .wait => ((s'.setClaim t (.move mv none .open)).leaveSpace t).enter t .moveWait
        | .noWait => (s'.leaveSpace t).push [.stepEnd t]
      | (s', .full) => (s'.waitSpace t).enter t .moveWait
      | (s', .refused c) => (s'.leaveSpace t).push [.halt t (.moveRefused c)]
  | _ => s

/-- A queue-space signal reaches a table: it posts again if it still waits for space (R74, R85). -/
def runPostAgain (t : TableId) (s : State) : State :=
  if s.moves.spaceWaits.contains t then
    match (s.tab t).state with
    | .plateWait => s.push [.postPlate t]
    | .moveWait => s.push [.postMove t]
    | _ => s
  else s

/-- The start of a MOVE step (R85). -/
def State.startMove (s : State) (t : TableId) : State :=
  match (s.tab t).claim with
  | .move _ _ .open => s.enter t .moveWait
  | .move _ _ .done => (s.setClaim t .none).push [.stepEnd t]
  | _ => (s.setClaim t .none).push [.postMove t]

/-! ## The end of a move, as its origin table takes it (R67, R75, R86) -/

/-- The claim records an end of its move whatever the table's state; a table that waits for the move acts on it. A move
fault does not end the move, and halts only a table in MOVE_WAIT. -/
def runTellOrigin (m : MoveRec) (e : MoveEnd) (s : State) : State :=
  match m.origin with
  | .table t =>
    match (s.tab t).claim with
    | .move id plate .open =>
      if id ≠ m.id then s
      else
        let aborted : State := (s.setClaim t .none).push [.halt t (.moveRefused .aborted)]
        match e, (s.tab t).state with
        | .faulted, .moveWait => s.push [.halt t (.moveRefused .aborted)]
        | .faulted, _ => s
        | .delivered, .plateWait => s.load t (plate.getD 0)
        | .delivered, .moveWait => (s.setClaim t .none).push [.stepEnd t]
        | .delivered, _ => s.setClaim t (.move id plate .done)
        | .returned, .plateWait => (s.setClaim t .none).push [.allocRequest t]
        | .returned, .moveWait => aborted
        | .returned, _ => s.setClaim t (.move id plate .ended)
        | .ended, .plateWait => aborted
        | .ended, .moveWait => aborted
        | .ended, _ => s.setClaim t (.move id plate .ended)
    | _ => s
  | _ => s

/-! ## Flags and marks -/

/-- The start of a WAIT_FLAG step (R76, R138). -/
def State.startWait (s : State) (t : TableId) (f : FlagId) : State :=
  let r := s.flag f
  if r.value then (s.setFlagRec f { r with value := false }).push [.stepEnd t]
  else (s.setFlagRec f { r with waiters := r.waiters ++ [t] }).enter t .flagWait

/-- The tests of a MARK step (R77): the first that fails. -/
def State.markTest (s : State) (t : TableId) (id x y : Nat) : Option HaltCause :=
  match s.mark id with
  | none => some .markUndefined
  | some m =>
    if m.spent then some .serialSpent
    else match s.loadedOnBed t with
      | none => some .noPlate
      | some p => if x ≤ p.len ∧ y ≤ p.wid then none else some .markOffPlate

/-- The start of a MARK step (R77): the table joins the mark queue at its tail (R118). -/
def State.startMark (s : State) (t : TableId) (id x y : Nat) (onMis : OnMismark) : State :=
  match s.markTest t id x y with
  | some cause => s.push [.halt t cause]
  | none =>
    let e : MarkEntry := { table := t, id := id, x := x, y := y, onMis := onMis }
    ((s.setComposer { s.composer with queue := s.composer.queue ++ [e] }).enter t .markWait).push [.serveHead]

/-- The halt cause of a mark result, or none when the step ends (Table 4-5). -/
def markHalt : MarkOutcome → OnMismark → Option HaltCause
  | .success, _ => none
  | .mismarked, .go => none
  | .mismarked, .halt => some .mismark
  | .fault, _ => some .markFault
  | .undefined, _ => some .markUndefined
  | .spent, _ => some .serialSpent
  | .aborted, _ => none

/-- A mark result reaches its table (R78): taken in MARKING, or in MARK_WAIT for UNDEFINED and SPENT. -/
def runMarkResult (t : TableId) (o : MarkOutcome) (s : State) : State :=
  let r := s.tab t
  if (r.state = .marking ∨ r.state = .markWait) ∧ o ≠ .aborted then
    match r.step with
    | some (.mark _ _ _ onMis) =>
      match markHalt o onMis with
      | some cause => s.push [.halt t cause]
      | none => s.push [.stepEnd t]
    | _ => s
  else s

/-! ## Contours -/

/-- The start of a CONTOUR step (R79). -/
def State.startContour (s : State) (t : TableId) : State :=
  if (s.loadedOnBed t).isNone then s.push [.halt t .noPlate]
  else if (s.tab t).wear.state = .due then s.enter t .due
  else s.push [.contourArc t]

/-- The third stage of a CONTOUR step (R79): the contour in flight is set and the guard asked for the arc hold (R147). -/
def runContourArc (t : TableId) (s : State) : State :=
  match (s.tab t).step, s.tableZone t with
  | some (.contour number pierces), some z =>
    let c : Contour := { number := number, pierces := pierces, arcHeld := false, ackAwaited := false, hand := 0 }
    let g := s.guard z
    let s := (s.modTab t (fun r => { r with contour := some c })).setGuard z (g.afterArcRequest t)
    match g.arcAnswer with
    | .granted => s.push [.arcGranted t]
    | .waits => s.enter t .pierceWait
    | .notReached => s
  | _, _ => s

/-- The thickness of a table's LOADED plate. -/
def State.loadedThick (s : State) (t : TableId) : Nat :=
  (((s.tab t).active.bind Active.loaded).bind s.stockRec).elim 0 StockRec.thick

/-- The grant of the arc hold (R80). -/
def runArcGranted (t : TableId) (s : State) : State :=
  match (s.tab t).contour with
  | none => s
  | some c =>
    if c.arcHeld then s
    else
      let s := s.modTab t (fun r => { r with contour := some { c with arcHeld := true } })
      let s := s.addWear t (pierceCost c.pierces (s.loadedThick t)) .pierce
      let s := s.modTab t (fun r => { r with
        contour := some { c with arcHeld := true, ackAwaited := true, hand := s.line.nextHand } })
      (s.handTo (tableUnit t) (.runContour c.number c.pierces) .sequencer).enter t .pierceWait

/-- The contour in flight is cleared and the contour timer stopped. -/
def State.clearContour (s : State) (t : TableId) : State :=
  s.modTab t (fun r => { r with contour := none, timer := none })

def State.sendKill (s : State) (t : TableId) : State := s.handTo (tableUnit t) .arcKill .sequencer

/-- A contour ends with a fault while the arc burns (R81): ARC_KILL, the hold given back, and the halt. -/
def State.faultContour (s : State) (t : TableId) (cause : HaltCause) : State :=
  ((s.sendKill t).clearContour t).push [.arcRelease t, .halt t cause]

/-- The contour in flight of a table in CUTTING. -/
def State.cutting (s : State) (t : TableId) : Option Contour :=
  if (s.tab t).state = .cutting then (s.tab t).contour else none

/-- A CONTOUR_DONE (R81); out of CUTTING it is a stray report (R70). -/
def State.takeContourDone (s : State) (t : TableId) (number arcTime : Nat) : State :=
  match s.cutting t with
  | none => s.stray (tableUnit t)
  | some c =>
    if c.number = number then ((s.addArc t arcTime).clearContour t).push [.arcRelease t, .stepEnd t]
    else s.faultContour t .contourFault

/-- A CONTOUR_FAULT (R81); out of CUTTING it is a stray report (R70). -/
def State.takeContourFault (s : State) (t : TableId) : State :=
  match s.cutting t with
  | none => s.stray (tableUnit t)
  | some _ => s.faultContour t .contourFault

/-- The answer to a command of a sequencer: to the RUN_CONTOUR it awaits (R80), or to an ARC_KILL while kill awaited is
set (R94). Any other answer is disregarded (R70, R82). -/
def State.sequencerAnswer (s : State) (t : TableId) (h : Handed) (a : Answer) : State :=
  let r := s.tab t
  match h.cmd.kind, a with
  | .runContour, .ack =>
    match r.contour with
    | some c =>
      if c.ackAwaited ∧ c.hand = h.hand then
        (s.modTab t (fun r => { r with
          contour := some { c with ackAwaited := false }, timer := some (s.now + 1000 * r.cfg.contourLimit) })).enter
          t .cutting
      else s
    | none => s
  | .runContour, .nak =>
    match r.contour with
    | some c =>
      if c.ackAwaited ∧ c.hand = h.hand then
        (s.clearContour t).push [.arcRelease t, .halt t .contourFault]
      else s
    | none => s
  | .arcKill, .ack =>
    if r.killAwaited then
      let held := r.contour.any Contour.arcHeld
      (s.modTab t (fun r => { r with killAwaited := false, contour := none })).push
        (if held then [.arcRelease t] else [])
    else s
  | .arcKill, .nak => if r.killAwaited then s.sendKill t else s
  | _, _ => s

/-! ## REMNANT and END -/

/-- A REMNANT step (R83). -/
def State.startRemnant (s : State) (t : TableId) (used : Nat) : State :=
  match (s.push [.stepEnd t]).deriveRemnant t used with
  | some s' => s'.modActive t (fun a => { a with loaded := none, remnantRan := true })
  | none => s.push [.halt t .noPlate]

/-- The length of the LOADED plate. -/
def State.loadedLen (s : State) (t : TableId) : Nat :=
  (((s.tab t).active.bind Active.loaded).bind s.stockRec).elim 0 StockRec.len

/-- An END step (R84). -/
def State.startEnd (s : State) (t : TableId) : State :=
  let s := s.push [.endDone t]
  match (s.tab t).active with
  | none => s
  | some a =>
    if a.loaded.isSome ∧ !a.remnantRan then
      ((s.deriveRemnant t (s.loadedLen t)).getD s).modActive t (fun a => { a with loaded := none })
    else s

/-- Activation (R58): a READY program becomes the running program with a new context and starts at step 0. -/
def State.activate (s : State) (t : TableId) : State :=
  match (s.tab t).staged with
  | .ready steps =>
    (s.modTab t (fun r => { r with
      active := some { steps := steps, index := 0, loaded := none, remnantRan := false }, staged := .empty,
      swap := false })).push [.stepStart t]
  | _ => s

/-- What ends with the running program (R60, R62, R67). -/
def TableRec.emptied (r : TableRec) : TableRec :=
  { r with active := none, claim := .none, contour := none, timer := none, swap := false }

/-- The swap at END (R60): the staged program where swap-pending is set, else the table is IDLE and reports it (R84). -/
def runEndDone (t : TableId) (s : State) : State :=
  if (s.tab t).swap then s.activate t
  else
    let s := s.modTab t (fun r => { r.emptied with state := .idle, cause := none })
    s.raise (s.tableReport t)

/-! ## The start of a step (R70) -/

/-- The step at the step index starts, and the rule of its kind is applied (R70). -/
def runStepStart (t : TableId) (s : State) : State :=
  match (s.tab t).step with
  | none => s
  | some (.plate .adopt _) => s.startAdopt t
  | some (.plate .allocate _) => s.startAllocate t
  | some (.waitFlag f) =>
    match numbered 16 0 f with
    | some f => s.startWait t f
    | none => s
  | some (.setFlag f) =>
    match numbered 16 0 f with
    | some f => s.push [.setFlag f (.step t (((s.tab t).active.map Active.index).getD 0)), .stepEnd t]
    | none => s
  | some (.mark id x y onMis) => s.startMark t id x y onMis
  | some (.contour _ _) => s.startContour t
  | some (.remnant used) => s.startRemnant t used
  | some (.move ..) => s.startMove t
  | some .finish => s.startEnd t

/-! ## Abort, hall stop, loss and restore -/

/-- The table leaves the mark queue. -/
def State.dropMark (s : State) (t : TableId) : State :=
  s.setComposer { s.composer with queue := s.composer.queue.filter (fun e => e.table ≠ t) }

/-- The table is taken out of whatever it waits on, and its contour in flight is cleared (R90, R92). -/
def runTakeOff (t : TableId) (s : State) : State :=
  let r := s.tab t
  let held := r.contour.any Contour.arcHeld
  let cleared : State := s.clearContour t
  match r.state with
  | .allocWait => cleared.dropWait t
  | .flagWait => cleared.dropWaiter t
  | .markWait => cleared.dropMark t
  | .marking => if s.composer.ctx.any (fun c => c.entry.table = t) then cleared.push [.markDrop .aborted] else cleared
  | .plateWait => cleared.leaveSpace t
  | .moveWait => cleared.leaveSpace t
  | .pierceWait => if held then (cleared.sendKill t).push [.arcRelease t] else cleared.dropArcWaiter t
  | .cutting => if held then (cleared.sendKill t).push [.arcRelease t] else cleared
  | _ => cleared

/-- An abort settles the claim and ends the program (R91, R62): a reservation goes back, a QUEUED plate move is
cancelled, any other move runs on. -/
def runAbortEnd (t : TableId) (s : State) : State :=
  let claim := (s.tab t).claim
  let s := s.returnReservation t
  let s := (s.modTab t TableRec.emptied).enter t .idle
  match claim with
  | .move id (some _) .open =>
    match s.move id with
    | some m => if m.state = .queued then s.cancelMove m else s
    | none => s
  | _ => s

/-- A waiting or running table halts at the hall stop (R92): a reservation without a move goes back first. -/
def runStopHalt (t : TableId) (s : State) : State := runHalt t .hallStop (s.returnReservation t)

/-- The states in which the hall stop halts a table (R92). -/
def TableState.runs : TableState → Bool
  | .allocWait => true
  | .bedWait => true
  | .plateWait => true
  | .flagWait => true
  | .markWait => true
  | .marking => true
  | .due => true
  | .pierceWait => true
  | .cutting => true
  | .moveWait => true
  | _ => false

/-- The reaction of one table to the assertion of the hall stop input (R92). -/
def runTableStop (t : TableId) (s : State) : State :=
  if (s.tab t).state.runs then s.push [.takeOff t, .stopHalt t] else s

/-- The loss of a table's unit (R93). -/
def runTableLost (t : TableId) (s : State) : State :=
  let s := ((((s.dropWait t).dropMark t).dropWaiter t).leaveSpace t).dropArcWaiter t
  let s := s.modTab t (fun r => { r with timer := none })
  (s.returnReservation t).enter t .offline

/-- The restore of a table's unit (R94, R95). -/
def runTableBack (t : TableId) (arcOn : Bool) (s : State) : State :=
  if arcOn then
    ((s.sendKill t).modTab t (fun r => { r with killAwaited := true })).push [.tableUp t]
  else
    let held := (s.tab t).contour.any Contour.arcHeld
    (s.modTab t (fun r => { r with contour := none, killAwaited := false })).push
      ((if held then [Task.arcRelease t] else []) ++ [.tableUp t])

/-- The table becomes HALTED with UNIT_LOST when it has a program, and IDLE when it has none (R94). -/
def runTableUp (t : TableId) (s : State) : State :=
  if (s.tab t).active.isSome then runHalt t .unitLost s else s.enter t .idle

/-- The reply to TABLE_RESUME carries the state the table holds once the resume is carried out (R87). -/
def runReplyResumed (t : TableId) (s : State) : State := s.accept (.resumed (s.tab t).state)

end Sys2Proof.Machine
end

