-- ==== Sys2Proof/Machine/Field.lean ====
section
/-! DEFINITION. What arrives on the field line and what the CH-42 sends on it: answer windows (R194, R196, R200), the
routing of field reports (Table 10-4), pass-through frames (R200), and the turns of the line (R193). -/

namespace Sys2Proof.Machine

/-! ## Frames from the units -/

/-- The answer that a frame gives to a command in flight (R194): an ACK or NAK that names the command, on its channel, or
for a STATUS_QUERY a STATUS or NAK. A STATUS must be of the unit's own kind, and its zone must lie on the runway. A NAK that
names another kind than STATUS_QUERY, and a STATUS whose last byte names neither of its values, are bad answers: DESIGN
CHOICE (notes/assumptions/29.md). -/
def goodAnswerOf (u : UnitId) (k : CmdKind) (marker : Bool) : FieldMsg → Option Answer
  | .ack k' => if k' = .cmd k ∧ k ≠ .statusQuery ∧ marker = cmdMarker k then some .ack else none
  | .nak k' => if k' = .cmd k ∧ marker = cmdMarker k then some .nak else none
  | .status c =>
    if k = .statusQuery ∧ !marker then
      match ownerOf u, c with
      | .table _, .arc on => some (.status (.arc on))
      | .crane _, .crane z load => if z < 16 then some (.status (.crane z load)) else none
      | _, _ => none
    else none
  | _ => none

/-- A field report reaches its block (Table 10-4); on the wrong channel or from the wrong kind of unit it is stray. -/
def State.deliver (s : State) (u : UnitId) (marker : Bool) (m : FieldMsg) : State :=
  match ownerOf u, marker, m with
  | .table t, false, .contourDone number arcTime => s.takeContourDone t number arcTime
  | .table t, false, .contourFault _ _ => s.takeContourFault t
  | .table t, true, .frameEcho token frame count chars => s.takeEcho t token frame count chars
  | .table t, true, .frameReject token frame => s.takeReject t token frame
  | .crane c, false, .arrived zone => s.takeArrived c zone
  | .crane c, false, .picked kg => s.takePicked c kg
  | .crane c, false, .placed => s.takePlaced c
  | .crane c, false, .craneFault _ => s.takeCraneFault c
  | _, _, _ => s.stray u

/-- Whether a frame is a field report (10.2). -/
def FieldMsg.isReport : FieldMsg → Bool
  | .ack _ => false
  | .nak _ => false
  | .status _ => false
  | .empty => false
  | _ => true

/-- A frame from the unit of a command window (R194). -/
def State.receiveAnswer (s : State) (u : UnitId) (marker : Bool) (m : FieldMsg) : State :=
  match (s.unit u).out with
  | none => s.closeWindow
  | some o =>
    match goodAnswerOf u o.cmd.cmd.kind marker m with
    | some a => s.goodAnswer u o a
    | none => s.failCommand u .badAnswer

/-- A frame from the unit of an offer window (R196): a report or EMPTY closes it; any other frame is stray. -/
def State.receiveReport (s : State) (u : UnitId) (marker : Bool) (m : FieldMsg) : State :=
  if m.isReport then s.closeWindow.deliver u marker m
  else if m = .empty ∧ !marker then s.closeWindow
  else s.stray u

/-! ## Pass-through answers (R200) -/

/-- The pass-through window closes with the unit's frame, which goes back whole in an ACCEPT (R200). -/
def State.passAnswered (s : State) (kind : Byte) (body : List Byte) : State := s.closeWindow.accept (.answer kind body)

/-- The pass-through window closes without an answer: REFUSE with UNIT_LOST (R200). -/
def State.passLost (s : State) : State := s.closeWindow.refuse .unitLost

/-- The number of a command's kind, from 1 in the order of Table 10-3. -/
def cmdNumber : CmdKind → Nat
  | .runContour => 1
  | .arcKill => 2
  | .markStart => 3
  | .markFrame => 4
  | .goto => 5
  | .pick => 6
  | .place => 7
  | .stop => 8
  | .statusQuery => 9

/-- The number that the body of an ACK or NAK carries. -/
def namedNumber : NamedCmd → Nat
  | .cmd k => cmdNumber k
  | .other n => n

/-- The kind of a frame from a unit, numbered in the order of Table 10-3, ACK, NAK and STATUS being 11, 12 and 13. -/
def FieldMsg.number : FieldMsg → Nat
  | .ack _ => 11
  | .nak _ => 12
  | .status _ => 13
  | .empty => 14
  | .contourDone _ _ => 15
  | .contourFault _ _ => 16
  | .frameEcho .. => 17
  | .frameReject _ _ => 18
  | .arrived _ => 19
  | .picked _ => 20
  | .placed => 21
  | .craneFault _ => 22

/-- The body of a frame from a unit (Table 10-3): ON and YES are 0, OFF and NO are 1, in the order the table names them
(12.6). The widths of its numbers are a DESIGN CHOICE (notes/assumptions/7.md). -/
def FieldMsg.bodyBytes : FieldMsg → List Byte
  | .ack k => [byteOf (namedNumber k)]
  | .nak k => [byteOf (namedNumber k)]
  | .status (.arc on) => [if on then 0 else 1]
  | .status (.crane z load) => [byteOf z, if load then 0 else 1]
  | .status (.other zone value) => (zone.map byteOf).toList ++ [byteOf value]
  | .empty => []
  | .contourDone number arcTime => bytes2 number ++ bytes2 arcTime
  | .contourFault number code => bytes2 number ++ [byteOf code]
  | .frameEcho token frame count chars =>
    [byteOf token, byteOf frame, byteOf count] ++ (chars.take 6).map byteOf
      ++ List.replicate (6 - chars.length) 0
  | .frameReject token frame => [byteOf token, byteOf frame]
  | .arrived zone => [byteOf zone]
  | .picked kg => bytes2 kg
  | .placed => []
  | .craneFault code => [byteOf code]

/-- The kind byte of a frame: the channel in bit 7, the kind below (Table 12-11). -/
def kindByte (marker : Bool) (m : FieldMsg) : Byte := byteOf (m.number + if marker then 128 else 0)

/-! ## Reading a frame from a unit (R191, Table 12-11) -/

/-- The body lengths that are possible for a kind of frame from a unit (Table 10-3); none for a number that is no such
kind. A STATUS has one byte from a table unit and two from a crane unit. -/
def fieldLengths : Nat → List Nat
  | 11 => [1]
  | 12 => [1]
  | 13 => [1, 2]
  | 14 => [0]
  | 15 => [4]
  | 16 => [3]
  | 17 => [9]
  | 18 => [2]
  | 19 => [1]
  | 20 => [2]
  | 21 => [0]
  | 22 => [1]
  | _ => []

/-- Whether a frame whose CRC agrees is intact (R191): its kind, in bits 0 to 6, is one of Table 10-3's kinds for a frame
from a unit, and its length is possible for that kind. -/
def fieldIntact (kind : Byte) (body : List Byte) : Bool := (fieldLengths (kind.toNat % 128)).contains body.length

/-- The command kind of a number, in the order of Table 10-3. -/
def cmdKindOf : Nat → Option CmdKind
  | 1 => some .runContour
  | 2 => some .arcKill
  | 3 => some .markStart
  | 4 => some .markFrame
  | 5 => some .goto
  | 6 => some .pick
  | 7 => some .place
  | 8 => some .stop
  | 9 => some .statusQuery
  | _ => none

/-- What a number in the body of an ACK or NAK names. -/
def namedCmdOf (n : Nat) : NamedCmd := (cmdKindOf n).elim (.other n) .cmd

/-- What the last byte of a STATUS, ON or YES 0 and OFF or NO 1, and the zone before it report. -/
def statusOf (zone : Option Nat) (value : Nat) : StatusContent :=
  match zone, value with
  | none, 0 => .arc true
  | none, 1 => .arc false
  | some z, 0 => .crane z true
  | some z, 1 => .crane z false
  | _, _ => .other zone value

/-- The frame that a kind number and a body spell; `none` only where the frame is not intact (R191). -/
def fieldMsgOf (kind : Nat) (body : List Byte) : Option FieldMsg :=
  match kind, body with
  | 11, [k] => some (.ack (namedCmdOf k.toNat))
  | 12, [k] => some (.nak (namedCmdOf k.toNat))
  | 13, [a] => some (.status (statusOf none a.toNat))
  | 13, [z, l] => some (.status (statusOf (some z.toNat) l.toNat))
  | 14, [] => some .empty
  | 15, [n1, n2, a1, a2] => some (.contourDone (num2 n1 n2) (num2 a1 a2))
  | 16, [n1, n2, c] => some (.contourFault (num2 n1 n2) c.toNat)
  | 17, t :: f :: c :: chars => some (.frameEcho t.toNat f.toNat c.toNat (chars.map BitVec.toNat))
  | 18, [t, f] => some (.frameReject t.toNat f.toNat)
  | 19, [z] => some (.arrived z.toNat)
  | 20, [m1, m2] => some (.picked (num2 m1 m2))
  | 21, [] => some .placed
  | 22, [c] => some (.craneFault c.toNat)
  | _, _ => none

/-- The command that stands for a frame from a unit (Table 10-3). -/
def FieldMsg.command (unit : Nat) (marker : Bool) : FieldMsg → Instr
  | .ack k => .ack unit marker k
  | .nak k => .nak unit marker k
  | .status c => .status unit marker c
  | .empty => .empty unit marker
  | .contourDone number arcTime => .contourDone unit marker number arcTime
  | .contourFault number code => .contourFault unit marker number code
  | .frameEcho token frame count chars => .frameEcho unit marker token frame count chars
  | .frameReject token frame => .frameReject unit marker token frame
  | .arrived zone => .arrived unit marker zone
  | .picked kg => .picked unit marker kg
  | .placed => .placed unit marker
  | .craneFault code => .craneFault unit marker code

/-- The address, kind byte and body of a frame whose CRC agrees (Tables 12-3 and 12-11), after the start byte that the
receiver hunts for; `none` for characters that make no such frame. -/
def fieldFrameOf (chars : List Byte) : Option (Nat × Byte × List Byte) :=
  match chars.dropWhile (fun c => c ≠ 0x7E) with
  | _ :: addr :: kind :: len :: rest =>
    let body := rest.take len.toNat
    match rest.drop len.toNat with
    | hi :: lo :: _ =>
      if crc16 ([addr, kind, len] ++ body) = hi ++ lo then some (addr.toNat, kind, body) else none
    | _ => none
  | _ => none

/-- The command that characters from a unit stand for, in a pass-through window or out of one (R191, R200): a frame that
is not intact is damaged, and every intact one stands for a frame of its kind. -/
def fieldCommandOf (pass : Bool) (chars : List Byte) : Instr :=
  let damaged : Instr := if pass then .passThroughTimeout true else .damagedFieldFrame
  match fieldFrameOf chars with
  | none => damaged
  | some (addr, kind, body) =>
    if !fieldIntact kind body then damaged
    else if pass then .passThroughAnswer addr kind body
    else ((fieldMsgOf (kind.toNat % 128) body).map (FieldMsg.command addr (kind.toNat / 128 = 1))).getD damaged

/-- An intact frame from another address than that of the open window, or with no window open (R194, R196): it is
disregarded and counted as a stray of its unit. An ABSENT unit has no count (R201). -/
def State.strayFrame (s : State) (u : UnitId) : State := if (s.unit u).link = .absent then s else s.stray u

/-- An intact frame arrives from an address, on a channel (R191). From another address than that of the open window, or
with no window open, it is stray (R194, R196); an address of no unit is disregarded. -/
def State.receive (s : State) (addr : Nat) (marker : Bool) (m : FieldMsg) : State :=
  match numbered 6 1 addr with
  | none => s
  | some u =>
    match s.line.window with
    | none => s.strayFrame u
    | some w =>
      if w.unit ≠ u then s.strayFrame u
      else match w.kind with
        | .command => s.receiveAnswer u marker m
        | .offer => s.receiveReport u marker m
        | .pass => s.passAnswered (kindByte marker m) m.bodyBytes

/-- A damaged frame in an answer window (R194, R195, R196, R200). -/
def State.receiveDamaged (s : State) : State :=
  match s.line.window with
  | none => s
  | some w =>
    match w.kind with
    | .command => s.failCommand w.unit .badAnswer
    | .offer => s.closeWindow.failReport w.unit
    | .pass => s.passLost

/-- Whether an answer window of a kind is open and its time has passed. -/
def State.windowOver (s : State) (k : WindowKind) : Bool :=
  s.line.window.any (fun w => decide (w.kind = k) && decide (w.expiry ≤ s.now))

/-! ## Frames to the units (Tables 12-11 and 12-12) -/

/-- The body of a command (Table 10-3). The widths of its numbers, MARK_FRAME's apart, are a DESIGN CHOICE
(notes/assumptions/7.md). -/
def FieldCmd.bodyBytes : FieldCmd → List Byte
  | .runContour number pierces => bytes2 number ++ [byteOf pierces]
  | .arcKill => []
  | .markStart token x y count => [byteOf token] ++ bytes2 x ++ bytes2 y ++ [byteOf count]
  | .markFrame f => f.image
  | .goto z => [byteOf z.val]
  | .pick slot => [byteOf slot]
  | .place slot => [byteOf slot]
  | .stop => []
  | .statusQuery => []

/-- Unit address, kind byte and body of a transmission; OFFER is kind 10 of Table 10-3, and a pass-through frame goes
out on the main channel with its kind and body unchanged (R200). A host frame kind with bit 7 set cannot keep both: the
byte goes out as it is, and so with the channel bit of the marker channel. DESIGN CHOICE (notes/assumptions/25.md). -/
def FieldTx.parts : FieldTx → UnitId × Byte × List Byte
  | .command u c => (u, byteOf (cmdNumber c.kind + if cmdMarker c.kind then 128 else 0), c.bodyBytes)
  | .offer u => (u, 10, [])
  | .pass f => (f.unit, f.kind, f.body)

/-- The characters of a transmission on the field line (Table 12-11), its CRC high byte first (Table 12-3). -/
def FieldTx.image (tx : FieldTx) : List Byte :=
  let (u, kind, body) := tx.parts
  let covered := [byteOf (u.val + 1), kind, byteOf body.length] ++ body
  let crc := crc16 covered
  [0x7E] ++ covered ++ [byteOf (crc.toNat / 256), byteOf crc.toNat]

/-! ## The turns of the line (R193) -/

/-- The unit after a unit, in rotation. -/
def nextUnit (u : UnitId) : UnitId := if h : u.val + 1 < 6 then ⟨u.val + 1, h⟩ else 0

/-- The six units in rotation from one of them. -/
def rotation (u : UnitId) : List UnitId := (List.finRange 6).map (fun i => i + u)

/-- Whether a unit has something to transmit in a command turn: its outstanding command is DUE, or a pass-through frame
waits for it. -/
def State.cmdReady (s : State) (u : UnitId) : Bool :=
  (s.unit u).out.any (fun o => !o.inFlight) || s.line.pass.any (fun f => f.unit = u)

/-- Whether a unit is offered the line: ONLINE, restoring clear, no command outstanding. -/
def State.offerReady (s : State) (u : UnitId) : Bool :=
  let r := s.unit u
  r.link = .online && !r.restoring && r.out.isNone

def State.cmdUnit (s : State) : Option UnitId := (rotation s.line.cmdNext).find? s.cmdReady

def State.offerUnit (s : State) : Option UnitId := (rotation s.line.offerNext).find? s.offerReady

/-- The transmission of a unit's outstanding command, which becomes IN_FLIGHT, or else of its pass-through frame. Either
moves the rotation of the command turns behind the unit (R193): a pass-through frame counts as the unit's command
transmission, which the rule leaves open. DESIGN CHOICE (notes/assumptions/26.md). -/
def State.transmit (s : State) (u : UnitId) : State :=
  let opened (k : WindowKind) (tx : FieldTx) : FieldLine :=
    { s.line with
      window := some { unit := u, kind := k, expiry := s.now + Config.windowMs }, cmdNext := nextUnit u, turn := .offer,
      sent := some tx }
  match (s.unit u).out, s.line.pass with
  | some o, _ =>
    ({ s with line := opened .command (.command u o.cmd.cmd) } : State).modUnit u
      (fun r => { r with out := some { o with inFlight := true } })
  | none, some f => { s with line := { opened .pass (.pass f) with pass := none } }
  | none, none => s

/-- A command turn, taken when it is due, or when the offer turn that is due finds nothing to send (R193). -/
def State.commandTurn (s : State) : State :=
  if s.line.window.isSome then s
  else match s.cmdUnit with
    | none => s
    | some u => if s.line.turn = .command ∨ s.offerUnit = none then s.transmit u else s

/-- An offer turn, taken when it is due, or when the command turn that is due finds nothing to send (R193). -/
def State.offerTurn (s : State) : State :=
  if s.line.window.isSome then s
  else match s.offerUnit with
    | none => s
    | some u =>
      if s.line.turn = .offer ∨ s.cmdUnit = none then
        { s with line := { s.line with
            window := some { unit := u, kind := .offer, expiry := s.now + Config.windowMs }, offerNext := nextUnit u,
            turn := .command, sent := some (.offer u) } }
      else s

end Sys2Proof.Machine
end

