-- ==== Sys2Proof/Machine/Work.lean ====
section
/-! DEFINITION. One handling (00_scope 5.6): the work that an event or request sets off, piece by piece, then the
stock-change event it owes (R13) and the beacons, which follow their sources from its end (R213). -/

namespace Sys2Proof.Machine

/-! ## The pieces of work -/

/-- An answer reaches the block that handed the command (R194, R198). -/
def runAnswered (u : UnitId) (h : Handed) (a : Answer) (s : State) : State :=
  match h.sender, ownerOf u, a with
  | .sequencer, .table t, _ => s.sequencerAnswer t h a
  | .composer, .table _, _ => s.composerAnswer h a
  | .cranes, .crane c, _ => s.craneAnswer c h a
  | .restore, _, .status c => s.restoreGood u c
  | .restore, _, .nak => s.restoreFailed u 0
  | _, _, _ => s

/-- One piece of work. -/
def runTask : Task → State → State
  | .stepStart t => runStepStart t
  | .stepEnd t => runStepEnd t
  | .plateBed t => runPlateBed t
  | .allocRequest t => runAllocRequest t
  | .allocMiss t req otherKind => runAllocMiss t req otherKind
  | .hit t id => runHit t id
  | .postPlate t => runPostPlate t
  | .postMove t => runPostMove t
  | .bedEmpty t => runBedEmpty t
  | .contourArc t => runContourArc t
  | .arcGranted t => runArcGranted t
  | .arcRelease t => runArcRelease t
  | .halt t cause => runHalt t cause
  | .endDone t => runEndDone t
  | .takeOff t => runTakeOff t
  | .abortEnd t => runAbortEnd t
  | .stopHalt t => runStopHalt t
  | .setFlag f source => runSetFlag f source
  | .serveHead => runServeHead
  | .markResult t o => runMarkResult t o
  | .markClose => runMarkClose
  | .markDrop o => runMarkDrop o
  | .transitAsk mv z => runTransitAsk mv z
  | .transitGranted mv z => runTransitGranted mv z
  | .travelCheck mv => runTravelCheck mv
  | .enterPhase mv p => runEnterPhase mv p
  | .giveUp mv z => runGiveUp mv z
  | .tryMove mv => runTryMove mv
  | .complete mv => runComplete mv
  | .moveReport m => runMoveReport m
  | .tellOrigin m e => runTellOrigin m e
  | .queueSpace => runQueueSpace
  | .postAgain t => runPostAgain t
  | .faultMove mv code => runFaultMove mv code
  | .weigh mv kg => runWeigh mv kg
  | .answered u h a => runAnswered u h a
  | .tableStop t => runTableStop t
  | .craneStop => runCraneStop
  | .composerStop => runComposerStop
  | .guardStop => runGuardStop
  | .tableLost t => runTableLost t
  | .composerLost t => runComposerLost t
  | .craneLost c => runCraneLost c
  | .tableBack t arcOn => runTableBack t arcOn
  | .tableUp t => runTableUp t
  | .craneBack c z load => runCraneBack c z load
  | .craneResumed c => runCraneResumed c
  | .replyResumed t => runReplyResumed t
  | .replyRestored u from_ content => runReplyRestored u from_ content

/-- Does the work still due, the first piece first; each piece puts what it sets off in front (notes/assumptions/4.md). -/
def drain : Nat → State → State
  | 0, s => { s with work := [] }
  | n + 1, s =>
    match s.work with
    | [] => s
    | t :: ts => drain n (runTask t { s with work := ts })

/-! ## Beacons (R213) -/

/-- Whether a source condition holds (Table 11-7). -/
def State.sourceHolds (s : State) : BeaconSource → Bool
  | .off => false
  | .on => true
  | .tableArc t =>
    match (s.tableZone t).map s.guard with
    | some g =>
      match g.state with
      | .arc => true
      | .settling _ => true
      | _ => false
    | none => false
  | .tableHalted t => (s.tab t).state = .halted
  | .tableWear t => (s.tab t).wear.state ≠ .ok
  | .zoneTransit z =>
    match (s.guard z).state with
    | .transit _ => true
    | _ => false
  | .craneBusy c => (s.crane c).state = .busy
  | .faultLocked => s.hall.fault.held.isSome
  | .hallStopped => s.hall.mode = .stopped || s.hall.stop

/-- The half period of a pattern, in ms. -/
def Pattern.half : Pattern → Option Nat
  | .steady => none
  | .slow => some Config.slowHalfMs
  | .fast => some Config.fastHalfMs

/-- An output follows its source: a pattern starts with its lit half when the source begins to hold, and the output is
dark while it does not. -/
def Beacon.follow (b : Beacon) (now : Nat) (holds : Bool) : Beacon :=
  if !holds then { b with running := false, lit := false, toggle := none }
  else if b.running then b
  else { b with running := true, lit := true, toggle := b.pattern.half.map (fun h => now + h) }

def State.followBeacons (s : State) : State :=
  { s with hall := { s.hall with beacons := s.hall.beacons.map (fun b => b.follow s.now (s.sourceHolds b.source)) } }

/-! ## A handling -/

/-- One stock-change event, where the handling has done something that owes one (R13). -/
def State.takeChanged (s : State) : State :=
  if s.stock.changed then { s with stock := { s.stock with events := s.stock.events + 1, changed := false } } else s

/-- The end of a handling: the work it has set off, its stock-change event, and the beacons. -/
def State.settle (s : State) : State := (drain Config.handlingBound s).takeChanged.followBeacons

/-- An event that changes what the beacons or other blocks see. Nothing happens while the reset pin is held (R204). -/
def handled (f : State → State) (s : State) : Host.Outcome State Fault Refusal :=
  if s.hall.inReset then .next s else .next (f s).settle

/-- An event that sets off no work and touches no beacon source. -/
def plain (f : State → State) (s : State) : Host.Outcome State Fault Refusal :=
  if s.hall.inReset then .next s else .next (f s)

end Sys2Proof.Machine
end

