-- ==== Sys2Proof/Machine/Request.lean ====
section
/-! DEFINITION. How a request of the host is taken (R216): it is the frame at the head of the receive buffer, not yet
taken. A request command that is not the request in hand has no effect (notes/assumptions/2.md). -/

namespace Sys2Proof.Machine

/-- Whether a command is the request in hand: the head of the receive buffer, not yet taken, spells it (R216). -/
def State.asked (s : State) (i : Instr) : Bool :=
  match s.host.hand, s.host.buffer with
  | .untaken, f :: _ => decide (decodeFrame f = i)
  | _, _ => false

/-- A request whose handling may set off work or change a beacon source. -/
def request (i : Instr) (f : State → State) : State → Host.Outcome State Fault Refusal :=
  handled (fun s => if s.asked i then f s else s)

/-- A request whose handling sets off no work and changes no beacon source. -/
def ask (i : Instr) (f : State → State) : State → Host.Outcome State Fault Refusal :=
  plain (fun s => if s.asked i then f s else s)

end Sys2Proof.Machine
end

