-- ==== Sys2Proof/Machine/CraneRequests.lean ====
section
/-! DEFINITION. The meanings of the move and crane requests (9.3, 9.8), of the dispatch attempt and of the phase timer. -/

namespace Sys2Proof.Machine

/-! ## Posting -/

/-- The load that MOVE_POST names (R163, Table 12-10); `none` for an unknown kind or a tag out of range. The tag of a BATCH
load is read from bytes 1 and 2, so that a byte 1 other than 0 is a tag out of range; Table 12-10 says nothing of byte 1.
DESIGN CHOICE (notes/assumptions/23.md). Bytes that a load does not use are disregarded (notes/assumptions/3.md). -/
def postLoad (b : PostBody) : Option Load :=
  match b.load with
  | 0 => some (.stock b.ref)
  | 1 => if within 1 255 b.ref then some (.batch b.ref) else none
  | 2 => some .none
  | _ => none

/-- MOVE_POST (R163). -/
def execMovePost (b : PostBody) : State → Host.Outcome State Fault Refusal :=
  request (.movePost b) fun s =>
    s.notInSetup
      (match postLoad b, flagByte b.flag with
        | some load, some flag =>
          if 1 < b.priority ∨ 15 < b.dstZone then s.refuse .range
          else
            match s.post { origin := .host, load := load, srcZone := b.srcZone, dstZone := b.dstZone,
                           dstSlot := b.dstSlot, urgent := decide (b.priority = 1), flag := flag } with
            | (s', .accepted id) => s'.accept (.moveId id)
            | (s', .full) => s'.refuse .full
            | (s', .refused c) => s'.refuse c
        | _, _ => s.refuse .range)

/-! ## Requests that name a move (R180) -/

/-- The common tests of the requests that change a move (R180). -/
def State.withMove (s : State) (id : Nat) (f : MoveRec → State) : State :=
  s.notInSetup
    (match s.move id with
      | none => s.refuse .notFound
      | some m => f m)

/-- The state of the crane of a move. -/
def State.moveCrane (s : State) (m : MoveRec) : Option CraneState := m.crane.map (fun c => (s.crane c).state)

/-- MOVE_ACCEPT_WEIGHT (R182). -/
def execMoveAcceptWeight (move : Nat) : State → Host.Outcome State Fault Refusal :=
  request (.moveAcceptWeight move) fun s =>
    s.withMove move fun m =>
      if m.state = .weightHold ∧ s.moveCrane m = some .busy then
        ((s.modMove m.id (fun m => { m with state := .dispatched })).afterPick { m with state := .dispatched }).accept
          .none
      else s.refuse .badState

/-- What an accepted MOVE_ABORT does (R182): the load goes back to its source slot as QUARANTINED. -/
def State.sendBack (s : State) (m : MoveRec) (src : SlotRef) : State :=
  let s := s.push [.enterPhase m.id .placing]
  let s := match m.dst with
    | .slot d => s.endDelivery d
    | .zone _ => s
  (s.beginDelivery src).modMove m.id (fun m => { m with
    dst := .slot src, returning := true, flag := none, quarantine := true, state := .dispatched })

/-- MOVE_ABORT (R182). -/
def execMoveAbort (move : Nat) : State → Host.Outcome State Fault Refusal :=
  request (.moveAbort move) fun s =>
    s.withMove move fun m =>
      if m.state = .weightHold ∧ s.moveCrane m = some .busy then
        match m.src with
        | .slot r =>
          if s.ownedBed r then s.refuse .owned
          else match s.deliveryTest r with
            | some c => s.refuse c
            | none => (s.sendBack m r).accept .none
        | _ => s.refuse .badState
      else s.refuse .badState

/-- What an accepted MOVE_RETRY does to the record of a STOCK load (R183): a HELD record is MOVING again. -/
def State.holdAgain (s : State) (m : MoveRec) : State :=
  match m.load with
  | .stock id => s.modRec id (fun x =>
      if x.state = .held then
        { x with state := .moving, before := some (if m.quarantine then .quarantined else .available) }
      else x)
  | _ => s

/-- MOVE_RETRY (R183). The reply names the phase entered again, before any further phase that the same handling enters, or the
completion that it makes, when the hold set of a HOLD_WAIT move is complete: which of them R183 means is left open. DESIGN
CHOICE (notes/assumptions/30.md). -/
def execMoveRetry (move : Nat) : State → Host.Outcome State Fault Refusal :=
  request (.moveRetry move) fun s =>
    s.withMove move fun m =>
      match m.crane with
      | some c =>
        if m.state = .faulted ∧ (s.crane c).state = .idle then
          let s := s.modCrane c (fun r => { r with state := .busy })
          let s := (s.modMove m.id (fun m => { m with state := .dispatched })).holdAgain m
          (s.accept (.phase m.phase)).push [.enterPhase m.id (m.phase.getD .holdWait)]
        else s.refuse .badState
      | none => s.refuse .badState

/-! ## MOVE_RECOVER (R184) -/

/-- The delivery test of a slot with the move's own delivery to its destination counted as released (R184). -/
def State.recoverTest (s : State) (m : MoveRec) (r : SlotRef) : Option Code :=
  match m.dst with
  | .slot d =>
    let l := s.lock d
    (s.setLock d { l with deliveries := l.deliveries - 1 }).deliveryTest r
  | .zone _ => s.deliveryTest r

/-- The crane's hook becomes empty. -/
def State.emptyHook (s : State) (m : MoveRec) : State :=
  match m.crane with
  | some c => s.modCrane c (fun r => { r with hook := .empty })
  | none => s

/-- A record not yet picked stays at its source as QUARANTINED, and the pick lock is cleared (R184). -/
def State.recoverAtSource (s : State) (m : MoveRec) (x : StockRec) (r : SlotRef) : State :=
  let s := s.modRec x.id (fun y => { y with state := .quarantined, before := none, move := none })
  ((s.setPick r none).endFaulted m).accept .none

/-- MOVE_RECOVER of a record HELD on the hook (R184). -/
def State.recoverHeld (s : State) (m : MoveRec) (x : StockRec) (loc zone slot : Nat) : State :=
  if loc = 0 then
    match s.stockSlotRef zone slot with
    | none => s.refuse .range
    | some r =>
      match s.recoverTest m r with
      | some c => s.refuse c
      | none => (((s.layDown x.id r .quarantined).emptyHook m).endFaulted m).accept .none
  else if loc = 1 then
    if m.crane.any (fun c => (s.crane c).sensed = .no) then s.refuse .badState
    else ((s.modRec x.id (fun y => { y with state := .held, before := none, move := none })).endFaulted m).accept .none
  else s.refuse .range

/-- MOVE_RECOVER by the load of the move (R184). For a record not yet picked any location but its source slot is refused
with BAD_STATE, one that names no slot too, for which R1 says RANGE: DESIGN CHOICE (notes/assumptions/14.md). The zone and
slot bytes of HOOK and NONE are disregarded (notes/assumptions/3.md). -/
def State.recover (s : State) (m : MoveRec) (loc zone slot : Nat) : State :=
  match m.load with
  | .stock id =>
    match s.stockRec id with
    | none => s.refuse .badState
    | some x =>
      match x.loc with
      | .slot r _ =>
        if loc = 0 ∧ r.zone.val = zone ∧ r.slot.val = slot then s.recoverAtSource m x r else s.refuse .badState
      | .hook _ => s.recoverHeld m x loc zone slot
  | _ => if loc = 2 then ((s.emptyHook m).endFaulted m).accept .none else s.refuse .range

/-- MOVE_RECOVER (R184); the location is 0 a slot, 1 HOOK, 2 NONE, and any other value is out of range. -/
def execMoveRecover (move loc zone slot : Nat) : State → Host.Outcome State Fault Refusal :=
  request (.moveRecover move loc zone slot) fun s =>
    s.withMove move fun m =>
      if m.state ≠ .faulted then s.refuse .badState
      else if 2 < loc then s.refuse .range
      else s.recover m loc zone slot

/-- MOVE_CANCEL (R185). -/
def execMoveCancel (move : Nat) : State → Host.Outcome State Fault Refusal :=
  request (.moveCancel move) fun s =>
    s.withMove move fun m =>
      if m.origin ≠ .host then s.refuse .owned
      else if m.state ≠ .queued then s.refuse .badState
      else (s.cancelMove m).accept .none

/-! ## Reading (R186) -/

/-- The remaining time of a move's phase timer, in ms. -/
def State.phaseRemaining (s : State) (m : MoveRec) : Option Nat :=
  (m.crane.bind (fun c => (s.crane c).timer)).map (fun e => e - s.now)

/-- The MOVE_QUERY entry of a move. -/
def MoveRec.entry (m : MoveRec) : Nat × Origin × MoveState × Option Phase × Option CraneId :=
  (m.id, m.origin, m.state, m.phase, m.crane)

/-- MOVE_QUERY (R180, R186); 0 names ALL: the QUEUED moves in walk order, then the others by age. -/
def execMoveQuery (move : Nat) : State → Host.Outcome State Fault Refusal :=
  ask (.moveQuery move) fun s =>
    if move = 0 then
      s.accept (.moves ((walkOrder s.moves.queue ++ s.moves.queue.filter (fun m => m.state ≠ .queued)).map MoveRec.entry))
    else match s.move move with
      | none => s.refuse .notFound
      | some m => s.accept (.move m (s.phaseRemaining m))

/-- CRANE_STATUS (R180, R186). -/
def execCraneStatus (crane : Nat) : State → Host.Outcome State Fault Refusal :=
  ask (.craneStatus crane) fun s =>
    s.withCrane crane fun c =>
      let r := s.crane c
      s.accept (.craneView { crane := r, claim := s.claim c, remaining := r.timer.map (fun e => e - s.now) })

/-- CRANE_CONFIG (R180, R187). -/
def execCraneConfig (crane : Nat) (p : CraneParams) : State → Host.Outcome State Fault Refusal :=
  ask (.craneConfig crane p) fun s =>
    s.withCrane crane fun c =>
      if !craneParamsOk p then s.refuse .range
      else
        let cfg := (s.crane c).cfg.update p
        (s.modCrane c (fun r => { r with cfg := cfg })).accept (.craneCfg cfg)

/-! ## Cranes -/

/-- CRANE_RESUME (R180, R181): STATUS_QUERY goes to the crane, and the reply waits for the exchange. -/
def execCraneResume (crane : Nat) : State → Host.Outcome State Fault Refusal :=
  request (.craneResume crane) fun s =>
    s.notInSetup
      (s.withCrane crane fun c =>
        if (s.crane c).state ≠ .halted then s.refuse .badState
        else if s.hall.stop then s.refuse .stopAsserted
        else
          ((s.modCrane c (fun r => { r with awaited := true })).handTo (craneUnit c) .statusQuery .cranes).setHand
            (.waiting (.craneResume c)))

/-- PHASE_TIMER_EXPIRY (R171, R175): the running phase timer of a crane's move has come to its expiry. -/
def execPhaseTimerExpiry (c : CraneId) : State → Host.Outcome State Fault Refusal :=
  handled fun s =>
    match s.craneMove c with
    | some m => if (s.crane c).timer.any (fun e => decide (e ≤ s.now)) then s.faultMove m c .craneTimeout else s
    | none => s

/-- DISPATCH_ATTEMPT (R168): one attempt that is due is made; it walks the QUEUED moves. -/
def execDispatchAttempt : State → Host.Outcome State Fault Refusal :=
  handled fun s =>
    if 0 < s.moves.attempts then
      ({ s with moves := { s.moves with attempts := s.moves.attempts - 1 } } : State).push
        ((walkOrder s.moves.queue).map (fun m => Task.tryMove m.id))
    else s

end Sys2Proof.Machine
end

