-- ==== Sys2Proof/Machine/FieldCommands.lean ====
section
/-! DEFINITION. The meanings of the unit requests and pass-through frames (10.7 to 10.9), of the turns of the field line,
and of everything that arrives on it. -/

namespace Sys2Proof.Machine

/-! ## Unit requests -/

/-- A STATUS_QUERY of a restore goes to a unit: a crane's owner sets status awaited (R177). -/
def State.awaitRestore (s : State) (u : UnitId) : State :=
  match ownerOf u with
  | .table _ => s
  | .crane c => s.modCrane c (fun r => { r with awaited := true })

/-- UNIT_RESTORE (R177, R198): the reply waits for the exchange of its STATUS_QUERY. -/
def execUnitRestore (unit : Nat) : State → Host.Outcome State Fault Refusal :=
  request (.unitRestore unit) fun s =>
    s.withUnit unit fun u =>
      if (s.unit u).link = .online then s.refuse .badState
      else if (s.unit u).restoring then s.refuse .busy
      else
        (((s.modUnit u (fun r => { r with restoring := true, fails := 0 })).awaitRestore u).handTo u .statusQuery
          .restore).setHand (.waiting (.unitRestore u))

/-- Whether the owner of a unit is in use (R199, test 6). -/
def State.ownerBusy (s : State) (u : UnitId) : Bool :=
  match ownerOf u with
  | .table t =>
    decide ((s.tab t).state ≠ .idle) || (s.tab t).killAwaited
      || (s.tableZone t).any (fun z => decide ((s.guard z).state = .arc))
  | .crane c =>
    let r := s.crane c
    decide (r.state ≠ .idle) || r.move.isSome || decide (r.hook ≠ .empty) || r.awaited

/-- The entry into MAINTENANCE reaches the owner (R95, R177). -/
def State.ownerMaintained (s : State) (u : UnitId) : State :=
  match ownerOf u with
  | .table t => s.enter t .maintenance
  | .crane c => s.modCrane c (fun r => { r with state := .maintenance })

/-- UNIT_MAINTAIN (R199). -/
def execUnitMaintain (unit : Nat) : State → Host.Outcome State Fault Refusal :=
  request (.unitMaintain unit) fun s =>
    s.withUnit unit fun u =>
      let r := s.unit u
      if s.hall.mode = .setup then s.refuse .badState
      else if r.link ≠ .online then s.refuse .badState
      else if r.out.isSome ∨ r.waiting ≠ [] then s.refuse .busy
      else if s.ownerBusy u then s.refuse .busy
      else ((s.modUnit u (fun r => { r with link := .maintenance, fails := 0 })).ownerMaintained u).accept .none

/-- The UNIT_QUERY entry of a unit (R201): `none` is the entry of an ABSENT unit, which carries nothing more. -/
def UnitRec.view (r : UnitRec) : Option UnitView :=
  if r.link = .absent then none
  else some
    { link := r.link, fails := r.fails, out := r.out.map (fun o => (o.cmd.cmd.kind, o.attempt, o.inFlight)),
      waiting := r.waiting.length, restoring := r.restoring, strays := r.strays }

/-- UNIT_QUERY (R201); 255 names ALL. -/
def execUnitQuery (unit : Nat) : State → Host.Outcome State Fault Refusal :=
  ask (.unitQuery unit) fun s =>
    if unit = 255 then s.accept (.units (s.line.units.toList.map UnitRec.view))
    else match numbered 6 1 unit with
      | none => s.refuse .range
      | some u => s.accept (.units [(s.unit u).view])

/-! ## Pass-through -/

/-- PASS_THROUGH_FRAME (R200): sent at the unit's next command turn; the reply waits for its window. -/
def execPassThroughFrame (frame : HostFrame) : State → Host.Outcome State Fault Refusal :=
  ask (.passThroughFrame frame) fun s =>
    match numbered 6 1 frame.unit.toNat with
    | none => s.refuse .range
    | some u =>
      let r := s.unit u
      if r.link = .absent then s.refuse .unitAbsent
      else if r.link ≠ .maintenance ∨ r.restoring then s.refuse .notMaintained
      else
        ({ s with line := { s.line with
            pass := some { unit := u, kind := frame.kind, body := frame.body } } } : State).setHand
          (.waiting (.pass u))

/-- PASS_THROUGH_ANSWER (R191, R200): a frame from a unit in a pass-through window. One that is not intact is damaged,
whatever address it carries; an intact one is the answer when it comes from the window's unit, and else a stray. -/
def execPassThroughAnswer (unit : Nat) (kind : Byte) (body : List Byte) : State → Host.Outcome State Fault Refusal :=
  plain fun s =>
    match s.line.window with
    | none => s
    | some w =>
      if w.kind ≠ .pass then s
      else if !fieldIntact kind body then s.passLost
      else match numbered 6 1 unit with
        | none => s
        | some u => if w.unit = u then s.passAnswered kind body else s.strayFrame u

/-- PASS_THROUGH_TIMEOUT (R200): a damaged frame, or 50 ms without an answer, in a pass-through window. -/
def execPassThroughTimeout (damaged : Bool) : State → Host.Outcome State Fault Refusal :=
  plain fun s =>
    if s.line.window.any (fun w => decide (w.kind = .pass)) ∧ (damaged ∨ s.windowOver .pass) then s.passLost else s

/-! ## Turns and windows -/

/-- LINE_COMMAND_TURN (R193). -/
def execLineCommandTurn : State → Host.Outcome State Fault Refusal := plain State.commandTurn

/-- LINE_OFFER_TURN (R193). -/
def execLineOfferTurn : State → Host.Outcome State Fault Refusal := plain State.offerTurn

/-- FIELD_ANSWER_TIMEOUT (R194): 50 ms of a command's window without an answer. -/
def execFieldAnswerTimeout : State → Host.Outcome State Fault Refusal :=
  handled fun s =>
    match s.line.window with
    | some w => if s.windowOver .command then s.failCommand w.unit .noAnswer else s
    | none => s

/-- DAMAGED_FIELD_FRAME (R194 to R196). -/
def execDamagedFieldFrame : State → Host.Outcome State Fault Refusal := handled State.receiveDamaged

/-- OFFER_WINDOW_TIMEOUT (R196): 50 ms without an answer to an OFFER. -/
def execOfferWindowTimeout : State → Host.Outcome State Fault Refusal :=
  plain fun s => if s.windowOver .offer then s.closeWindow else s

/-! ## Frames from the units -/

/-- ACK (R191, R194). -/
def execAck (unit : Nat) (marker : Bool) (cmd : NamedCmd) : State → Host.Outcome State Fault Refusal :=
  handled fun s => s.receive unit marker (.ack cmd)

/-- NAK (R191, R194). -/
def execNak (unit : Nat) (marker : Bool) (cmd : NamedCmd) : State → Host.Outcome State Fault Refusal :=
  handled fun s => s.receive unit marker (.nak cmd)

/-- STATUS (R191, R194, R198). -/
def execStatus (unit : Nat) (marker : Bool) (content : StatusContent) : State → Host.Outcome State Fault Refusal :=
  handled fun s => s.receive unit marker (.status content)

/-- EMPTY (R196). -/
def execEmpty (unit : Nat) (marker : Bool) : State → Host.Outcome State Fault Refusal :=
  handled fun s => s.receive unit marker .empty

/-- CONTOUR_DONE (R81, R196). -/
def execContourDone (unit : Nat) (marker : Bool) (number arcTime : Nat) : State → Host.Outcome State Fault Refusal :=
  handled fun s => s.receive unit marker (.contourDone number arcTime)

/-- CONTOUR_FAULT (R81, R196). -/
def execContourFault (unit : Nat) (marker : Bool) (number code : Nat) : State → Host.Outcome State Fault Refusal :=
  handled fun s => s.receive unit marker (.contourFault number code)

/-- FRAME_ECHO (R122, R124, R196). -/
def execFrameEcho (unit : Nat) (marker : Bool) (token frame count : Nat) (chars : List Nat) :
    State → Host.Outcome State Fault Refusal :=
  handled fun s => s.receive unit marker (.frameEcho token frame count chars)

/-- FRAME_REJECT (R123, R124, R196). -/
def execFrameReject (unit : Nat) (marker : Bool) (token frame : Nat) : State → Host.Outcome State Fault Refusal :=
  handled fun s => s.receive unit marker (.frameReject token frame)

/-- ARRIVED (R161, R171, R196). -/
def execArrived (unit : Nat) (marker : Bool) (zone : Nat) : State → Host.Outcome State Fault Refusal :=
  handled fun s => s.receive unit marker (.arrived zone)

/-- PICKED (R172, R196). -/
def execPicked (unit : Nat) (marker : Bool) (kg : Nat) : State → Host.Outcome State Fault Refusal :=
  handled fun s => s.receive unit marker (.picked kg)

/-- PLACED (R173, R196). -/
def execPlaced (unit : Nat) (marker : Bool) : State → Host.Outcome State Fault Refusal :=
  handled fun s => s.receive unit marker .placed

/-- CRANE_FAULT (R175, R196). -/
def execCraneFault (unit : Nat) (marker : Bool) (code : Nat) : State → Host.Outcome State Fault Refusal :=
  handled fun s => s.receive unit marker (.craneFault code)

end Sys2Proof.Machine
end

