-- ==== Sys2Proof/Machine/ProgramRequests.lean ====
section
/-! DEFINITION. The meanings of the program requests (chapter 3 and 4.10), of the requests that resume and configure a
table (4.9, 4.13) and of the contour timer. -/

namespace Sys2Proof.Machine

/-- The tests that open every program request but the two that read (R53). -/
def State.withProgram (s : State) (t : Nat) (f : TableId → State) : State :=
  s.withTable t (fun t => s.notInSetup (f t))

def State.setStaged (s : State) (t : TableId) (g : Staged) : State := s.modTab t (fun r => { r with staged := g })

/-! ## Loading -/

/-- PROG_BEGIN (R54). -/
def execProgBegin (table n : Nat) : State → Host.Outcome State Fault Refusal :=
  ask (.progBegin table n) fun s =>
    s.withProgram table fun t =>
      if n < 1 ∨ Config.maxSteps < n then s.refuse .range
      else match (s.tab t).staged with
        | .ready _ => s.refuse .stagedOccupied
        | .loading _ => s.refuse .badState
        | .empty => (s.setStaged t (.loading (List.replicate n none))).accept .none

/-- Steps written from a first index on (R55). -/
def writeSteps (ps : List (Option NestStep)) (first : Nat) (steps : List NestStep) : List (Option NestStep) :=
  ps.take first ++ steps.map some ++ ps.drop (first + steps.length)

/-- The number of positions written. -/
def writtenCount (ps : List (Option NestStep)) : Nat := (ps.filter Option.isSome).length

/-- PROG_STEPS (R55). -/
def execProgSteps (table first count : Nat) (data : List Byte) : State → Host.Outcome State Fault Refusal :=
  ask (.progSteps table first count data) fun s =>
    s.withProgram table fun t =>
      match (s.tab t).staged with
      | .loading ps =>
        if 63 < first ∨ count < 1 ∨ 8 < count ∨ ps.length < first + count then s.refuse .range
        else match parseSteps count data with
          | none => s.refuse .range
          | some steps =>
            let ps' := writeSteps ps first steps
            (s.setStaged t (.loading ps')).accept (.written (writtenCount ps'))
      | _ => s.refuse .badState

/-! ## Commit (R56, R57) -/

def NestStep.isPlate : NestStep → Bool
  | .plate _ _ => true
  | _ => false

def NestStep.isRemnant : NestStep → Bool
  | .remnant _ => true
  | _ => false

/-- The steps that need a PLATE step before them (Table 3-3, test 5). -/
def NestStep.needsPlate : NestStep → Bool
  | .mark .. => true
  | .contour _ _ => true
  | .remnant _ => true
  | .move .bedStock .. => true
  | _ => false

/-- The steps that may not follow a REMNANT step (Table 3-3, test 7). -/
def NestStep.needsWhole : NestStep → Bool
  | .mark .. => true
  | .contour _ _ => true
  | _ => false

/-- Whether the destination of a MOVE step fits its load (R56). -/
def State.destFits (s : State) : NestStep → Bool
  | .move .bedStock _ zone slot _ _ =>
    (s.slotRef zone slot).any (fun r => s.kindOf r.zone = .stock || s.kindOf r.zone = .rack)
  | .move .batch _ zone slot _ _ => (s.slotRef zone slot).any (fun r => s.kindOf r.zone = .output)
  | _ => true

/-- The tests of Table 3-3 at one position, with the steps before it: the first that fails. -/
def State.commitTest (s : State) (last : Bool) (before : List NestStep) : Option NestStep → Option CommitReason
  | none => some .emptyStep
  | some x =>
    if !stepInRange x then some .parameter
    else if decide (x = .finish) ≠ last then some .endPlace
    else if x.isPlate && before.any NestStep.isPlate then some .plateCount
    else if x.needsPlate && !before.any NestStep.isPlate then some .plateOrder
    else if x.isRemnant && before.any NestStep.isRemnant then some .remnantCount
    else if x.needsWhole && before.any NestStep.isRemnant then some .remnantOrder
    else if !s.destFits x then some .destination
    else if last && !before.any NestStep.isPlate then some .plateMissing
    else none

/-- The walk over the positions (R56): the whole program, or the index and reason of the first failure. -/
def State.commitWalk (s : State) (before : List NestStep) :
    List (Option NestStep) → Except (Nat × CommitReason) (List NestStep)
  | [] => .ok before
  | p :: ps =>
    match s.commitTest ps.isEmpty before p, p with
    | some reason, _ => .error (before.length, reason)
    | none, some x => s.commitWalk (before ++ [x]) ps
    | none, none => .error (before.length, .emptyStep)

/-- What a successful commit does (Table 3-4). -/
def State.committed (s : State) (t : TableId) (steps : List NestStep) : State :=
  let r := s.tab t
  let s := s.setStaged t (.ready steps)
  if r.active.isSome then (s.modTab t (fun r => { r with swap := true })).accept (.commit .pending)
  else if r.state = .idle ∧ !r.killAwaited ∧ !s.hall.stop then (s.activate t).accept (.commit .started)
  else s.accept (.commit .heldReady)

/-- PROG_COMMIT (R56, R57). -/
def execProgCommit (table : Nat) : State → Host.Outcome State Fault Refusal :=
  request (.progCommit table) fun s =>
    s.withProgram table fun t =>
      match (s.tab t).staged with
      | .loading ps =>
        match s.commitWalk [] ps with
        | .ok steps => s.committed t steps
        | .error (i, reason) => s.setHand (.ready (.refuse .programInvalid (.program i reason)))
      | _ => s.refuse .badState

/-- The state of a STAGED slot, without what it holds (R61, R63). -/
def Staged.state : Staged → StagedState
  | .empty => .empty
  | .loading _ => .loading
  | .ready _ => .ready

/-- PROG_DISCARD (R61). -/
def execProgDiscard (table : Nat) : State → Host.Outcome State Fault Refusal :=
  ask (.progDiscard table) fun s =>
    s.withProgram table fun t =>
      match (s.tab t).staged with
      | .empty => s.accept (.staged .empty)
      | was => (s.modTab t (fun r => { r with staged := .empty, swap := false })).accept (.staged was.state)

/-- PROG_START (R59). -/
def execProgStart (table : Nat) : State → Host.Outcome State Fault Refusal :=
  request (.progStart table) fun s =>
    s.withProgram table fun t =>
      match (s.tab t).staged with
      | .ready _ =>
        if (s.tab t).state ≠ .idle then s.refuse .badState
        else if s.hall.stop then s.refuse .stopAsserted
        else if (s.tab t).killAwaited then s.refuse .busy
        else (s.activate t).accept .none
      | _ => s.refuse .badState

/-- PROG_ABORT (R89 to R91): the table is taken out of its wait, then the claim is settled and the program ended. -/
def execProgAbort (table : Nat) : State → Host.Outcome State Fault Refusal :=
  request (.progAbort table) fun s =>
    s.withProgram table fun t =>
      let r := s.tab t
      if r.active.isNone then s.refuse .badState
      else if r.state = .offline then s.refuse .badState
      else if r.killAwaited then s.refuse .busy
      else (s.accept (.tableWas r.state)).push [.takeOff t, .abortEnd t]

/-! ## Reading -/

/-- PROG_QUERY's body (Table 3-5). -/
def TableRec.progView (r : TableRec) : ProgView :=
  { state := r.state, cause := if r.state = .halted then r.cause else none, inUse := r.active.isSome,
    count := r.active.elim 0 (fun a => a.steps.length), index := r.active.map Active.index,
    loaded := r.active.bind Active.loaded, remnantRan := r.active.any Active.remnantRan, staged := r.staged.state,
    stagedCount := (match r.staged with
      | .empty => 0
      | .loading ps => ps.length
      | .ready steps => steps.length),
    written := (match r.staged with
      | .empty => 0
      | .loading ps => writtenCount ps
      | .ready steps => steps.length),
    swap := r.swap }

/-- PROG_QUERY (R53, R63). -/
def execProgQuery (table : Nat) : State → Host.Outcome State Fault Refusal :=
  ask (.progQuery table) fun s => s.withTable table fun t => s.accept (.program (s.tab t).progView)

/-- The positions of a program slot, 0 ACTIVE or 1 STAGED; `none` when it is EMPTY. -/
def TableRec.positions (r : TableRec) (slot : Nat) : Option (List (Option NestStep)) :=
  if slot = 0 then r.active.map (fun a => a.steps.map some)
  else match r.staged with
    | .empty => none
    | .loading ps => some ps
    | .ready steps => some (steps.map some)

/-- PROG_READ (R53, R64). A slot that is neither of the two, or a count outside 1..8, is out of range. -/
def execProgRead (table slot first count : Nat) : State → Host.Outcome State Fault Refusal :=
  ask (.progRead table slot first count) fun s =>
    s.withTable table fun t =>
      if 1 < slot then s.refuse .range
      else match (s.tab t).positions slot with
        | none => s.refuse .badState
        | some ps =>
          if count < 1 ∨ 8 < count ∨ ps.length < first + count then s.refuse .range
          else s.accept (.steps (((ps.drop first).take count).map stepImage))

/-! ## Resuming and configuring a table -/

/-- Whether the halted step is a PLATE step. -/
def TableRec.atPlate (r : TableRec) : Bool := r.step.any NestStep.isPlate

/-- What an accepted TABLE_RESUME does (R87, R88): RETRY starts the halted step again; SKIP ends it, a MOVE step's claim
cleared. The reply follows when the resume has been carried out. -/
def State.resume (s : State) (t : TableId) (skip : Bool) : State :=
  let s := s.modTab t (fun r => { r with cause := none })
  if skip then
    let s := match (s.tab t).step with
      | some (.move ..) => s.setClaim t .none
      | _ => s
    s.push [.stepEnd t, .replyResumed t]
  else s.push [.stepStart t, .replyResumed t]

/-- TABLE_RESUME (R87). -/
def execTableResume (table mode : Nat) : State → Host.Outcome State Fault Refusal :=
  request (.tableResume table mode) fun s =>
    match numbered 4 1 table with
    | none => s.refuse .range
    | some t =>
      let r := s.tab t
      if 1 < mode then s.refuse .range
      else if r.state = .absent then s.refuse .unitAbsent
      else if s.hall.mode = .setup then s.refuse .badState
      else if r.state ≠ .halted then s.refuse .badState
      else if s.hall.stop then s.refuse .stopAsserted
      else if r.killAwaited then s.refuse .busy
      else if mode = 1 ∧ r.atPlate then s.refuse .badState
      else s.resume t (decide (mode = 1))

/-- TABLE_CONFIG (R96): every present parameter at once; a wear limit is followed by an evaluation (R106). -/
def execTableConfig (table : Nat) (p : TableParams) : State → Host.Outcome State Fault Refusal :=
  request (.tableConfig table p) fun s =>
    s.withTable table fun t =>
      if !tableParamsOk p then s.refuse .range
      else
        let cfg := (s.tab t).cfg.update p
        let s := (s.modTab t (fun r => { r with cfg := cfg })).accept (.tableCfg cfg)
        if p.wearLimit.isSome then s.evalWear t .limit else s

/-! ## Wear -/

/-- WEAR_RESET (R107). -/
def execWearReset (table : Nat) : State → Host.Outcome State Fault Refusal :=
  request (.wearReset table) fun s =>
    s.withTable table fun t =>
      let r := s.tab t
      if r.contour.any Contour.arcHeld then s.refuse .busy
      else
        ((s.accept (.wear r.wearView)).modTab t (fun r => { r with wear := { r.wear with count := 0, rem := 0 } })).evalWear
          t .limit

/-- WEAR_QUERY (R108). -/
def execWearQuery (table : Nat) : State → Host.Outcome State Fault Refusal :=
  ask (.wearQuery table) fun s => s.withTable table fun t => s.accept (.wear (s.tab t).wearView)

/-! ## The contour timer -/

/-- CONTOUR_TIMER_EXPIRY (R81): the running timer of a table in CUTTING has come to its expiry. -/
def execContourTimerExpiry (t : TableId) : State → Host.Outcome State Fault Refusal :=
  handled fun s =>
    if (s.cutting t).isSome ∧ (s.tab t).timer.any (fun e => decide (e ≤ s.now)) then s.faultContour t .contourTimeout
    else s

end Sys2Proof.Machine
end

