-- ==== Sys2Proof/Machine/StockRequests.lean ====
section
/-! DEFINITION. The meanings of the hall map and stock requests (1.2, 1.8) and of the allocation and account requests
(2.6, 2.10). -/

namespace Sys2Proof.Machine

/-! ## The map -/

/-- The zones of kind TABLE n. -/
def State.zonesOf (s : State) (t : TableId) : List Zone := allZones.filter (fun z => s.kindOf z = .table t)

/-- Whether the straps fit a table (R203). -/
def State.fitted (s : State) (t : TableId) : Bool := decide (t.val ≤ s.hall.straps.tsel.val)

/-- The map test (R4). Where several tables fail a test, the table of the lowest number is named: DESIGN CHOICE
(notes/assumptions/28.md). -/
def State.mapTest (s : State) : MapResult :=
  let ts : List TableId := [0, 1, 2, 3]
  match ts.find? (fun t => s.fitted t && (s.zonesOf t).length ≠ 1) with
  | some t => .notOneZone t
  | none =>
    match ts.find? (fun t => !s.fitted t && !(s.zonesOf t).isEmpty) with
    | some t => .notFitted t
    | none => if allZones.any (fun z => s.kindOf z = .stock || s.kindOf z = .rack) then .valid else .noStore

/-- Whether any stock record lies in a zone. -/
def State.zoneHolds (s : State) (z : Zone) : Bool :=
  s.stock.recs.any (fun x => match x.loc with
    | .slot r _ => decide (r.zone = z)
    | .hook _ => false)

/-- The entries of HALL_MAP as zone kinds; `none` where one is unknown (R2, test 2). -/
def mapKinds : List (Nat × Nat) → Option (List ZoneKind)
  | [] => some []
  | e :: es =>
    match zoneKindOf e, mapKinds es with
    | some k, some ks => some (k :: ks)
    | _, _ => none

/-- HALL_MAP (R2). -/
def execHallMap (entries : List (Nat × Nat)) : State → Host.Outcome State Fault Refusal :=
  request (.hallMap entries) fun s =>
    if s.hall.mode ≠ .setup then s.refuse .badState
    else match mapKinds entries with
      | none => s.refuse .range
      | some ks =>
        if h : ks.length = 16 then
          let map : Vector ZoneKind 16 := ⟨ks.toArray, by simpa using h⟩
          if allZones.any (fun z => map.get z ≠ s.kindOf z && s.zoneHolds z) then s.refuse .badState
          else ({ s with stock := { s.stock with map := map } } : State).accept .none
        else s.refuse .range

/-- MAP_QUERY (R3). -/
def execMapQuery : State → Host.Outcome State Fault Refusal :=
  ask .mapQuery fun s => s.accept (.map s.stock.map s.mapTest)

/-! ## Stock records -/

/-- The depth that STOCK_REGISTER reports: for a stack alone (R16). -/
def State.stackDepth (s : State) (r : SlotRef) : Option Nat :=
  if s.kindOf r.zone = .stock then some (s.slotRecs r).length else none

/-- The fourth test of STOCK_REGISTER (R16): the delivery test, and for a stack a delivery count of 0, tested after the
pick lock. -/
def State.registerTest (s : State) (r : SlotRef) : Option Code :=
  if s.kindOf r.zone = .stock ∧ (s.lock r).deliveries ≠ 0 then some .slotLocked else s.deliveryTest r

/-- The record that STOCK_REGISTER creates (R16). -/
def State.newRecord (s : State) (b : StockBody) (r : SlotRef) : StockRec :=
  { id := b.id, kind := if b.kind = 0 then .plate else .remnant, grade := b.grade, thick := b.thick, len := b.len,
    wid := b.wid, heat := if b.presence % 2 = 1 then some b.heat else none, parent := none, gen := b.gen,
    age := s.stock.seq, loc := .slot r (s.slotRecs r).length, state := .available, table := none, before := none,
    move := none }

/-- The slot of STOCK_REGISTER: in a STOCK or RACK zone. -/
def State.registerSlot (s : State) (b : StockBody) : Option SlotRef :=
  match s.slotRef b.zone b.slot with
  | some r => if s.kindOf r.zone = .stock ∨ s.kindOf r.zone = .rack then some r else none
  | none => none

/-- STOCK_REGISTER (R16). -/
def execStockRegister (b : StockBody) : State → Host.Outcome State Fault Refusal :=
  request (.stockRegister b) fun s =>
    if !stockBodyOk b then s.refuse .range
    else match s.registerSlot b with
      | none => s.refuse .range
      | some r =>
        if s.idUsed b.id then s.refuse .duplicate
        else if Config.maxStock ≤ s.stock.recs.length then s.refuse .full
        else match s.registerTest r with
          | some c => s.refuse c
          | none =>
            let x := s.newRecord b r
            let body : Accept := .registered x.id x.age (s.stackDepth r)
            (((s.countAge).setRecs (s.stock.recs ++ [x])).stockChanged).accept body

/-- STOCK_REMOVE of a record in a slot (R17): a pop, and the record freed. -/
def State.removeFromSlot (s : State) (x : StockRec) : State :=
  match x.loc with
  | .hook _ => s.refuse .notAccessible
  | .slot r _ =>
    if !s.accessible x then s.refuse .notAccessible
    else if (s.lock r).pick.isSome then s.refuse .slotLocked
    else ((s.dropRec x.id).slotLeft r).accept .none

/-- The hook of the crane that holds a record becomes empty. -/
def State.clearHook (s : State) (x : StockRec) : State :=
  match x.loc with
  | .hook c => s.modCrane c (fun r => { r with hook := .empty })
  | .slot _ _ => s

/-- STOCK_REMOVE of a HELD record (R17): freed from its hook; a faulted move of it ends as MOVE_RECOVER ends it. -/
def State.removeHeld (s : State) (x : StockRec) : State :=
  match x.move with
  | none => (((s.dropRec x.id).clearHook x).wantAttempt).accept .none
  | some mv =>
    match s.move mv with
    | some m =>
      if m.state = .faulted then (((s.dropRec x.id).clearHook x).endFaulted m).accept .none else s.refuse .badState
    | none => s.refuse .badState

/-- STOCK_REMOVE (R15, R17). -/
def execStockRemove (id : Nat) : State → Host.Outcome State Fault Refusal :=
  request (.stockRemove id) fun s =>
    match s.stockRec id with
    | none => s.refuse .notFound
    | some x =>
      match x.state with
      | .available => s.removeFromSlot x
      | .quarantined => s.removeFromSlot x
      | .held => s.removeHeld x
      | .reserved => s.refuse .badState
      | .moving => s.refuse .badState
      | .onBed => s.refuse .badState

/-- STOCK_QUARANTINE (R15, R18). -/
def execStockQuarantine (id : Nat) : State → Host.Outcome State Fault Refusal :=
  ask (.stockQuarantine id) fun s =>
    match s.stockRec id with
    | none => s.refuse .notFound
    | some x =>
      if x.state = .available then (s.modRec id (fun y => { y with state := .quarantined })).accept .none
      else s.refuse .badState

/-- Whether a record lies on a bed. -/
def State.onBed (s : State) (x : StockRec) : Bool :=
  match x.loc with
  | .slot r _ => (s.bedTable r).isSome
  | .hook _ => false

/-- STOCK_RELEASE (R15, R19). -/
def execStockRelease (id : Nat) : State → Host.Outcome State Fault Refusal :=
  request (.stockRelease id) fun s =>
    match s.stockRec id with
    | none => s.refuse .notFound
    | some x =>
      if x.state ≠ .quarantined then s.refuse .badState
      else if s.onBed x then (s.modRec id (fun y => { y with state := .onBed })).accept .none
      else (s.makeAvailable id).accept .none

/-- STOCK_QUERY (R15, R20). -/
def execStockQuery (id : Nat) : State → Host.Outcome State Fault Refusal :=
  ask (.stockQuery id) fun s =>
    match s.stockRec id with
    | none => s.refuse .notFound
    | some x => s.accept (.stock (s.stockImage x))

/-- The records of a slot from depth 0 to the top (R10, R22). -/
def State.slotOrder (s : State) (r : SlotRef) : List StockRec :=
  let l := s.slotRecs r
  (List.range l.length).flatMap (fun d => l.filter (fun x => x.depth = d))

/-- Every record in location order: zones, slots and depths rising, then the hooks (R21). -/
def State.locationOrder (s : State) : List StockRec :=
  (allZones.flatMap (fun z => (List.finRange 16).flatMap (fun n => s.slotOrder { zone := z, slot := n })))
    ++ s.stock.recs.filter (fun x => x.loc = .hook 0) ++ s.stock.recs.filter (fun x => x.loc = .hook 1)

/-- The filter of STOCK_LIST (R21); `none` is one out of range. The argument of ALL is disregarded, a DESIGN CHOICE
(notes/assumptions/3.md). -/
def listFilter (filter arg : Nat) : Option (StockRec → Bool) :=
  match filter with
  | 0 => some (fun _ => true)
  | 1 => (stockStateOf arg).map (fun st x => decide (x.state = st))
  | 2 => (numbered 16 0 arg).map (fun z x => match x.loc with
      | .slot r _ => decide (r.zone = z)
      | .hook _ => false)
  | _ => none

/-- STOCK_LIST (R21). -/
def execStockList (filter arg start : Nat) : State → Host.Outcome State Fault Refusal :=
  ask (.stockList filter arg start) fun s =>
    match listFilter filter arg with
    | none => s.refuse .range
    | some p =>
      if 191 < start then s.refuse .range
      else
        let found := (s.locationOrder.filter p).drop start
        let ids := (found.take 16).map StockRec.id
        s.accept (.list ids (if 16 < found.length then some (start + ids.length) else none))

/-- SLOT_QUERY (R22). -/
def execSlotQuery (zone slot : Nat) : State → Host.Outcome State Fault Refusal :=
  ask (.slotQuery zone slot) fun s =>
    match s.stockSlotRef zone slot with
    | none => s.refuse .range
    | some r => s.accept (.slot ((s.slotOrder r).map StockRec.id) (s.lock r))

/-! ## Allocation and account -/

/-- ALLOC_QUERY (R35). -/
def execAllocQuery : State → Host.Outcome State Fault Refusal := ask .allocQuery fun s => s.accept (.waits s.alloc.waits)

/-- ALLOC_PROBE (R36). -/
def execAllocProbe (req : ReqFields) : State → Host.Outcome State Fault Refusal :=
  ask (.allocProbe req) fun s =>
    if !reqOk req then s.refuse .range
    else
      let q := toReq req
      s.accept (.probe ((s.winner q).map (fun x => (x.id, waste q x))) (s.candidates q .remnant).length
        (s.candidates q .plate).length)

/-- ACCOUNT_READ (R47). -/
def execAccountRead : State → Host.Outcome State Fault Refusal :=
  ask .accountRead fun s => s.accept (.account s.alloc.account)

/-- ACCOUNT_CLEAR (R48). -/
def execAccountClear : State → Host.Outcome State Fault Refusal :=
  ask .accountClear fun s =>
    ({ s with alloc := { s.alloc with account := .initial } } : State).accept (.account s.alloc.account)

/-- WAIT_LIST_WALK (R32): the Allocator takes one stock-change event and walks the stock wait list. -/
def execWaitListWalk : State → Host.Outcome State Fault Refusal :=
  handled fun s =>
    if 0 < s.stock.events then
      ({ s with stock := { s.stock with events := s.stock.events - 1 } } : State).walk
    else s

end Sys2Proof.Machine
end

