-- ==== Sys2Proof/Machine/HallCommands.lean ====
section
/-! DEFINITION. The meanings of the hall's own commands (chapter 11): resets, clock, hall stop, modes, the first-fault
record and the beacons. -/

namespace Sys2Proof.Machine

/-! ## Resets, clock and stop -/

/-- POWER_ON_RESET (R203, R204): the strap pins are sampled, every block takes its power-on values, and the commands that
wait to be taken still wait. -/
def execPowerOnReset (tsel1 tsel0 csel rsel stopAsserted : Bool) (s : State) : Host.Outcome State Fault Refusal :=
  let tsel : Fin 4 := match tsel1, tsel0 with
    | false, false => 0
    | false, true => 1
    | true, false => 2
    | true, true => 3
  .next (State.powerOn { tsel := tsel, csel := csel, rsel := rsel } stopAsserted s.pending)

/-- RESET_PIN_ASSERTED (R204): while the pin is held nothing is sent, received or taken, and every beacon is dark. -/
def execResetPinAsserted (s : State) : Host.Outcome State Fault Refusal :=
  let dark (b : Beacon) : Beacon := { b with running := false, lit := false, toggle := none }
  .next { s with
    hall := { s.hall with inReset := true, beacons := s.hall.beacons.map dark },
    line := { s.line with window := none, sent := none },
    host := { s.host with sending := none } }

/-- HALL_CLOCK_TICK (R205): the clock counts one second at the end of each 1000 ms of the timebase. -/
def execHallClockTick : State → Host.Outcome State Fault Refusal :=
  plain fun s =>
    if s.hall.nextSecond ≤ s.now then
      { s with hall := { s.hall with clock := s.hall.clock + 1, nextSecond := s.hall.nextSecond + 1000 } }
    else s

/-- The HALL_MODE report of the hall as it stands (Table 11-5). -/
def State.modeReport (s : State) (cause : ModeCause) : Report := .hallMode s.hall.mode s.hall.stop cause s.hall.clock

/-- The pieces of work by which the stop reaches the four blocks (R206), in the order the rule names them. -/
def stopTasks : List Task :=
  [.tableStop 0, .tableStop 1, .tableStop 2, .tableStop 3, .craneStop, .composerStop, .guardStop]

/-- HALL_STOP_ASSERTED (R206): the asserted level has held for 10 ms, and the stop state was released. -/
def execHallStopAsserted (heldMs : Nat) : State → Host.Outcome State Fault Refusal :=
  handled fun s =>
    if heldMs < Config.stopFilterMs ∨ s.hall.stop then s
    else if s.hall.mode = .setup then { s with hall := { s.hall with stop := true } }
    else
      let s : State := { s with hall := { s.hall with stop := true, mode := .stopped } }
      let s := s.capture .hall .hall .hallStop none
      (s.raise (s.modeReport .stopAsserted)).push stopTasks

/-- HALL_STOP_RELEASED (R207): the released level has held for 10 ms, and the stop state was asserted. -/
def execHallStopReleased (heldMs : Nat) : State → Host.Outcome State Fault Refusal :=
  handled fun s =>
    if heldMs < Config.stopFilterMs ∨ !s.hall.stop then s
    else
      let s : State := { s with hall := { s.hall with stop := false } }
      (if s.hall.mode = .setup then s else s.raise (s.modeReport .stopReleased)).push [.serveHead]

/-! ## Modes -/

/-- STATUS_QUERY goes to a fitted crane whose unit is ONLINE, and status awaited is set (R188, R208). -/
def State.queryCrane (s : State) (c : CraneId) : State :=
  if (s.unit (craneUnit c)).link = .online ∧ (s.crane c).state ≠ .absent then
    (s.modCrane c (fun r => { r with awaited := true })).handTo (craneUnit c) .statusQuery .cranes
  else s

/-- HALL_RUN (R208). -/
def execHallRun : State → Host.Outcome State Fault Refusal :=
  request .hallRun fun s =>
    if s.hall.mode ≠ .setup then s.refuse .badState
    else if s.hall.stop then s.refuse .stopAsserted
    else if s.mapTest ≠ .valid then s.setHand (.ready (.refuse .mapInvalid (.map s.mapTest)))
    else
      let s : State := { s with hall := { s.hall with mode := .run } }
      (((s.raise (s.modeReport .hallRun)).accept (.mapTest .valid)).queryCrane 0).queryCrane 1

/-- HALL_CONTINUE (R209). -/
def execHallContinue : State → Host.Outcome State Fault Refusal :=
  request .hallContinue fun s =>
    if s.hall.mode ≠ .stopped then s.refuse .badState
    else if s.hall.stop then s.refuse .stopAsserted
    else
      let s : State := { s with hall := { s.hall with mode := .run } }
      (s.raise (s.modeReport .hallContinue)).accept .none

/-! ## HALL_RESET (R210), block by block -/

/-- The Field Line Unit discards every waiting command except ARC_KILL, STOP and STATUS_QUERY (R202). -/
def State.resetLine (s : State) : State :=
  let keeps (h : Handed) : Bool :=
    h.cmd.kind = .arcKill || h.cmd.kind = .stop || h.cmd.kind = .statusQuery
  { s with line := { s.line with units := s.line.units.map (fun r => { r with waiting := r.waiting.filter keeps }) } }

/-- A table (R66, R98). -/
def State.resetTable (s : State) (t : TableId) : State :=
  let r := s.tab t
  if r.state = .absent then s
  else
    let s := if r.contour.any Contour.arcHeld ∧ (s.unit (tableUnit t)).link = .online then s.sendKill t else s
    let s := s.modTab t (fun r => { r.emptied with staged := .empty, killAwaited := false })
    if r.state = .offline ∨ r.state = .maintenance then s else s.enter t .idle

/-- A stock record (R24): RESERVED becomes AVAILABLE; MOVING takes its state before move, RESERVED as AVAILABLE. -/
def StockRec.afterReset (x : StockRec) : StockRec :=
  match x.state with
  | .reserved => { x with state := .available, table := none }
  | .moving =>
    { x with
      state := if x.before = some .reserved then .available else x.before.getD .available
      before := none
      move := none }
  | _ => x

/-- The Stock Table and the Allocator (R24, R49): the conversions raise no stock-change event. -/
def State.resetStock (s : State) : State :=
  { s with
    stock := { s.stock with
      recs := s.stock.recs.map StockRec.afterReset,
      locks := Vector.replicate 16 (Vector.replicate 16 { pick := none, deliveries := 0 }), events := 0,
      changed := false }
    alloc := { s.alloc with waits := [] } }

/-- The Mark Composer (R132), the Sync Flags (R144) and the Zone Guard (R159). -/
def State.resetJobs (s : State) : State :=
  { s with
    composer := { s.composer with state := .idle, queue := [], ctx := none }
    flags := Vector.replicate 16 .initial
    guards := Vector.replicate 16 .initial }

/-- A crane (R189): STOP where it is ONLINE and its move is DISPATCHED; then IDLE without a move, its position kept. -/
def State.resetCrane (s : State) (c : CraneId) : State :=
  let r := s.crane c
  let s := if (s.unit (craneUnit c)).link = .online ∧ (s.craneMove c).any (fun m => m.state = .dispatched) then
      s.handTo (craneUnit c) .stop .cranes
    else s
  s.modCrane c (fun k => { k with
    move := none, timer := none, hand := none, awaited := false, cause := none,
    state := if r.state = .busy ∨ r.state = .halted then .idle else r.state })

/-- HALL_RESET reaches every block (R210); the field line discards first, so that what the blocks then hand is queued
anew (R202). -/
def State.resetBlocks (s : State) : State :=
  let s := (((s.resetLine.resetTable 0).resetTable 1).resetTable 2).resetTable 3
  let s := ((s.resetCrane 0).resetCrane 1).setQueue []
  (s.resetStock.resetJobs).setSpaceWaits []

/-- HALL_RESET (R210). -/
def execHallReset : State → Host.Outcome State Fault Refusal :=
  request .hallReset fun s =>
    if s.hall.mode = .setup then s.refuse .badState
    else if (s.crane 0).hook ≠ .empty ∨ (s.crane 1).hook ≠ .empty then s.refuse .loadOnHook
    else
      let s : State := { s with hall := { s.hall with mode := .setup } }
      ((s.raise (s.modeReport .hallReset)).resetBlocks).accept .none

/-! ## The first-fault record -/

/-- FAULT_READ (R212); 0 is YES and 1 is NO. -/
def execFaultRead (clear : Nat) : State → Host.Outcome State Fault Refusal :=
  request (.faultRead clear) fun s =>
    if 1 < clear then s.refuse .range
    else
      let read := s.accept (.fault s.hall.fault)
      if clear = 0 then { read with hall := { read.hall with fault := { held := none, later := 0 } } } else read

/-! ## Beacons -/

/-- Whether a source names an ABSENT table or crane (R213, test 2). -/
def State.sourceAbsent (s : State) : BeaconSource → Bool
  | .tableArc t => (s.tab t).state = .absent
  | .tableHalted t => (s.tab t).state = .absent
  | .tableWear t => (s.tab t).state = .absent
  | .craneBusy c => (s.crane c).state = .absent
  | _ => false

/-- BEACON_SET (R213): the pattern starts anew at a source that holds. -/
def execBeaconSet (output source arg pattern : Nat) : State → Host.Outcome State Fault Refusal :=
  request (.beaconSet output source arg pattern) fun s =>
    match numbered 8 0 output, beaconSourceOf source arg, patternOf pattern with
    | some n, some src, some p =>
      if s.sourceAbsent src then s.refuse .unitAbsent
      else
        (s.setBeacon n { source := src, pattern := p, running := false, lit := false, toggle := none }).accept
          (.beaconWas (s.beacon n).source (s.beacon n).pattern)
    | _, _, _ => s.refuse .range

/-- BEACON_QUERY (R214). -/
def execBeaconQuery : State → Host.Outcome State Fault Refusal :=
  ask .beaconQuery fun s =>
    s.accept (.beacons (s.hall.beacons.toList.map (fun b => (b.source, b.pattern, s.sourceHolds b.source))))

/-- BEACON_PATTERN_TOGGLE (R213): the present half period of a running pattern has come to its end. -/
def execBeaconPatternToggle (n : OutputId) : State → Host.Outcome State Fault Refusal :=
  plain fun s =>
    let b := s.beacon n
    match b.toggle, b.pattern.half with
    | some e, some h => if b.running ∧ e ≤ s.now then s.setBeacon n { b with lit := !b.lit, toggle := some (e + h) } else s
    | _, _ => s

end Sys2Proof.Machine
end

