-- ==== Sys2Proof/Machine/Framing.lean ====
section
/-! DEFINITION. The receiver and the transmitter of the host line (R215, R217). -/

namespace Sys2Proof.Machine

/-- The start byte of a frame (Table 12-7). -/
def startByte : Byte := 0x7E

/-- An intact frame's fields, from the characters after its length byte: unit, kind, tag, body; the CRC follows. -/
def frameOf : Nat → List Byte → Option HostFrame
  | n, u :: k :: t :: rest => some { unit := u, kind := k, tag := t, body := rest.take (n - 3) }
  | _, _ => none

/-- Whether the CRC at the end of a frame's characters agrees; they stand after the start byte, from the length byte on
(Table 12-3). -/
def crcAgrees (n : Nat) (chars : List Byte) : Bool :=
  match chars.drop (n + 1) with
  | hi :: lo :: _ => decide (crc16 (chars.take (n + 1)) = hi ++ lo)
  | _ => false

/-- The characters of a host frame (Table 12-7), its CRC high byte first. -/
def hostChars (f : HostFrame) : List Byte :=
  let covered := [byteOf (f.body.length + 3), f.unit, f.kind, f.tag] ++ f.body
  let crc := crc16 covered
  [startByte] ++ covered ++ [byteOf (crc.toNat / 256), byteOf crc.toNat]

/-- An intact frame enters the receive buffer, or is discarded with RX_OVERRUN set when the buffer holds four (R215). -/
def HostLine.takeFrame (h : HostLine) (f : HostFrame) : HostLine :=
  if h.buffer.length < Config.maxFrames then { h with buffer := h.buffer ++ [f] } else { h with rxOverrun := true }

/-- The receiver works through characters (R215). In HUNTING it drops them up to a start byte. A frame with an impossible
length is discarded with its length byte; a frame with a bad CRC gives back all but its start byte; a frame that is not
yet whole stays in COLLECTING. Each round drops at least one character, so `n` rounds do for `n` characters. -/
def HostLine.scan : Nat → HostLine → List Byte → HostLine
  | 0, h, cs => { h with collected := cs }
  | _ + 1, h, [] => { h with collected := [] }
  | n + 1, h, c :: cs =>
    if c ≠ startByte then h.scan n cs
    else match cs with
      | [] => { h with collected := [c] }
      | len :: rest =>
        let len' := len.toNat
        if len' < 3 ∨ 250 < len' then h.scan n rest
        else if rest.length < len' + 2 then { h with collected := c :: cs }
        else if crcAgrees len' cs then
          (match frameOf len' rest with
            | some f => h.takeFrame f
            | none => h).scan n (rest.drop (len' + 2))
        else h.scan n cs

/-- Characters with good stop bits arrive on RXH (R215). -/
def HostLine.feed (h : HostLine) (cs : List Byte) : HostLine :=
  h.scan ((h.collected ++ cs).length + 1) (h.collected ++ cs)

/-- The frame being collected is abandoned, and the receiver hunts (R215). -/
def HostLine.hunt (h : HostLine) : HostLine := { h with collected := [] }

/-- The number of a refusal code, from 1 in the order of Table 12-4. -/
def Code.number : Code → Nat
  | .unknownKind => 1
  | .badLength => 2
  | .badState => 3
  | .busy => 4
  | .notFound => 5
  | .duplicate => 6
  | .full => 7
  | .range => 8
  | .unitAbsent => 9
  | .notMaintained => 10
  | .slotLocked => 11
  | .notAccessible => 12
  | .mapInvalid => 13
  | .loadOnHook => 14
  | .owned => 15
  | .stopAsserted => 16
  | .stagedOccupied => 17
  | .programInvalid => 18
  | .unitLost => 19
  | .aborted => 20

/-- The number of a commit reason, from 1 in the order of Table 3-3. -/
def CommitReason.number : CommitReason → Nat
  | .emptyStep => 1
  | .parameter => 2
  | .endPlace => 3
  | .plateCount => 4
  | .plateOrder => 5
  | .remnantCount => 6
  | .remnantOrder => 7
  | .destination => 8
  | .plateMissing => 9

/-- The extra fields of a refusal (Table 12-4): the failing map test with its table, or 0xFF where it concerns none; the
step index and the reason. -/
def Extra.bytes : Extra → List Byte
  | .none => []
  | .map .valid => []
  | .map (.notOneZone t) => [1, byteOf (t.val + 1)]
  | .map (.notFitted t) => [2, byteOf (t.val + 1)]
  | .map .noStore => [3, 0xFF]
  | .program i r => [byteOf i, byteOf r.number]

/-- The number of a report kind, from 1 in the order of Table 12-6. -/
def Report.number : Report → Nat
  | .tableState .. => 1
  | .nestConsumed _ => 2
  | .stockWanted .. => 3
  | .moveDone .. => 4
  | .moveFault .. => 5
  | .weightMismatch .. => 6
  | .markResult _ => 7
  | .wearWarn _ => 8
  | .wearDue _ => 9
  | .flagOverrun .. => 10
  | .unitOffline .. => 11
  | .unitBack .. => 12
  | .hallMode .. => 13
  | .faultCaptured .. => 14
  | .test _ => 15

/-- The transmitter takes the ready reply, whose request leaves the receive buffer (R216), or else the report at the head
of the queue (R217). -/
def HostLine.sendNext (h : HostLine) : HostLine :=
  match h.hand with
  | .ready r =>
    match h.buffer with
    | f :: rest => { h with sending := some (.reply f r), buffer := rest, hand := .untaken }
    | [] => { h with hand := .untaken }
  | _ =>
    match h.reports with
    | r :: rest => { h with sending := some (.report r), reports := rest }
    | [] => { h with sending := none }

end Sys2Proof.Machine
end

