-- ==== Sys2Proof/Machine/Frames.lean ====
section
/-! DEFINITION. The frames that the CH-42 sends on TXH (R217): the bodies of replies and reports, field by field in the
order of their rules and tables, and the whole frame. Numbers wider than a byte go most significant byte first (R217);
enumerated values count from 0 in the order their chapter names them, which is the order of the constructors, and 0xFF
stands for an absent field (12.6). The widths of the numbers, and what 12.6 leaves open beside, are a DESIGN CHOICE
(notes/assumptions/19.md). -/

namespace Sys2Proof.Machine

/-! ## Fields -/

/-- A number in eight bytes, most significant first. -/
def bytes8 (n : Nat) : List Byte := bytes4 (n / 4294967296) ++ bytes4 n

/-- A mark, clear 0 or set 1. -/
def markByte (b : Bool) : Byte := if b then 1 else 0

/-- A choice of YES 0 and NO 1. -/
def yesByte (b : Bool) : Byte := if b then 0 else 1

/-- A value of one byte, or 0xFF. -/
def optByte (o : Option Nat) : Byte := byteOf (o.getD 255)

/-- A value of two bytes, or 0xFF in each. -/
def opt2 (o : Option Nat) : List Byte := o.elim [0xFF, 0xFF] bytes2

/-- A value of four bytes, or 0xFF in each. -/
def opt4 (o : Option Nat) : List Byte := o.elim [0xFF, 0xFF, 0xFF, 0xFF] bytes4

/-- A stock id in two bytes, 0 when absent, as Table 12-8 writes the parent. -/
def idBytes (o : Option Nat) : List Byte := bytes2 (o.getD 0)

/-- A move id, 0 when absent, as Table 12-8 writes it. -/
def moveByte (o : Option Nat) : Byte := byteOf (o.getD 0)

def tableByte (t : TableId) : Byte := byteOf (t.val + 1)

def craneByte (c : CraneId) : Byte := byteOf (c.val + 1)

def optTable (o : Option TableId) : Byte := o.elim 0xFF tableByte

def optCrane (o : Option CraneId) : Byte := o.elim 0xFF craneByte

def optZone (o : Option Zone) : Byte := o.elim 0xFF (fun z => byteOf z.val)

def optPhase (o : Option Phase) : Byte := o.elim 0xFF (fun p => byteOf p.ctorIdx)

def clockBytes (c : BitVec 32) : List Byte := bytes4 c.toNat

/-- The four digits of a serial, or 0xFF in each place. -/
def serialBytes (o : Option (List Nat)) : List Byte := o.elim [0xFF, 0xFF, 0xFF, 0xFF] (fun ds => ds.map byteOf)

/-- The failing map test 1 to 3, or 0 for VALID, with the table it concerns (R3). -/
def MapResult.bytes : MapResult → List Byte
  | .valid => [0, 0xFF]
  | .notOneZone t => [1, tableByte t]
  | .notFitted t => [2, tableByte t]
  | .noStore => [3, 0xFF]

/-- A map entry: its kind and its table (R2). -/
def ZoneKind.bytes : ZoneKind → List Byte
  | .table t => [3, tableByte t]
  | k => [byteOf k.ctorIdx, 0xFF]

/-- A halt cause with the refusal code of MOVE_REFUSED (Table 4-3). -/
def causeBytes : Option HaltCause → List Byte
  | none => [0xFF, 0xFF]
  | some (.moveRefused c) => [byteOf (HaltCause.moveRefused c).ctorIdx, byteOf c.number]
  | some k => [byteOf k.ctorIdx, 0xFF]

/-- A requirement (Table 2-1). -/
def Requirement.bytes (q : Requirement) : List Byte :=
  [byteOf q.grade] ++ bytes2 q.thick ++ bytes2 q.len ++ bytes2 q.wid ++ [markByte q.plateOnly]

/-- An origin: HOST 0, TABLE n 1 with the table, YIELD 2 (Table 9-2). -/
def Origin.bytes : Origin → List Byte
  | .table t => [1, tableByte t]
  | o => [byteOf o.ctorIdx, 0xFF]

/-- A load: STOCK 0 with its record id, BATCH 1 with its tag, NONE 2 with 0 (Table 12-10). -/
def Load.bytes : Load → List Byte
  | .stock id => 0 :: bytes2 id
  | .batch tag => 1 :: bytes2 tag
  | .none => 2 :: bytes2 0

/-- A source: a zone and a slot; a zone alone; a hook, as Table 12-8 writes one; absent. -/
def Src.bytes : Src → List Byte
  | .slot r => [byteOf r.zone.val, byteOf r.slot.val]
  | .zone z => [byteOf z.val, 0xFF]
  | .hook c => [0xFF, craneByte c]
  | .none => [0xFF, 0xFF]

/-- A destination: a zone and a slot, or a zone alone. -/
def Dst.bytes : Dst → List Byte
  | .slot r => [byteOf r.zone.val, byteOf r.slot.val]
  | .zone z => [byteOf z.val, 0xFF]

/-- A hook load: empty 0, a stock record 1, a BATCH tag 2 (R160). -/
def Hook.bytes : Hook → List Byte
  | .empty => 0 :: bytes2 0
  | .stock id => 1 :: bytes2 id
  | .batch tag => 2 :: bytes2 tag

/-- The content of a STATUS, as the field frame carries it. -/
def statusBytes (c : StatusContent) : List Byte := (FieldMsg.status c).bodyBytes

/-- The source of a fault: a table 0, a crane 1, the hall 2 (R211). -/
def FaultSource.bytes : FaultSource → List Byte
  | .table t => [0, tableByte t]
  | .crane c => [1, craneByte c]
  | .hall => [2, 0xFF]

/-- A fault as the first-fault record holds it (R211). -/
def HallFault.bytes (f : HallFault) : List Byte :=
  [byteOf f.cls.ctorIdx] ++ f.src.bytes ++ [byteOf f.code.ctorIdx] ++ clockBytes f.clock ++ [optByte f.index]

/-- A beacon source with its table, zone or crane (Table 11-7). -/
def BeaconSource.bytes : BeaconSource → List Byte
  | .tableArc t => [2, tableByte t]
  | .tableHalted t => [3, tableByte t]
  | .tableWear t => [4, tableByte t]
  | .zoneTransit z => [5, byteOf z.val]
  | .craneBusy c => [6, craneByte c]
  | b => [byteOf b.ctorIdx, 0xFF]

/-! ## Bodies of reports -/

/-- A set's source: STEP 0, MOVE 1, HOST 2, with its table, move and step index (Table 7-3). -/
def SetSource.bytes : SetSource → List Byte
  | .step t index => [0, tableByte t, 0, byteOf index]
  | .move id origin => [1, optTable origin, byteOf id, 0xFF]
  | .host => [2, 0xFF, 0, 0xFF]

/-- NEST_CONSUMED (Table 2-8). -/
def NestConsumed.bytes (r : NestConsumed) : List Byte :=
  [tableByte r.table] ++ bytes2 r.oldId ++ idBytes r.newId ++ bytes2 r.used ++ bytes2 r.rem
    ++ bytes8 r.vp ++ bytes8 r.vn ++ bytes8 r.vr ++ bytes8 r.vs
    ++ bytes2 r.mp ++ bytes2 r.mn ++ bytes2 r.mr ++ bytes2 r.ms
    ++ [markByte r.clamped, byteOf r.reason.ctorIdx, yesByte r.added]

/-- WEAR_WARN and WEAR_DUE (Table 5-3). -/
def WearReport.bytes (r : WearReport) : List Byte :=
  [tableByte r.table, byteOf r.state.ctorIdx] ++ bytes2 r.count ++ bytes2 r.rem ++ bytes2 r.limit ++ bytes2 r.threshold
    ++ [byteOf r.cause.ctorIdx]

/-- MARK_RESULT (Table 6-6). -/
def MarkReport.bytes (r : MarkReport) : List Byte :=
  [tableByte r.table, byteOf r.id, byteOf r.outcome.ctorIdx] ++ serialBytes r.used ++ serialBytes r.after
    ++ [markByte r.noHeat, byteOf r.frames, byteOf r.frame, byteOf r.resends]

/-- The fields of a report, in the order of its table (R68, Tables 2-4, 2-8, 5-3, 6-6, 7-3, 9-4, 10-5, 11-5, R211). -/
def Report.bytes : Report → List Byte
  | .tableState t state index cause loaded =>
    [tableByte t, byteOf state.ctorIdx, optByte index] ++ causeBytes cause ++ idBytes loaded
  | .nestConsumed r => r.bytes
  | .stockWanted t req position otherKind => [tableByte t] ++ req.bytes ++ [byteOf position, byteOf otherKind]
  | .moveDone id origin load src dst crane returned mass flagSet =>
    [byteOf id] ++ origin.bytes ++ load.bytes ++ src.bytes ++ dst.bytes ++ [optCrane crane, markByte returned]
      ++ opt2 mass ++ [yesByte flagSet]
  | .moveFault id origin crane phase code onHook =>
    [byteOf id] ++ origin.bytes ++ [craneByte crane, optPhase phase, byteOf code.ctorIdx, yesByte onHook]
  | .weightMismatch move crane id expected tol measured =>
    [byteOf move, craneByte crane] ++ bytes2 id ++ bytes2 expected ++ bytes2 tol ++ bytes2 measured
  | .markResult r => r.bytes
  | .wearWarn r => r.bytes
  | .wearDue r => r.bytes
  | .flagOverrun flag source clock => [byteOf flag.val] ++ source.bytes ++ clockBytes clock
  | .unitOffline u cause cmd clock =>
    [byteOf (u.val + 1), byteOf cause.ctorIdx]
      ++ cmd.elim [0xFF, 0xFF] (fun k => [byteOf (cmdNumber k.1), byteOf k.2]) ++ clockBytes clock
  | .unitBack u from_ content clock =>
    [byteOf (u.val + 1), byteOf from_.ctorIdx] ++ statusBytes content ++ clockBytes clock
  | .hallMode mode stop cause clock =>
    [byteOf mode.ctorIdx, yesByte stop, byteOf cause.ctorIdx] ++ clockBytes clock
  | .faultCaptured f replaced => f.bytes ++ [optByte (replaced.map FaultClass.ctorIdx)]
  | .test _ => []

/-! ## Bodies of ACCEPT replies -/

/-- PROG_QUERY (Table 3-5). -/
def ProgView.bytes (v : ProgView) : List Byte :=
  [byteOf v.state.ctorIdx] ++ causeBytes v.cause ++ [markByte v.inUse, byteOf v.count, optByte v.index]
    ++ idBytes v.loaded
    ++ [markByte v.remnantRan, byteOf v.staged.ctorIdx, byteOf v.stagedCount, byteOf v.written, markByte v.swap]

/-- WEAR_RESET and WEAR_QUERY (R107, R108). -/
def WearView.bytes (v : WearView) : List Byte :=
  bytes2 v.count ++ bytes2 v.rem ++ bytes2 v.limit ++ bytes2 v.threshold ++ [byteOf v.state.ctorIdx]

/-- A transit holder or pending crane: its move and its crane, or absent (Table 8-1). -/
def holderBytes : Option Holder → List Byte
  | none => [0, 0xFF]
  | some h => [byteOf h.move, craneByte h.crane]

/-- The number of a guard's state, and the transit holder it holds (Table 8-1). -/
def GuardState.parts : GuardState → Byte × Option Holder
  | .free => (0, none)
  | .arc => (1, none)
  | .settling _ => (2, none)
  | .transit h => (3, some h)

/-- GUARD_QUERY, per zone (Table 8-5). -/
def GuardView.bytes (v : GuardView) : List Byte :=
  [byteOf v.zone.val, tableByte v.table, v.state.parts.1, markByte v.arcKept] ++ opt4 v.remaining
    ++ holderBytes v.state.parts.2 ++ holderBytes v.pending ++ [optTable v.waiter]

def Span.bytes (a : Span) : List Byte := [byteOf a.lo, byteOf a.hi]

/-- The three parameters of Table 9-5. -/
def CraneCfg.bytes (c : CraneCfg) : List Byte := bytes2 c.base ++ bytes2 c.perZone ++ bytes2 c.handling

/-- The seven parameters of Table 4-4. -/
def TableCfg.bytes (c : TableCfg) : List Byte :=
  bytes2 c.kerf ++ bytes2 c.trim ++ bytes2 c.minLen ++ bytes2 c.minArea ++ bytes2 c.settle ++ bytes2 c.contourLimit
    ++ bytes2 c.wearLimit

/-- CRANE_STATUS (R160, R186). -/
def CraneView.bytes (v : CraneView) : List Byte :=
  [byteOf v.crane.state.ctorIdx, optByte (v.crane.cause.map CraneCause.ctorIdx), optZone v.crane.pos,
    markByte v.crane.awaited, moveByte v.crane.move]
    ++ v.crane.hook.bytes ++ [byteOf v.crane.sensed.ctorIdx] ++ v.claim.bytes ++ opt4 v.remaining ++ v.crane.cfg.bytes

/-- The placement state of a move, of a STOCK load alone (Table 9-2). -/
def MoveRec.placement (m : MoveRec) : Byte :=
  match m.load with
  | .stock _ => markByte m.quarantine
  | _ => 0xFF

/-- MOVE_QUERY of one move (Table 9-2, R186). -/
def MoveRec.bytes (m : MoveRec) (remaining : Option Nat) : List Byte :=
  [byteOf m.id] ++ m.origin.bytes ++ m.load.bytes ++ m.src.bytes ++ [optZone m.srcZone] ++ m.dst.bytes
    ++ [markByte m.urgent, optByte (m.flag.map Fin.val), m.placement, byteOf m.state.ctorIdx, optPhase m.phase,
        markByte m.returning, optCrane m.crane]
    ++ m.span.elim [0xFF, 0xFF] Span.bytes ++ [byteOf m.holds.length]
    ++ m.holds.flatMap (fun h => [byteOf h.zone.val, yesByte h.granted]) ++ bytes4 m.age ++ opt4 remaining

/-- UNIT_QUERY, per unit (R201): FITTED 0 with its fields, or ABSENT 1 and nothing more. -/
def unitBytes : Option UnitView → List Byte
  | none => [1]
  | some v =>
    [0, byteOf v.link.ctorIdx, byteOf v.fails]
      ++ v.out.elim [0xFF, 0xFF, 0xFF] (fun o => [byteOf (cmdNumber o.1), byteOf o.2.1, markByte o.2.2])
      ++ [byteOf v.waiting, markByte v.restoring] ++ bytes2 v.strays

/-- The mark in progress (R131). -/
def MarkView.bytes (v : MarkView) : List Byte :=
  [tableByte v.table, byteOf v.id, byteOf v.token, byteOf v.length, byteOf v.frames, byteOf v.frame, byteOf v.resend,
    yesByte v.sticky] ++ serialBytes v.used ++ [markByte v.noHeat]

/-- HALL_STATUS (R221). -/
def HallView.bytes (v : HallView) : List Byte :=
  [byteOf v.mode.ctorIdx, yesByte v.stop] ++ clockBytes v.clock
    ++ [byteOf v.straps.tsel.val, if v.straps.csel then 2 else 1, markByte v.straps.rsel, markByte v.rxOverrun,
        markByte v.reportLost, byteOf v.frames, byteOf v.reports, markByte v.locked]

/-- The outcome of a set, with the table released (Table 7-2). -/
def SetOutcome.bytes : SetOutcome → List Byte
  | .released t => [0, tableByte t]
  | o => [byteOf o.ctorIdx, 0xFF]

/-- A flag record (R143). -/
def FlagRec.bytes (r : FlagRec) : List Byte :=
  [markByte r.value, markByte r.overrun, byteOf r.waiters.length] ++ r.waiters.map tableByte

/-- The kind-specific body of an ACCEPT, as the owning chapter gives it (R217). STOCK_LIST sends its ids without a count
before the next index, the body's length telling how many there are: DESIGN CHOICE (notes/assumptions/19.md). -/
def Accept.bytes : Accept → List Byte
  | .none => []
  | .map entries result => entries.toList.flatMap ZoneKind.bytes ++ result.bytes
  | .registered id age depth => bytes2 id ++ bytes4 age ++ [optByte depth]
  | .stock image => image
  | .list ids next => ids.flatMap bytes2 ++ [optByte next]
  | .slot ids lock => [byteOf ids.length] ++ ids.flatMap bytes2 ++ [moveByte lock.pick, byteOf lock.deliveries]
  | .waits entries =>
    [byteOf entries.length]
      ++ entries.flatMap (fun e => [tableByte e.table] ++ e.req.bytes ++ clockBytes e.joined)
  | .probe winner remnants plates =>
    winner.elim (bytes2 0 ++ [0xFF, 0xFF, 0xFF, 0xFF]) (fun w => bytes2 w.1 ++ bytes4 w.2)
      ++ [byteOf remnants, byteOf plates]
  | .account a => bytes8 a.plate ++ bytes8 a.nest ++ bytes8 a.remnant ++ bytes8 a.scrap ++ bytes4 a.count
      ++ [markByte a.frozen]
  | .written n => [byteOf n]
  | .commit o => [byteOf o.ctorIdx]
  | .staged before => [byteOf before.ctorIdx]
  | .tableWas state => [byteOf state.ctorIdx]
  | .program v => v.bytes
  | .steps images => images.flatten
  | .resumed state => [byteOf state.ctorIdx]
  | .tableCfg cfg => cfg.bytes
  | .wear v => v.bytes
  | .defined replaced => [markByte replaced]
  | .markHeld serial spent => serialBytes serial ++ [markByte spent]
  | .mark rec composed waiting =>
    [byteOf rec.id, byteOf rec.text.length] ++ rec.text.map byteOf ++ serialBytes rec.serial
      ++ [yesByte rec.heat, markByte rec.spent, yesByte composed, byteOf waiting]
  | .composer v =>
    [byteOf v.state.ctorIdx, v.token, byteOf v.queue.length]
      ++ v.queue.flatMap (fun e => [tableByte e.1, byteOf e.2]) ++ v.mark.elim [] MarkView.bytes
  | .setMade o => o.bytes
  | .flagHeld value overrun => [markByte value, markByte overrun]
  | .flags recs => recs.flatMap FlagRec.bytes
  | .guards entries => entries.flatMap GuardView.bytes
  | .moveId id => [byteOf id]
  | .crane state pos mv => [byteOf state.ctorIdx, optZone pos, moveByte mv]
  | .phase p => [optPhase p]
  | .move m remaining => m.bytes remaining
  | .moves entries => entries.flatMap (fun e =>
      [byteOf e.1] ++ e.2.1.bytes ++ [byteOf e.2.2.1.ctorIdx, optPhase e.2.2.2.1, optCrane e.2.2.2.2])
  | .craneView v => v.bytes
  | .craneCfg cfg => cfg.bytes
  | .restoredTable from_ content state => [byteOf from_.ctorIdx] ++ statusBytes content ++ [byteOf state.ctorIdx]
  | .restoredCrane from_ content state => [byteOf from_.ctorIdx] ++ statusBytes content ++ [byteOf state.ctorIdx]
  | .units entries => entries.flatMap unitBytes
  | .mapTest result => result.bytes
  | .fault rec =>
    [markByte rec.held.isSome] ++ rec.held.elim [] HallFault.bytes ++ [byteOf rec.later]
  | .beaconWas source pattern => source.bytes ++ [byteOf pattern.ctorIdx]
  | .beacons entries => entries.flatMap (fun e => e.1.bytes ++ [byteOf e.2.1.ctorIdx, yesByte e.2.2])
  | .hall v => v.bytes
  | .bits b => [b]
  | .answer kind body => kind :: body

/-! ## The frame on TXH -/

/-- The frame that the transmitter sends (R217): a reply carries its request's unit field and tag, and the request's kind
as the first byte of its body; a report carries its class and kind before its fields. -/
def HostTx.frame : HostTx → HostFrame
  | .reply f (.accept b) => { unit := f.unit, kind := 0xE0, tag := f.tag, body := f.kind :: b.bytes }
  | .reply f (.refuse c x) =>
    { unit := f.unit, kind := 0xE1, tag := f.tag, body := [f.kind, byteOf c.number] ++ x.bytes }
  | .report r => { unit := 15, kind := 0xE2, tag := 0, body := [byteOf (r.cls.bit + 1), byteOf r.number] ++ r.bytes }

/-- The characters of the frame on TXH: start byte, length byte, frame and CRC (Table 12-7). -/
def HostTx.image (tx : HostTx) : List Byte := hostChars tx.frame

end Sys2Proof.Machine
end

