-- ==== Sys2Proof/Machine/HostCommands.lean ====
section
/-! DEFINITION. The meanings of the host line's own commands (chapter 12): what arrives on RXH, the transmitter, a frame
that is no request, and the report and status requests. -/

namespace Sys2Proof.Machine

def State.setHost (s : State) (h : HostLine) : State := { s with host := h }

/-- HOST_FRAME_RECEIVED (R215). -/
def execHostFrameReceived (chars : List Byte) : State → Host.Outcome State Fault Refusal :=
  plain fun s => s.setHost (s.host.feed chars)

/-- HOST_CHAR_GAP_TIMEOUT (R215): more than 20 ms since the last character. -/
def execHostCharGapTimeout (gapMs : Nat) : State → Host.Outcome State Fault Refusal :=
  plain fun s => if Config.charGapMs < gapMs then s.setHost s.host.hunt else s

/-- HOST_CHAR_BAD_STOP_BIT (R215): the frame being collected is discarded. The character itself is dropped with it, and in
HUNTING it is dropped even where it would be a start byte; the rule does not say what becomes of it. DESIGN CHOICE
(notes/assumptions/27.md). -/
def execHostCharBadStopBit : State → Host.Outcome State Fault Refusal := plain fun s => s.setHost s.host.hunt

/-- The characters on TXH (R217): those of the frame that the transmitter last began to send. -/
def State.txh (s : State) : Option (List Byte) := s.host.sending.map HostTx.image

/-- TRANSMITTER_FREE (R217). -/
def execTransmitterFree : State → Host.Outcome State Fault Refusal := plain fun s => s.setHost s.host.sendNext

/-- REQUEST_UNKNOWN_KIND (R216): a bad unit field, then an unknown kind, then a wrong body length. -/
def execRequestUnknownKind (frame : HostFrame) : State → Host.Outcome State Fault Refusal :=
  ask (.requestUnknownKind frame) fun s =>
    if frame.unit.toNat ≠ 15 then s.refuse .range
    else if (bodyOf frame.kind.toNat).isNone then s.refuse .unknownKind
    else s.refuse .badLength

/-- HALL_STATUS (R221): RX_OVERRUN and REPORT_LOST are cleared once read. -/
def execHallStatus : State → Host.Outcome State Fault Refusal :=
  ask .hallStatus fun s =>
    let h := s.host
    (s.setHost { h with rxOverrun := false, reportLost := false }).accept (.hall
      { mode := s.hall.mode, stop := s.hall.stop, clock := s.hall.clock, straps := s.hall.straps,
        rxOverrun := h.rxOverrun, reportLost := h.reportLost, frames := h.buffer.length, reports := h.reports.length,
        locked := s.hall.fault.held.isSome })

/-- REPORT_STATUS (R220). -/
def execReportStatus (bits : Byte) : State → Host.Outcome State Fault Refusal :=
  ask (.reportStatus bits) fun s =>
    (s.setHost { s.host with status := s.host.status &&& ~~~bits }).accept (.bits s.host.status)

/-- REPORT_MASK (R220). -/
def execReportMask (bits : Byte) : State → Host.Outcome State Fault Refusal :=
  ask (.reportMask bits) fun s => (s.setHost { s.host with mask := bits }).accept (.bits s.host.mask)

/-- REPORT_FORCE (R220). -/
def execReportForce (cls : Nat) : State → Host.Outcome State Fault Refusal :=
  ask (.reportForce cls) fun s =>
    match classOf cls with
    | none => s.refuse .range
    | some c => (s.accept .none).raise (.test c)

end Sys2Proof.Machine
end

