-- ==== Sys2Proof/Machine/MarkRequests.lean ====
section
/-! DEFINITION. The meanings of the mark requests (6.1, 6.7), the echo timer, the flag requests (7.4) and the guard
request and settle timers (8.3, 8.7). -/

namespace Sys2Proof.Machine

/-! ## Marks -/

/-- Test 1 of MARK_DEFINE (R111). Heat suffix 0 is ON and 1 is OFF. -/
def markBodyOk (m : MarkBody) : Bool :=
  within 1 255 m.id && within 1 20 m.count && m.codes.all (fun c => decide (c ≤ 39))
    && m.serial.all (fun ds => ds.all (fun d => decide (d ≤ 9))) && decide (m.heat ≤ 1)

/-- The record that MARK_DEFINE makes (R111). -/
def markRecOf (m : MarkBody) : MarkRec :=
  { id := m.id, text := m.codes, serial := m.serial, heat := decide (m.heat = 0), spent := false }

/-- MARK_DEFINE (R111). -/
def execMarkDefine (m : MarkBody) : State → Host.Outcome State Fault Refusal :=
  ask (.markDefine m) fun s =>
    if !markBodyOk m then s.refuse .range
    else if s.composed m.id then s.refuse .busy
    else if (s.mark m.id).isSome then (s.modMark m.id (fun _ => markRecOf m)).accept (.defined true)
    else if Config.maxMarks ≤ s.composer.marks.length then s.refuse .full
    else (s.setComposer { s.composer with marks := s.composer.marks ++ [markRecOf m] }).accept (.defined false)

/-- MARK_DELETE (R112). -/
def execMarkDelete (id : Nat) : State → Host.Outcome State Fault Refusal :=
  ask (.markDelete id) fun s =>
    match s.mark id with
    | none => s.refuse .notFound
    | some m =>
      if s.composed id then s.refuse .busy
      else
        (s.setComposer { s.composer with marks := s.composer.marks.filter (fun k => k.id ≠ id) }).accept
          (.markHeld m.serial m.spent)

/-- MARK_QUERY (R114). -/
def execMarkQuery (id : Nat) : State → Host.Outcome State Fault Refusal :=
  ask (.markQuery id) fun s =>
    match s.mark id with
    | none => s.refuse .notFound
    | some m => s.accept (.mark m (s.composed id) (s.composer.queue.filter (fun e => e.id = id)).length)

/-- MARK_SERIAL_SET (R113). -/
def execMarkSerialSet (id : Nat) (digits : List Nat) : State → Host.Outcome State Fault Refusal :=
  ask (.markSerialSet id digits) fun s =>
    match s.mark id with
    | none => s.refuse .notFound
    | some m =>
      if digits.any (fun d => decide (9 < d)) then s.refuse .range
      else if m.serial.isNone then s.refuse .badState
      else if s.composed id then s.refuse .busy
      else (s.modMark id (fun k => { k with serial := some digits, spent := false })).accept (.markHeld m.serial m.spent)

/-- What COMPOSER_QUERY tells of the mark in progress (R131). -/
def MarkCtx.view (c : MarkCtx) : MarkView :=
  { table := c.entry.table, id := c.entry.id, token := c.token, length := c.str.length, frames := frameCount c.str,
    frame := c.frame, resend := c.resend, sticky := c.sticky, used := c.used, noHeat := c.noHeat }

/-- COMPOSER_QUERY (R131). -/
def execComposerQuery : State → Host.Outcome State Fault Refusal :=
  ask .composerQuery fun s =>
    let c := s.composer
    s.accept (.composer
      { state := c.state, token := c.token, queue := c.queue.map (fun e => (e.table, e.id)),
        mark := c.ctx.map MarkCtx.view })

/-- ECHO_TIMER_EXPIRY (R123): in ECHO_WAIT the running echo timer has come to its expiry, and the frame is rejected. -/
def execEchoTimerExpiry : State → Host.Outcome State Fault Refusal :=
  handled fun s =>
    match s.composer.ctx with
    | some c =>
      if s.composer.state = .echoWait ∧ c.timer.any (fun e => decide (e ≤ s.now)) then s.rejectFrame c else s
    | none => s

/-! ## Flags -/

/-- FLAG_SET (R140, R141): one set with source HOST. -/
def execFlagSet (flag : Nat) : State → Host.Outcome State Fault Refusal :=
  request (.flagSet flag) fun s =>
    match numbered 16 0 flag with
    | none => s.refuse .range
    | some f => runSetFlag f .host (s.accept (.setMade (s.flag f).outcome))

/-- FLAG_CLEAR (R140, R142). -/
def execFlagClear (flag : Nat) : State → Host.Outcome State Fault Refusal :=
  ask (.flagClear flag) fun s =>
    match numbered 16 0 flag with
    | none => s.refuse .range
    | some f =>
      let r := s.flag f
      (s.setFlagRec f { r with value := false, overrun := false }).accept (.flagHeld r.value r.overrun)

/-- FLAG_QUERY (R140, R143); 255 names ALL. -/
def execFlagQuery (flag : Nat) : State → Host.Outcome State Fault Refusal :=
  ask (.flagQuery flag) fun s =>
    if flag = 255 then s.accept (.flags s.flags.toList)
    else match numbered 16 0 flag with
      | none => s.refuse .range
      | some f => s.accept (.flags [s.flag f])

/-! ## Guards -/

/-- The GUARD_QUERY entry of a TABLE zone (Table 8-5). -/
def State.guardView (s : State) (z : Zone) (t : TableId) : GuardView :=
  let g := s.guard z
  { zone := z, table := t, state := g.state,
    arcKept := g.state = .arc && (s.unit (tableUnit t)).link = .offline,
    remaining := (match g.state with
      | .settling e => some (e - s.now)
      | _ => none),
    pending := g.pending, waiter := g.waiter }

/-- The GUARD_QUERY entry of a zone, where the map makes it a TABLE zone. -/
def State.guardEntry (s : State) (z : Zone) : Option GuardView :=
  match s.kindOf z with
  | .table t => some (s.guardView z t)
  | _ => none

/-- GUARD_QUERY (R157); 255 names ALL. -/
def execGuardQuery (zone : Nat) : State → Host.Outcome State Fault Refusal :=
  ask (.guardQuery zone) fun s =>
    if zone = 255 then s.accept (.guards (allZones.filterMap s.guardEntry))
    else match numbered 16 0 zone with
      | none => s.refuse .range
      | some z =>
        match s.guardEntry z with
        | some v => s.accept (.guards [v])
        | none => s.refuse .notFound

/-- SETTLE_EXPIRY (R150): the running settle timer of a guard has come to its expiry. -/
def execSettleExpiry (z : Zone) : State → Host.Outcome State Fault Refusal :=
  handled fun s =>
    match (s.guard z).state with
    | .settling e => if e ≤ s.now then s.guardFree z else s
    | _ => s

end Sys2Proof.Machine
end

