-- ==== Sys2Proof/Machine/Dispatch.lean ====
section
/-! DEFINITION. The meaning of every command, one arm for each. -/

namespace Sys2Proof.Machine

def exec (i : Instr) (s : State) : Host.Outcome State Fault Refusal :=
  match i with
  | .powerOnReset tsel1 tsel0 csel rsel stopAsserted => Sys2Proof.Machine.execPowerOnReset tsel1 tsel0 csel rsel stopAsserted s
  | .hallClockTick => Sys2Proof.Machine.execHallClockTick s
  | .hallStopAsserted heldMs => Sys2Proof.Machine.execHallStopAsserted heldMs s
  | .hallStopReleased heldMs => Sys2Proof.Machine.execHallStopReleased heldMs s
  | .beaconPatternToggle output => Sys2Proof.Machine.execBeaconPatternToggle output s
  | .hostFrameReceived chars => Sys2Proof.Machine.execHostFrameReceived chars s
  | .hostCharGapTimeout gapMs => Sys2Proof.Machine.execHostCharGapTimeout gapMs s
  | .transmitterFree => Sys2Proof.Machine.execTransmitterFree s
  | .requestUnknownKind frame => Sys2Proof.Machine.execRequestUnknownKind frame s
  | .hallMap entries => Sys2Proof.Machine.execHallMap entries s
  | .mapQuery => Sys2Proof.Machine.execMapQuery s
  | .stockRegister body => Sys2Proof.Machine.execStockRegister body s
  | .stockRemove id => Sys2Proof.Machine.execStockRemove id s
  | .stockQuarantine id => Sys2Proof.Machine.execStockQuarantine id s
  | .stockRelease id => Sys2Proof.Machine.execStockRelease id s
  | .stockQuery id => Sys2Proof.Machine.execStockQuery id s
  | .stockList filter arg start => Sys2Proof.Machine.execStockList filter arg start s
  | .slotQuery zone slot => Sys2Proof.Machine.execSlotQuery zone slot s
  | .allocQuery => Sys2Proof.Machine.execAllocQuery s
  | .allocProbe req => Sys2Proof.Machine.execAllocProbe req s
  | .accountRead => Sys2Proof.Machine.execAccountRead s
  | .accountClear => Sys2Proof.Machine.execAccountClear s
  | .progBegin table n => Sys2Proof.Machine.execProgBegin table n s
  | .progSteps table first count data => Sys2Proof.Machine.execProgSteps table first count data s
  | .progCommit table => Sys2Proof.Machine.execProgCommit table s
  | .progDiscard table => Sys2Proof.Machine.execProgDiscard table s
  | .progStart table => Sys2Proof.Machine.execProgStart table s
  | .progAbort table => Sys2Proof.Machine.execProgAbort table s
  | .progQuery table => Sys2Proof.Machine.execProgQuery table s
  | .progRead table slot first count => Sys2Proof.Machine.execProgRead table slot first count s
  | .tableResume table mode => Sys2Proof.Machine.execTableResume table mode s
  | .tableConfig table params => Sys2Proof.Machine.execTableConfig table params s
  | .wearReset table => Sys2Proof.Machine.execWearReset table s
  | .wearQuery table => Sys2Proof.Machine.execWearQuery table s
  | .markDefine body => Sys2Proof.Machine.execMarkDefine body s
  | .markDelete id => Sys2Proof.Machine.execMarkDelete id s
  | .markQuery id => Sys2Proof.Machine.execMarkQuery id s
  | .markSerialSet id digits => Sys2Proof.Machine.execMarkSerialSet id digits s
  | .composerQuery => Sys2Proof.Machine.execComposerQuery s
  | .flagSet flag => Sys2Proof.Machine.execFlagSet flag s
  | .flagClear flag => Sys2Proof.Machine.execFlagClear flag s
  | .flagQuery flag => Sys2Proof.Machine.execFlagQuery flag s
  | .guardQuery zone => Sys2Proof.Machine.execGuardQuery zone s
  | .movePost body => Sys2Proof.Machine.execMovePost body s
  | .craneResume crane => Sys2Proof.Machine.execCraneResume crane s
  | .moveAcceptWeight move => Sys2Proof.Machine.execMoveAcceptWeight move s
  | .moveAbort move => Sys2Proof.Machine.execMoveAbort move s
  | .moveRetry move => Sys2Proof.Machine.execMoveRetry move s
  | .moveRecover move loc zone slot => Sys2Proof.Machine.execMoveRecover move loc zone slot s
  | .moveCancel move => Sys2Proof.Machine.execMoveCancel move s
  | .moveQuery move => Sys2Proof.Machine.execMoveQuery move s
  | .craneStatus crane => Sys2Proof.Machine.execCraneStatus crane s
  | .craneConfig crane params => Sys2Proof.Machine.execCraneConfig crane params s
  | .unitRestore unit => Sys2Proof.Machine.execUnitRestore unit s
  | .unitMaintain unit => Sys2Proof.Machine.execUnitMaintain unit s
  | .unitQuery unit => Sys2Proof.Machine.execUnitQuery unit s
  | .hallRun => Sys2Proof.Machine.execHallRun s
  | .hallContinue => Sys2Proof.Machine.execHallContinue s
  | .hallReset => Sys2Proof.Machine.execHallReset s
  | .faultRead clear => Sys2Proof.Machine.execFaultRead clear s
  | .beaconSet output source arg pattern => Sys2Proof.Machine.execBeaconSet output source arg pattern s
  | .beaconQuery => Sys2Proof.Machine.execBeaconQuery s
  | .hallStatus => Sys2Proof.Machine.execHallStatus s
  | .reportStatus bits => Sys2Proof.Machine.execReportStatus bits s
  | .reportMask bits => Sys2Proof.Machine.execReportMask bits s
  | .reportForce cls => Sys2Proof.Machine.execReportForce cls s
  | .passThroughFrame frame => Sys2Proof.Machine.execPassThroughFrame frame s
  | .passThroughAnswer unit kind body => Sys2Proof.Machine.execPassThroughAnswer unit kind body s
  | .passThroughTimeout damaged => Sys2Proof.Machine.execPassThroughTimeout damaged s
  | .lineCommandTurn => Sys2Proof.Machine.execLineCommandTurn s
  | .lineOfferTurn => Sys2Proof.Machine.execLineOfferTurn s
  | .ack unit marker cmd => Sys2Proof.Machine.execAck unit marker cmd s
  | .nak unit marker cmd => Sys2Proof.Machine.execNak unit marker cmd s
  | .status unit marker content => Sys2Proof.Machine.execStatus unit marker content s
  | .fieldAnswerTimeout => Sys2Proof.Machine.execFieldAnswerTimeout s
  | .damagedFieldFrame => Sys2Proof.Machine.execDamagedFieldFrame s
  | .empty unit marker => Sys2Proof.Machine.execEmpty unit marker s
  | .offerWindowTimeout => Sys2Proof.Machine.execOfferWindowTimeout s
  | .contourDone unit marker number arcTime => Sys2Proof.Machine.execContourDone unit marker number arcTime s
  | .contourFault unit marker number code => Sys2Proof.Machine.execContourFault unit marker number code s
  | .contourTimerExpiry table => Sys2Proof.Machine.execContourTimerExpiry table s
  | .frameEcho unit marker token frame count chars => Sys2Proof.Machine.execFrameEcho unit marker token frame count chars s
  | .frameReject unit marker token frame => Sys2Proof.Machine.execFrameReject unit marker token frame s
  | .echoTimerExpiry => Sys2Proof.Machine.execEchoTimerExpiry s
  | .arrived unit marker zone => Sys2Proof.Machine.execArrived unit marker zone s
  | .picked unit marker kg => Sys2Proof.Machine.execPicked unit marker kg s
  | .placed unit marker => Sys2Proof.Machine.execPlaced unit marker s
  | .craneFault unit marker code => Sys2Proof.Machine.execCraneFault unit marker code s
  | .phaseTimerExpiry crane => Sys2Proof.Machine.execPhaseTimerExpiry crane s
  | .settleExpiry zone => Sys2Proof.Machine.execSettleExpiry zone s
  | .waitListWalk => Sys2Proof.Machine.execWaitListWalk s
  | .dispatchAttempt => Sys2Proof.Machine.execDispatchAttempt s
  | .hostCharBadStopBit => Sys2Proof.Machine.execHostCharBadStopBit s
  | .resetPinAsserted => Sys2Proof.Machine.execResetPinAsserted s

end Sys2Proof.Machine
end

