-- ==== Sys2Proof/Machine/Tick.lean ====
section
/-! DEFINITION. What the CH-42 does while no command waits: one millisecond of its timebase passes, and what has become
due joins the queue (notes/assumptions/5.md). -/

namespace Sys2Proof.Machine

/-- Whether a timer has come to its expiry. -/
def State.due (s : State) (timer : Option Nat) : Bool := timer.any (fun e => decide (e ≤ s.now))

/-- The timers that have come to their expiry. -/
def State.dueTimers (s : State) : List Instr :=
  (if s.hall.nextSecond ≤ s.now then [Instr.hallClockTick] else [])
    ++ ((List.finRange 8).filter (fun n => s.due (s.beacon n).toggle)).map Instr.beaconPatternToggle
    ++ ((List.finRange 4).filter (fun t => s.due (s.tab t).timer)).map Instr.contourTimerExpiry
    ++ ((List.finRange 2).filter (fun c => s.due (s.crane c).timer)).map Instr.phaseTimerExpiry
    ++ (if s.due (s.composer.ctx.bind MarkCtx.timer) then [Instr.echoTimerExpiry] else [])
    ++ (allZones.filter (fun z => match (s.guard z).state with
        | .settling e => decide (e ≤ s.now)
        | _ => false)).map Instr.settleExpiry

/-- The end of the open answer window, or the turn of a free line (R193, R194, R196, R200). -/
def State.dueLine (s : State) : List Instr :=
  match s.line.window with
  | some w =>
    if s.now < w.expiry then []
    else match w.kind with
      | .command => [.fieldAnswerTimeout]
      | .offer => [.offerWindowTimeout]
      | .pass => [.passThroughTimeout false]
  | none =>
    match s.line.turn, s.cmdUnit, s.offerUnit with
    | .command, some _, _ => [.lineCommandTurn]
    | .command, none, some _ => [.lineOfferTurn]
    | .offer, _, some _ => [.lineOfferTurn]
    | .offer, some _, none => [.lineCommandTurn]
    | _, none, none => []

/-- The events that wait between the blocks: a stock-change event (R32), a dispatch attempt (R168). -/
def State.dueEvents (s : State) : List Instr :=
  (if 0 < s.stock.events then [Instr.waitListWalk] else [])
    ++ (if 0 < s.moves.attempts then [Instr.dispatchAttempt] else [])

/-- The request in hand (R216), and the transmitter with something to send (R217). -/
def State.dueHost (s : State) : List Instr :=
  match s.host.hand with
  | .untaken =>
    (match s.host.buffer with
      | f :: _ => [decodeFrame f]
      | [] => []) ++ (if s.host.reports = [] then [] else [Instr.transmitterFree])
  | .waiting _ => if s.host.reports = [] then [] else [.transmitterFree]
  | .ready _ => [.transmitterFree]

/-- What has become due. -/
def State.dueCommands (s : State) : List Instr := s.dueTimers ++ s.dueEvents ++ s.dueLine ++ s.dueHost

/-- One millisecond passes, and what has become due joins the queue. Nothing happens while the reset pin is held. -/
def State.tick (s : State) : State :=
  if s.hall.inReset then s
  else
    let s : State := { s with now := s.now + 1 }
    { s with pending := s.pending ++ s.dueCommands }

end Sys2Proof.Machine
end

