-- ==== Sys2Proof/WellFormed.lean ====
section
/-! DEFINITION. Well-formed commands: every number fits the bytes that carry it (12.6), and every list has the length that
its command fixes. Whether a value lies in the range of its field is the owner's test, and no part of this. -/

namespace Sys2Proof

/-- A number in one byte. -/
def fits1 (n : Nat) : Bool := decide (n < 256)

/-- A number in two bytes. -/
def fits2 (n : Nat) : Bool := decide (n < 65536)

/-- A number in half a byte. -/
def fitsHalf (n : Nat) : Bool := decide (n < 16)

def optFits : Option Nat → Bool
  | none => true
  | some n => fits2 n

def StockBody.wf (b : StockBody) : Bool :=
  fits2 b.id && fits1 b.kind && fits1 b.grade && fits2 b.thick && fits2 b.len && fits2 b.wid && fits1 b.presence
    && decide (b.heat.length = 8) && b.heat.all fitsHalf && fits2 b.parent && fits1 b.gen && fits1 b.zone
    && fits1 b.slot

def ReqFields.wf (r : ReqFields) : Bool :=
  fits1 r.grade && fits2 r.thick && fits2 r.len && fits2 r.wid && fits1 r.pref

def TableParams.wf (p : TableParams) : Bool :=
  optFits p.kerf && optFits p.trim && optFits p.minLen && optFits p.minArea && optFits p.settle
    && optFits p.contourLimit && optFits p.wearLimit

def CraneParams.wf (p : CraneParams) : Bool := optFits p.base && optFits p.perZone && optFits p.handling

def PostBody.wf (b : PostBody) : Bool :=
  fits1 b.load && fits2 b.ref && fits1 b.srcZone && fits1 b.dstZone && fits1 b.dstSlot && fits1 b.priority
    && fits1 b.flag

/-- Four digits, the first of which is not the byte of an absent serial. -/
def serialWf : List Nat → Bool
  | [a, b, c, d] => decide (a < 255) && fits1 b && fits1 c && fits1 d
  | _ => false

def MarkBody.wf (m : MarkBody) : Bool :=
  fits1 m.id && fits1 m.count && decide (m.codes.length = m.count) && m.codes.all fits1 && m.serial.all serialWf
    && fits1 m.heat

/-- The body of a host frame: N - 3 bytes with N at most 250 (R215). -/
def HostFrame.wf (f : HostFrame) : Bool := decide (f.body.length ≤ 247)

/-- A number that names no field command is none of 1 to 9 (Table 10-3). -/
def NamedCmd.wf : NamedCmd → Bool
  | .cmd _ => true
  | .other n => fits1 n && (decide (n = 0) || decide (9 < n))

/-- A zone fits its byte, and a value that is neither of the two is above 1 (Table 10-3). -/
def StatusContent.wf : StatusContent → Bool
  | .arc _ => true
  | .crane z _ => fits1 z
  | .other z v => z.all fits1 && fits1 v && decide (1 < v)

/-- Well-formed commands. -/
def wellFormed : Instr → Bool
  | .powerOnReset .. => true
  | .hallClockTick => true
  | .hallStopAsserted _ => true
  | .hallStopReleased _ => true
  | .beaconPatternToggle _ => true
  | .hostFrameReceived _ => true
  | .hostCharGapTimeout _ => true
  | .transmitterFree => true
  | .requestUnknownKind f => f.wf
  | .hallMap es => decide (es.length = 16) && es.all (fun e => fits1 e.1 && fits1 e.2)
  | .mapQuery => true
  | .stockRegister b => b.wf
  | .stockRemove id => fits2 id
  | .stockQuarantine id => fits2 id
  | .stockRelease id => fits2 id
  | .stockQuery id => fits2 id
  | .stockList f a s => fits1 f && fits1 a && fits1 s
  | .slotQuery z s => fits1 z && fits1 s
  | .allocQuery => true
  | .allocProbe r => r.wf
  | .accountRead => true
  | .accountClear => true
  | .progBegin t n => fits1 t && fits1 n
  | .progSteps t f c data => fits1 t && fits1 f && fits1 c && decide (data.length = 10 * c)
  | .progCommit t => fits1 t
  | .progDiscard t => fits1 t
  | .progStart t => fits1 t
  | .progAbort t => fits1 t
  | .progQuery t => fits1 t
  | .progRead t s f c => fits1 t && fits1 s && fits1 f && fits1 c
  | .tableResume t m => fits1 t && fits1 m
  | .tableConfig t p => fits1 t && p.wf
  | .wearReset t => fits1 t
  | .wearQuery t => fits1 t
  | .markDefine m => m.wf
  | .markDelete id => fits1 id
  | .markQuery id => fits1 id
  | .markSerialSet id ds => fits1 id && decide (ds.length = 4) && ds.all fits1
  | .composerQuery => true
  | .flagSet f => fits1 f
  | .flagClear f => fits1 f
  | .flagQuery f => fits1 f
  | .guardQuery z => fits1 z
  | .movePost b => b.wf
  | .craneResume c => fits1 c
  | .moveAcceptWeight m => fits1 m
  | .moveAbort m => fits1 m
  | .moveRetry m => fits1 m
  | .moveRecover m l z s => fits1 m && fits1 l && fits1 z && fits1 s
  | .moveCancel m => fits1 m
  | .moveQuery m => fits1 m
  | .craneStatus c => fits1 c
  | .craneConfig c p => fits1 c && p.wf
  | .unitRestore u => fits1 u
  | .unitMaintain u => fits1 u
  | .unitQuery u => fits1 u
  | .hallRun => true
  | .hallContinue => true
  | .hallReset => true
  | .faultRead c => fits1 c
  | .beaconSet o s a p => fits1 o && fits1 s && fits1 a && fits1 p
  | .beaconQuery => true
  | .hallStatus => true
  | .reportStatus _ => true
  | .reportMask _ => true
  | .reportForce c => fits1 c
  | .passThroughFrame f => f.wf && decide (1 ≤ f.unit.toNat) && decide (f.unit.toNat ≤ 6)
  | .passThroughAnswer u _ body => fits1 u && decide (body.length < 256)
  | .passThroughTimeout _ => true
  | .lineCommandTurn => true
  | .lineOfferTurn => true
  | .ack u _ c => fits1 u && c.wf
  | .nak u _ c => fits1 u && c.wf
  | .status u _ c => fits1 u && c.wf
  | .fieldAnswerTimeout => true
  | .damagedFieldFrame => true
  | .empty u _ => fits1 u
  | .offerWindowTimeout => true
  | .contourDone u _ n a => fits1 u && fits2 n && fits2 a
  | .contourFault u _ n c => fits1 u && fits2 n && fits1 c
  | .contourTimerExpiry _ => true
  | .frameEcho u _ t f c cs => fits1 u && fits1 t && fits1 f && fits1 c && decide (cs.length = 6) && cs.all fits1
  | .frameReject u _ t f => fits1 u && fits1 t && fits1 f
  | .echoTimerExpiry => true
  | .arrived u _ z => fits1 u && fits1 z
  | .picked u _ kg => fits1 u && fits2 kg
  | .placed u _ => fits1 u
  | .craneFault u _ c => fits1 u && fits1 c
  | .phaseTimerExpiry _ => true
  | .settleExpiry _ => true
  | .waitListWalk => true
  | .dispatchAttempt => true
  | .hostCharBadStopBit => true
  | .resetPinAsserted => true

end Sys2Proof
end

