-- ==== Sys2Proof/Safety.lean ====
section
/-! DEFINITION. What counts as a sound state of the CH-42: what the spec says a state never holds, whatever the commands
were. -/

namespace Sys2Proof.Machine

/-! ## Guards -/

/-- The combinations of Table 8-2 (R146). -/
def GuardRec.ok (g : GuardRec) : Bool :=
  match g.state with
  | .free => g.pending.isNone && g.waiter.isNone
  | .arc => g.waiter.isNone
  | .settling _ => g.pending.isSome || g.waiter.isNone
  | .transit _ => g.pending.isNone

/-- Every guard record stands in a combination of Table 8-2 (R146). -/
def State.guardsOk (s : State) : Prop := ∀ z : Zone, (s.guard z).ok = true

/-! ## Flags -/

/-- A flag that is SET has an empty waiter list (R133). -/
def FlagRec.ok (r : FlagRec) : Bool := !r.value || r.waiters.isEmpty

/-- No flag is SET while a table waits for it (R133). -/
def State.flagsOk (s : State) : Prop := ∀ f : FlagId, (s.flag f).ok = true

/-! ## Collections within their bounds -/

/-- The collections that never outgrow their bounds: report queue and receive buffer (R216, R219), the units' waiting
lists (R190) and the fault record's later-capture count (R211). -/
def State.withinBounds (s : State) : Prop :=
  s.host.reports.length ≤ Config.maxReports ∧ s.host.buffer.length ≤ Config.maxFrames
    ∧ (∀ u : UnitId, (s.unit u).waiting.length ≤ Config.maxWaiting)
    ∧ s.hall.fault.later ≤ Config.lastLater

/-! ## Wear -/

/-- The wear count saturates, the arc remainder stays below one unit, and the wear state is what an evaluation makes of
the count and the limit (R99, R100, R101, R104). -/
def TableRec.wearOk (r : TableRec) : Prop :=
  r.wear.count ≤ Config.lastWear ∧ r.wear.rem < Config.arcUnitDs ∧ r.wear.state = wearStateOf r.wear.count r.cfg.wearLimit

/-- Every table's wear record is sound. -/
def State.wearOk (s : State) : Prop := ∀ t : TableId, (s.tab t).wearOk

/-! ## The stock table: ids, age stamps and cursors -/

/-- Ids and age stamps name at most one record each, at most 192 records are in use, and the two counters stand within
their ranges, the sequence counter off every stamp in use (R5, R6, R7). -/
def State.stockNumbersOk (s : State) : Prop :=
  (s.stock.recs.map StockRec.id).Nodup ∧ (s.stock.recs.map StockRec.age).Nodup
    ∧ s.stock.recs.length ≤ Config.maxStock
    ∧ (∀ x ∈ s.stock.recs, 1 ≤ x.id ∧ x.id ≤ Config.lastPartId ∧ 1 ≤ x.age ∧ x.age ≤ Config.lastAge
        ∧ x.age ≠ s.stock.seq)
    ∧ (1 ≤ s.stock.seq ∧ s.stock.seq ≤ Config.lastAge)
    ∧ (Config.firstPartId ≤ s.stock.idCursor ∧ s.stock.idCursor ≤ Config.lastPartId)

/-! ## The stock table: slots, locks and the moves that hold them -/

/-- How many records a slot can hold: a stack eight, a rack slot or bed one, and any other slot none (R1, R10, R11). -/
def State.slotCap (s : State) (r : SlotRef) : Nat :=
  match s.kindOf r.zone with
  | .stock => if r.slot.val < 4 then Config.maxStack else 0
  | .rack => 1
  | .table _ => if r.slot.val = 0 then 1 else 0
  | .park => 0
  | .output => 0

/-- A move whose load is still to be picked from a slot. -/
def State.picksFrom (s : State) (r : SlotRef) (m : MoveRec) : Bool :=
  match m.load, m.src with
  | .stock id, .slot q => q = r && (s.stockRec id).any (fun x => x.inSlot r)
  | _, _ => false

/-- A move whose STOCK load is to be set down in a slot. -/
def MoveRec.bringsTo (r : SlotRef) (m : MoveRec) : Bool :=
  match m.load, m.dst with
  | .stock _, .slot q => q = r
  | _, _ => false

/-- The two locks say what the unfinished moves are to do with a slot, and no slot is to be picked from and delivered to
(R11). -/
def State.lockOk (s : State) (r : SlotRef) : Bool :=
  (s.lock r).pick = (s.moves.queue.find? (s.picksFrom r)).map MoveRec.id
    && (s.lock r).deliveries = (s.moves.queue.filter (MoveRec.bringsTo r)).length
    && ((s.lock r).pick.isNone || (s.lock r).deliveries = 0)

/-- The records of a slot lie at the depths from 0 up, one at each, and with the deliveries in flight they never exceed
what the slot can hold: eight for a stack, one for a rack slot or bed (R8, R10, R11). -/
def State.slotOk (s : State) (r : SlotRef) : Bool :=
  let l := s.slotRecs r
  decide (l.map StockRec.depth).Nodup && l.all (fun x => decide (x.depth < l.length))
    && decide (l.length + (s.lock r).deliveries ≤ s.slotCap r)

/-- A phase in which the load has not been picked (Table 9-3). -/
def MoveRec.beforePick (m : MoveRec) : Bool := m.phase ≠ some .toDest && m.phase ≠ some .placing

/-- Where the load of a move lies: a STOCK record unpicked on top of its source slot, or on the hook of the move's
crane; a set-down's record on the hook it hangs on from the start (R164, R165, R171, R172). -/
def State.loadOk (s : State) (m : MoveRec) : Bool :=
  match m.load with
  | .stock id =>
    match s.stockRec id, m.src, m.dst with
    | some x, .slot r, .slot _ =>
      x.move = some m.id && decide (0 < s.slotCap r) &&
        (match x.loc with
          | .slot q d => decide (q = r) && decide (d + 1 = (s.slotRecs r).length) && m.beforePick
          | .hook c => decide (m.crane = some c) && !m.beforePick)
    | some x, .hook k, .slot _ =>
      x.move = some m.id && x.loc = .hook k && (m.crane = none || m.crane = some k)
        && m.phase ≠ some .toSource && m.phase ≠ some .picking
    | _, _, _ => false
  | .batch _ =>
    match m.src with
    | .slot _ => false
    | _ => true
  | .none => true

/-- A QUEUED move has no crane and no phase; any other is the move of its crane (Table 9-2, R160). A weight hold stands at
TO_DEST (R172). -/
def State.moveOk (s : State) (m : MoveRec) : Bool :=
  (match m.crane with
    | none => m.state = .queued && m.phase = none
    | some c => m.state ≠ .queued && (s.crane c).move = some m.id)
    && (m.state ≠ .weightHold || m.phase = some .toDest) && s.loadOk m

/-- A crane's move stands in the queue, and a stock record on its hook is in use, hangs there, and is the load of the
crane's move if it has one (R160). -/
def State.craneOk (s : State) (c : CraneId) : Bool :=
  (match (s.crane c).move with
    | none => true
    | some mv => s.moves.queue.any (fun m => m.id = mv && m.crane = some c))
    && (match (s.crane c).hook with
        | .stock id =>
          (s.stockRec id).any (fun x => x.loc = .hook c)
            && ((s.crane c).move.isNone || ((s.crane c).move.bind s.move).any (fun m => m.load = .stock id))
        | _ => true)

/-- The optional fields of a record follow its state, and its location does too (R8, R9, Table 1-3). -/
def State.recOk (s : State) (x : StockRec) : Bool :=
  (match x.move with
    | none => x.state ≠ .moving
    | some mv => (x.state = .moving || x.state = .held) && s.moves.queue.any (fun m => m.id = mv && m.load = .stock x.id))
    && x.before ≠ some .moving && x.before ≠ some .held
    && (match x.loc with
        | .slot r _ =>
          x.state ≠ .held && (x.state ≠ .reserved || s.kindOf r.zone = .stock || s.kindOf r.zone = .rack)
        | .hook c => x.state ≠ .reserved && (s.crane c).hook = .stock x.id)

/-- A table's reservation names a record RESERVED for it (Table 4-1, R28); an ABSENT table, and every table in SETUP, has
neither program nor claim. -/
def State.claimOk (s : State) (t : TableId) : Bool :=
  (match (s.tab t).claim with
    | .reserved id => (s.stockRec id).any (fun x => x.state = .reserved && x.table = some t)
    | _ => true)
    && (((s.tab t).state ≠ .absent && s.hall.mode ≠ .setup) || ((s.tab t).claim = .none && (s.tab t).active.isNone))

/-- Everything the stock table, the move queue, the cranes and the reservations hold of one another between two steps
(R8 to R11, R160 to R167). In SETUP no move is queued and no table waits for a plate. -/
def State.stockSound (s : State) : Prop :=
  s.work = [] ∧ s.stockNumbersOk
    ∧ (∀ z : Zone, ∀ n : Fin 16, s.slotOk { zone := z, slot := n } = true ∧ s.lockOk { zone := z, slot := n } = true)
    ∧ (s.stock.recs.all s.recOk) = true
    ∧ (s.moves.queue.map MoveRec.id).Nodup ∧ s.moves.queue.length ≤ Config.maxMoves
    ∧ (1 ≤ s.moves.cursor ∧ s.moves.cursor ≤ Config.lastMoveId)
    ∧ (s.moves.queue.all s.moveOk) = true
    ∧ (∀ c : CraneId, s.craneOk c = true) ∧ (∀ t : TableId, s.claimOk t = true)
    ∧ (s.alloc.waits.all (fun e => (s.tab e.table).state ≠ .absent)) = true
    ∧ (s.hall.mode = .setup → s.moves.queue = [] ∧ s.alloc.waits = [])

/-! ## Between two steps -/

/-- Nothing of a handling is left over: no work, no stock-change event owed (R13), and every beacon follows its source
(R213). -/
def State.settled (s : State) : Prop := s.work = [] ∧ s.stock.changed = false ∧ s.followBeacons = s

/-- What every step leaves: nothing of a handling, the beacons following their sources unless the reset pin is held. -/
def State.between (s : State) : Prop :=
  s.work = [] ∧ s.stock.changed = false ∧ (s.hall.inReset = true ∨ s.followBeacons = s)

/-- A request can be taken: the reset pin is released, and the command is the request in hand (R204, R216). -/
def State.takes (s : State) (i : Instr) : Prop := s.hall.inReset = false ∧ s.asked i = true

end Sys2Proof.Machine
end

