-- ==== Sys2Proof/Certificates/Slice0/Obligations.lean ====
section
/-! DEFINITION. The statements for the provers, in the order of OBLIGATIONS.json. -/

open Sys2Proof Sys2Proof.Machine

/-! ## Steps, requests in hand, and what every step keeps -/

/-- A step takes the command at the front of the queue, with the queue's rest left waiting. -/
def Obligations.StepTakesTheFront : Prop :=
  ∀ (c : Instr) (rest : List Instr) (s : State),
    step { s with pending := c :: rest } = exec c { s with pending := rest }

/-- With no command waiting, a millisecond of the timebase passes and what has become due joins the queue: each timer whose
expiry has come, the end of an answer window, the turn of a free line that has something to send, the walk of a stock-change
event, a dispatch attempt, the request in hand, and the transmitter with something to send; and nothing else joins it. While
the reset pin is held nothing happens. This is the model's choice (log entry 5). -/
def Obligations.IdleStepPassesAMillisecond : Prop :=
  ∀ s : State, s.pending = [] →
    (s.hall.inReset = false → ∃ d : List Instr,
      step s = .next { s with now := s.now + 1, pending := d }
      ∧ (s.hall.nextSecond ≤ s.now + 1 → .hallClockTick ∈ d)
      ∧ (∀ n e, (s.beacon n).toggle = some e → e ≤ s.now + 1 → .beaconPatternToggle n ∈ d)
      ∧ (∀ t e, (s.tab t).timer = some e → e ≤ s.now + 1 → .contourTimerExpiry t ∈ d)
      ∧ (∀ c e, (s.crane c).timer = some e → e ≤ s.now + 1 → .phaseTimerExpiry c ∈ d)
      ∧ (∀ c e, s.composer.ctx = some c → c.timer = some e → e ≤ s.now + 1 → .echoTimerExpiry ∈ d)
      ∧ (∀ z e, (s.guard z).state = .settling e → e ≤ s.now + 1 → .settleExpiry z ∈ d)
      ∧ (0 < s.stock.events → .waitListWalk ∈ d)
      ∧ (0 < s.moves.attempts → .dispatchAttempt ∈ d)
      ∧ (∀ w, s.line.window = some w → w.expiry ≤ s.now + 1 →
          (w.kind = .command → .fieldAnswerTimeout ∈ d) ∧ (w.kind = .offer → .offerWindowTimeout ∈ d)
          ∧ (w.kind = .pass → .passThroughTimeout false ∈ d))
      ∧ (s.line.window = none → (∃ v, s.cmdReady v = true) → (s.line.turn = .command ∨ ∀ v, s.offerReady v = false) →
          .lineCommandTurn ∈ d)
      ∧ (s.line.window = none → (∃ v, s.offerReady v = true) → (s.line.turn = .offer ∨ ∀ v, s.cmdReady v = false) →
          .lineOfferTurn ∈ d)
      ∧ (∀ f rest, s.host.hand = .untaken → s.host.buffer = f :: rest → decodeFrame f ∈ d)
      ∧ (((∃ r, s.host.hand = .ready r) ∨ s.host.reports ≠ []) → .transmitterFree ∈ d)
      ∧ (∀ i ∈ d,
          (i = .hallClockTick ∧ s.hall.nextSecond ≤ s.now + 1)
          ∨ (∃ n e, i = .beaconPatternToggle n ∧ (s.beacon n).toggle = some e ∧ e ≤ s.now + 1)
          ∨ (∃ t e, i = .contourTimerExpiry t ∧ (s.tab t).timer = some e ∧ e ≤ s.now + 1)
          ∨ (∃ c e, i = .phaseTimerExpiry c ∧ (s.crane c).timer = some e ∧ e ≤ s.now + 1)
          ∨ (∃ c e, i = .echoTimerExpiry ∧ s.composer.ctx = some c ∧ c.timer = some e ∧ e ≤ s.now + 1)
          ∨ (∃ z e, i = .settleExpiry z ∧ (s.guard z).state = .settling e ∧ e ≤ s.now + 1)
          ∨ (i = .waitListWalk ∧ 0 < s.stock.events) ∨ (i = .dispatchAttempt ∧ 0 < s.moves.attempts)
          ∨ (∃ w, s.line.window = some w ∧ w.expiry ≤ s.now + 1 ∧ (i = .fieldAnswerTimeout ∧ w.kind = .command
              ∨ i = .offerWindowTimeout ∧ w.kind = .offer ∨ i = .passThroughTimeout false ∧ w.kind = .pass))
          ∨ (i = .lineCommandTurn ∧ s.line.window = none ∧ (∃ v, s.cmdReady v = true)
              ∧ (s.line.turn = .command ∨ ∀ v, s.offerReady v = false))
          ∨ (i = .lineOfferTurn ∧ s.line.window = none ∧ (∃ v, s.offerReady v = true)
              ∧ (s.line.turn = .offer ∨ ∀ v, s.cmdReady v = false))
          ∨ (∃ f rest, s.host.hand = .untaken ∧ s.host.buffer = f :: rest ∧ i = decodeFrame f)
          ∨ (i = .transmitterFree ∧ ((∃ r, s.host.hand = .ready r) ∨ s.host.reports ≠ []))))
    ∧ (s.hall.inReset = true → step s = .next s)

/-- Every command answers a next state, and leaves the queue of waiting commands as it finds it. -/
def Obligations.EveryCommandGoesOn : Prop :=
  ∀ (i : Instr) (s : State), ∃ t : State, exec i s = .next t ∧ t.pending = s.pending

/-- Asserting the reset pin silences both lines and darkens every beacon output, and while the pin is held no request is
taken (R204). That the settings and all other state are kept, and that every other command but the two of the pin itself
changes nothing while it is held, is the model's choice (log entries 15 and 2). -/
def Obligations.ResetPinHoldsThePart : Prop :=
  ∀ s : State,
    (∃ t : State, exec .resetPinAsserted s = .next t
      ∧ (∀ n : OutputId, t.beacon n = { s.beacon n with running := false, lit := false, toggle := none })
      ∧ t = { s with
          hall := { s.hall with inReset := true, beacons := t.hall.beacons }
          line := { s.line with window := none, sent := none }
          host := { s.host with sending := none } })
    ∧ (s.hall.inReset = true → ∀ i : Instr, i ≠ .resetPinAsserted → (∀ a b c d e, i ≠ .powerOnReset a b c d e) →
        exec i s = .next s)

/-- Every well-formed request is read back from its frame with every field as it was given (Tables 12-5, 12-7 to 12-10;
the layouts of the other bodies are log entry 3). -/
def Obligations.RequestsReadBack : Prop :=
  ∀ (i : Instr) (tag : Byte) (f : HostFrame),
    wellFormed i = true → encodeFrame i tag = some f → f.unit = 15 ∧ f.tag = tag ∧ decodeFrame f = i

/-- Every request that is refused leaves everything but its reply as it was (the refusals that wait on a field exchange,
of CRANE_RESUME and UNIT_RESTORE, apart). -/
def Obligations.RefusedRequestsChangeNothing : Prop :=
  ∀ (i : Instr) (s t : State) (c : Code) (x : Extra),
    s.takes i → s.settled → (∀ n, i ≠ .craneResume n) → (∀ n, i ≠ .unitRestore n) →
    exec i s = .next t → t.host.hand = .ready (.refuse c x) → t = s.setHand (.ready (.refuse c x))

/-- Every step keeps each guard record in one of the combinations of Table 8-2. -/
def Obligations.StepsKeepGuardCombinations : Prop :=
  ∀ s t : State, s.guardsOk → step s = .next t → t.guardsOk

/-- Every step keeps every SET flag without a waiter (R133). -/
def Obligations.StepsKeepSetFlagsFree : Prop :=
  ∀ s t : State, s.flagsOk → step s = .next t → t.flagsOk

/-- Every step keeps the wear records sound: the count within its bound, the remainder below one unit, and the wear state
what an evaluation makes of count and limit (R99 to R101, R104). -/
def Obligations.StepsKeepWearSound : Prop :=
  ∀ s t : State, s.wearOk → step s = .next t → t.wearOk

/-- Every step keeps the report queue, the receive buffer, the waiting lists of the units and the later-capture count
within their bounds (R190, R192, R211, R215, R219). Every step keeps the stock table sound: ids and age stamps name one
record each, at most 192 records, the counters in their ranges (R5 to R7); the records of a slot at the depths from 0 up, with
the deliveries in flight at most eight in a stack and one in a rack slot or bed (R8, R10, R11); each slot's locks what the
moves in the queue are to do there, never a pick lock beside a delivery (R11); and the records, moves, cranes and reservations
in agreement (R9, R160, R162, R172). -/
def Obligations.StepsKeepBounds : Prop :=
  (∀ s t : State, s.withinBounds → step s = .next t → t.withinBounds)
  ∧ (∀ s t : State, s.stockSound → step s = .next t → t.stockSound)

/-- Every step is one whole handling: it leaves no work and no stock-change event owed, and every beacon follows its
source unless the reset pin is held (00 5.6, R13, R213). How a handling ends is the model's choice (log entry 4). -/
def Obligations.StepsAreWholeHandlings : Prop :=
  ∀ s t : State, s.between → step s = .next t → t.between

/-- The state after power-on reset meets every invariant above, whatever the straps and the hall stop input. -/
def Obligations.PowerOnMeetsTheInvariants : Prop :=
  ∀ (straps : Straps) (stop : Bool) (pending : List Instr),
    (State.powerOn straps stop pending).guardsOk ∧ (State.powerOn straps stop pending).flagsOk
      ∧ (State.powerOn straps stop pending).wearOk ∧ (State.powerOn straps stop pending).withinBounds
      ∧ (State.powerOn straps stop pending).between ∧ (State.powerOn straps stop pending).stockSound

/-! ## The host line (chapter 12) -/

/-- An intact frame (Table 12-7, with its CRC) that arrives while the receiver hunts enters the receive buffer; when the
buffer holds four, it is discarded and RX_OVERRUN is set (R215).
How the characters of the host line are cut into arrivals makes no difference to the receiver (R215).
A gap of more than 20 ms between characters and a bad stop bit abandon the frame being collected; a shorter gap does
nothing (R215). The command carries the time of the gap (log entry 17). That the character with the bad stop bit is itself
dropped, in HUNTING too, is the model's choice (log entry 27). -/
def Obligations.ReceiverTakesIntactFrames : Prop :=
  (∀ (f : HostFrame) (s : State), f.wf = true → s.hall.inReset = false → s.host.collected = [] →
    exec (.hostFrameReceived (hostChars f)) s = .next
      (if s.host.buffer.length < 4 then { s with host := { s.host with buffer := s.host.buffer ++ [f] } }
        else { s with host := { s.host with rxOverrun := true } }))
  ∧ (∀ (a b : List Byte) (s : State), ∃ t : State,
    exec (.hostFrameReceived a) s = .next t ∧ exec (.hostFrameReceived (a ++ b)) s = exec (.hostFrameReceived b) t)
  ∧ (∀ (gap : Nat) (s : State), s.hall.inReset = false →
    (20 < gap → exec (.hostCharGapTimeout gap) s = .next { s with host := { s.host with collected := [] } })
    ∧ (gap ≤ 20 → exec (.hostCharGapTimeout gap) s = .next s)
    ∧ exec .hostCharBadStopBit s = .next { s with host := { s.host with collected := [] } })

/-- A free transmitter sends the ready reply, whose request then leaves the receive buffer; with none ready it sends the
report at the head of the queue; with neither it sends nothing (R216, R217). A reply's frame carries its request's unit field
and tag, and the request's kind as the first byte of its body; a report's carries its class and kind. The codes and bytes that
no table numbers are log entries 3 and 19. -/
def Obligations.TransmitterSendsReplyThenReports : Prop :=
  ∀ s : State, s.hall.inReset = false →
    (∀ r f rest, s.host.hand = .ready r → s.host.buffer = f :: rest →
      exec .transmitterFree s = .next { s with host := { s.host with
        sending := some (.reply f r), buffer := rest, hand := .untaken } }
      ∧ (∀ t, exec .transmitterFree s = .next t → t.txh = some (hostChars (match r with
          | .accept b => { unit := f.unit, kind := 0xE0, tag := f.tag, body := f.kind :: b.bytes }
          | .refuse c x =>
            { unit := f.unit, kind := 0xE1, tag := f.tag, body := [f.kind, byteOf c.number] ++ x.bytes }))))
    ∧ (∀ r rest, (∀ y, s.host.hand ≠ .ready y) → s.host.reports = r :: rest →
      exec .transmitterFree s = .next { s with host := { s.host with sending := some (.report r), reports := rest } }
      ∧ (∀ t, exec .transmitterFree s = .next t → t.txh = some (hostChars
          { unit := 15, kind := 0xE2, tag := 0, body := [byteOf (r.cls.bit + 1), byteOf r.number] ++ r.bytes })))
    ∧ ((∀ y, s.host.hand ≠ .ready y) → s.host.reports = [] →
      exec .transmitterFree s = .next { s with host := { s.host with sending := none } })

/-- A report that is handed over sets the status bit of its class; it is dropped if the class is masked, lost if the
queue holds 48, and else joins the tail of the queue (R218, R219). -/
def Obligations.ReportsAreHandedOver : Prop :=
  ∀ (r : Report) (s : State),
    s.raise r = { s with host := { s.host with
      status := s.host.status ||| (1 : BitVec 8) <<< r.cls.bit
      reports := if s.host.mask.getLsbD r.cls.bit = false ∧ s.host.reports.length < 48 then s.host.reports ++ [r]
        else s.host.reports
      reportLost := s.host.reportLost || (!s.host.mask.getLsbD r.cls.bit && decide (48 ≤ s.host.reports.length)) } }

/-- REPORT_STATUS returns the status bits and clears those named; REPORT_MASK returns the mask and writes the new one;
REPORT_FORCE of class 1 to 8 hands over a TEST report of that class, and any other class is refused with RANGE
(R220). -/
def Obligations.ReportRequestsAnswer : Prop :=
  ∀ s : State,
    (∀ bits, s.takes (.reportStatus bits) →
      exec (.reportStatus bits) s = .next
        (({ s with host := { s.host with status := s.host.status &&& ~~~bits } } : State).accept (.bits s.host.status)))
    ∧ (∀ bits, s.takes (.reportMask bits) →
      exec (.reportMask bits) s = .next
        (({ s with host := { s.host with mask := bits } } : State).accept (.bits s.host.mask)))
    ∧ (∀ c : ReportClass, s.takes (.reportForce (c.bit + 1)) →
      exec (.reportForce (c.bit + 1)) s = .next
        (({ s with host := { s.host with
            status := s.host.status ||| (1 : BitVec 8) <<< c.bit
            reports := if s.host.mask.getLsbD c.bit = false ∧ s.host.reports.length < 48 then
                s.host.reports ++ [.test c]
              else s.host.reports
            reportLost := s.host.reportLost
              || (!s.host.mask.getLsbD c.bit && decide (48 ≤ s.host.reports.length)) } } : State).accept .none))
    ∧ (∀ n, n < 1 ∨ 8 < n → s.takes (.reportForce n) → exec (.reportForce n) s = .next (s.refuse .range))

/-- HALL_STATUS returns what the hall and the host line hold when it is taken, and then clears RX_OVERRUN and REPORT_LOST
(R221). -/
def Obligations.HallStatusAnswers : Prop :=
  ∀ s : State, s.takes .hallStatus →
    exec .hallStatus s = .next
      (({ s with host := { s.host with rxOverrun := false, reportLost := false } } : State).accept (.hall
        { mode := s.hall.mode, stop := s.hall.stop, clock := s.hall.clock, straps := s.hall.straps,
          rxOverrun := s.host.rxOverrun, reportLost := s.host.reportLost, frames := s.host.buffer.length,
          reports := s.host.reports.length, locked := s.hall.fault.held.isSome }))

/-- A frame that stands for no request is refused: a unit field other than 15 and 1 to 6 with RANGE, a kind outside
1 to 57 with UNKNOWN_KIND, and then a body of the wrong length with BAD_LENGTH (R216). -/
def Obligations.UnreadableRequestsAreRefused : Prop :=
  ∀ (f : HostFrame) (s : State), s.takes (.requestUnknownKind f) →
    (f.unit ≠ 15 → exec (.requestUnknownKind f) s = .next (s.refuse .range))
    ∧ (f.unit = 15 → (f.kind.toNat < 1 ∨ 57 < f.kind.toNat) →
        exec (.requestUnknownKind f) s = .next (s.refuse .unknownKind))
    ∧ (f.unit = 15 → 1 ≤ f.kind.toNat → f.kind.toNat ≤ 57 →
        exec (.requestUnknownKind f) s = .next (s.refuse .badLength))

/-! ## Hall Control (chapter 11) -/

/-- Power-on reset samples the straps and the hall stop input and gives every block its power-on values (R203, R204, R23,
R49, R66, R97, R109, R132, R144, R159, R188, R202, R222). The first second of the hall clock ends after 1000 ms (R205); the
HALL_MODE report of the reset sets its class's status bit and no other (R222, R218); nothing is in transmission on either
line. That the first turn of the field line is a command turn is the model's choice (log entry 13), and so is the count of
dispatch attempts and stock-change events due, which starts at 0 (log entry 6), and the timebase from 0 (log entry 5). -/
def Obligations.PowerOnResetStartsTheHall : Prop :=
  ∀ (tsel1 tsel0 csel rsel stop : Bool) (s : State), ∃ t : State,
    exec (.powerOnReset tsel1 tsel0 csel rsel stop) s = .next t
    ∧ t.pending = s.pending ∧ t.work = [] ∧ t.now = 0
    ∧ t.hall = { t.hall with
        mode := .setup, clock := 0, nextSecond := 1000, stop := stop, fault := { held := none, later := 0 },
        inReset := false }
    ∧ t.hall.straps.tsel.val = (if tsel1 then 2 else 0) + (if tsel0 then 1 else 0)
    ∧ t.hall.straps.csel = csel ∧ t.hall.straps.rsel = rsel
    ∧ (∀ n, t.beacon n = { source := .off, pattern := .steady, running := false, lit := false, toggle := none })
    ∧ (∀ z, t.kindOf z = .park) ∧ t.stock.recs = [] ∧ t.stock.idCursor = 61440 ∧ t.stock.seq = 1 ∧ t.stock.events = 0
    ∧ (∀ r, t.lock r = { pick := none, deliveries := 0 })
    ∧ t.alloc = { waits := [], account := { plate := 0, nest := 0, remnant := 0, scrap := 0, count := 0, frozen := false } }
    ∧ (∀ k : TableId, t.tab k =
        { state := if k.val ≤ t.hall.straps.tsel.val then .idle else .absent, cause := none, claim := .none,
          contour := none, timer := none, killAwaited := false,
          cfg := { kerf := 4, trim := 10, minLen := 500, minArea := 25, settle := 5, contourLimit := 900,
                   wearLimit := 20000 },
          wear := { count := 0, rem := 0, state := .ok }, active := none, staged := .empty, swap := false })
    ∧ t.composer = { marks := [], state := .idle, token := 0, queue := [], ctx := none }
    ∧ (∀ f, t.flag f = { value := false, overrun := false, waiters := [] })
    ∧ (∀ z, t.guard z = { state := .free, pending := none, waiter := none })
    ∧ t.moves.queue = [] ∧ t.moves.cursor = 1 ∧ t.moves.spaceWaits = [] ∧ t.moves.attempts = 0
    ∧ (∀ c : CraneId, t.crane c =
        { state := if c = 0 ∨ csel = true then .idle else .absent, cause := none, pos := none, awaited := false,
          move := none, hook := .empty, sensed := .unknown, timer := none, hand := none,
          cfg := { base := 20, perZone := 6, handling := 60 } })
    ∧ (∀ k : TableId, t.unit (tableUnit k) =
        { link := if k.val ≤ t.hall.straps.tsel.val then .online else .absent, fails := 0, out := none, waiting := [],
          restoring := false, strays := 0 })
    ∧ (∀ c : CraneId, t.unit (craneUnit c) =
        { link := if c = 0 ∨ csel = true then .online else .absent, fails := 0, out := none, waiting := [],
          restoring := false, strays := 0 })
    ∧ t.line.window = none ∧ t.line.cmdNext = 0 ∧ t.line.offerNext = 0 ∧ t.line.turn = .command ∧ t.line.pass = none
    ∧ t.line.sent = none
    ∧ t.host.collected = [] ∧ t.host.buffer = [] ∧ t.host.hand = .untaken ∧ t.host.sending = none
    ∧ t.host.reports = [.hallMode .setup stop .powerOn 0] ∧ t.host.mask = 0
    ∧ t.host.status = (1 : BitVec 8) <<< ReportClass.hall.bit
    ∧ t.host.rxOverrun = false ∧ t.host.reportLost = false

/-- The hall clock counts the seconds of the timebase, wrapping from 4,294,967,295 to 0 (R205). -/
def Obligations.HallClockCountsSeconds : Prop :=
  ∀ s : State, s.hall.inReset = false →
    (s.hall.nextSecond ≤ s.now → ∃ t : State, exec .hallClockTick s = .next t
      ∧ t.hall.clock.toNat = (if s.hall.clock.toNat = 4294967295 then 0 else s.hall.clock.toNat + 1)
      ∧ t = { s with hall := { s.hall with clock := t.hall.clock, nextSecond := s.hall.nextSecond + 1000 } })
    ∧ (s.now < s.hall.nextSecond → exec .hallClockTick s = .next s)

/-- The command carries how long the input has held its level (log entry 17). A level of the hall stop input that has not held for 10 ms, and an assertion or release of a stop state that is so
already, change nothing. In SETUP an assertion is recorded and nothing more is done (R206, R207).
The release of the hall stop changes no mode; in RUN and STOPPED it raises HALL_MODE with cause STOP_RELEASED. It is
stated for an empty mark queue, so that the composer takes no table (R207). -/
def Obligations.HallStopInputIsFiltered : Prop :=
  (∀ (ms : Nat) (s : State), s.hall.inReset = false → s.settled →
    (ms < 10 → exec (.hallStopAsserted ms) s = .next s ∧ exec (.hallStopReleased ms) s = .next s)
    ∧ (s.hall.stop = true → exec (.hallStopAsserted ms) s = .next s)
    ∧ (s.hall.stop = false → exec (.hallStopReleased ms) s = .next s)
    ∧ (10 ≤ ms → s.hall.stop = false → s.hall.mode = .setup →
        exec (.hallStopAsserted ms) s = .next ({ s with hall := { s.hall with stop := true } } : State).followBeacons))
  ∧ (∀ (ms : Nat) (s : State), s.hall.inReset = false → s.settled → 10 ≤ ms → s.hall.stop = true → s.composer.queue = [] →
    (s.hall.mode = .setup →
      exec (.hallStopReleased ms) s = .next ({ s with hall := { s.hall with stop := false } } : State).followBeacons)
    ∧ (s.hall.mode ≠ .setup →
      exec (.hallStopReleased ms) s = .next
        ((({ s with hall := { s.hall with stop := false } } : State).raise
          (.hallMode s.hall.mode false .stopReleased s.hall.clock)).followBeacons)))

/-- An assertion of the hall stop in RUN or STOPPED takes the hall to STOPPED, captures HALL_STOP, and stops every block:
each waiting or running table halts with HALL_STOP at its step, its program kept, and one that holds the arc is sent ARC_KILL;
each IDLE or BUSY crane halts with STOP; every IDLE, BUSY or HALTED crane is sent STOP, and a DISPATCHED move of it is STOPPED
with its phase, span and holds kept, every other move as it was; a mark in progress is abandoned; every arc waiter is withdrawn;
HALL_MODE is raised with STOP_ASSERTED (R206, R92, R129, R154, R178). It is stated for settle times above 0 and units with no
waiting commands, so that no zone and no crane move goes on within the same handling. -/
def Obligations.HallStopHaltsTheHall : Prop :=
  ∀ (ms : Nat) (s : State), s.hall.inReset = false → s.settled → 10 ≤ ms → s.hall.stop = false →
    s.hall.mode ≠ .setup → (∀ k, 0 < (s.tab k).cfg.settle) → (∀ u, (s.unit u).waiting = []) →
    ∃ t : State, exec (.hallStopAsserted ms) s = .next t
      ∧ t.hall.mode = .stopped ∧ t.hall.stop = true ∧ t.hall.clock = s.hall.clock
      ∧ (∃ g, t.hall.fault.held = some g ∧ g.cls = .hall)
      ∧ (s.hall.fault.held = none → ∃ g, t.hall.fault.held = some g ∧ g.src = .hall ∧ g.code = .hallStop ∧ g.index = none)
      ∧ (∀ k, (s.tab k).state.runs = true →
          (t.tab k).state = .halted ∧ (t.tab k).cause = some .hallStop ∧ (t.tab k).active = (s.tab k).active
            ∧ (t.tab k).swap = (s.tab k).swap ∧ (t.tab k).contour = none)
      ∧ (∀ k, (s.tab k).state.runs = false → t.tab k = s.tab k)
      ∧ (∀ c, ((s.crane c).state = .idle ∨ (s.crane c).state = .busy) →
          (t.crane c).state = .halted ∧ (t.crane c).cause = some .stop ∧ (t.crane c).hook = (s.crane c).hook
            ∧ (t.crane c).move = (s.crane c).move)
      ∧ (∀ c, (s.crane c).state = .offline ∨ (s.crane c).state = .maintenance ∨ (s.crane c).state = .absent →
          t.crane c = s.crane c)
      ∧ ((s.moves.queue.map MoveRec.id).Nodup →
          t.moves.queue.map MoveRec.id = s.moves.queue.map MoveRec.id
          ∧ (∀ m ∈ s.moves.queue, ∀ c, (s.crane c).move = some m.id →
              ((s.crane c).state = .idle ∨ (s.crane c).state = .busy ∨ (s.crane c).state = .halted) →
              (m.state = .dispatched → t.move m.id = some { m with state := .stopped })
              ∧ (m.state ≠ .dispatched → t.move m.id = some m))
          ∧ (∀ m ∈ s.moves.queue, (∀ c, (s.crane c).move = some m.id →
              (s.crane c).state ≠ .idle ∧ (s.crane c).state ≠ .busy ∧ (s.crane c).state ≠ .halted) →
              t.move m.id = some m))
      ∧ (let sent (u : UnitId) (cmd : FieldCmd) (who : Sender) : Prop := ∃ n : Nat,
          let h : Handed := { cmd := cmd, sender := who, hand := n }
          ((s.unit u).out = none → t.unit u = { s.unit u with out := some { cmd := h, attempt := 1, inFlight := false } })
          ∧ ((s.unit u).out ≠ none → t.unit u = { s.unit u with waiting := [h] })
        let killed (k : TableId) : Prop := ((s.tab k).state = .pierceWait ∨ (s.tab k).state = .cutting)
          ∧ (s.unit (tableUnit k)).link = .online ∧ ∃ c, (s.tab k).contour = some c ∧ c.arcHeld = true
        let stopped (c : CraneId) : Prop := (s.unit (craneUnit c)).link = .online
          ∧ ((s.crane c).state = .idle ∨ (s.crane c).state = .busy ∨ (s.crane c).state = .halted)
        (∀ k, killed k → sent (tableUnit k) .arcKill .sequencer)
        ∧ (∀ k, ¬ killed k → t.unit (tableUnit k) = s.unit (tableUnit k))
        ∧ (∀ c, stopped c → sent (craneUnit c) .stop .cranes)
        ∧ (∀ c, ¬ stopped c → t.unit (craneUnit c) = s.unit (craneUnit c)))
      ∧ (s.host.mask.getLsbD 7 = false → s.host.reports.length < 47 →
          .hallMode .stopped true .stopAsserted s.hall.clock ∈ t.host.reports)
      ∧ t.host.status.getLsbD 7 = true
      ∧ t.composer.ctx = none ∧ t.composer.marks = s.composer.marks ∧ t.composer.token = s.composer.token
      ∧ (∀ z, (t.guard z).waiter = none)
      ∧ t.alloc.account = s.alloc.account ∧ t.stock.map = s.stock.map ∧ t.now = s.now

/-- HALL_RUN is refused out of SETUP with BAD_STATE, then under an asserted stop with STOP_ASSERTED, then with MAP_INVALID
and the failing map test. Accepted, it takes the hall to RUN, raises HALL_MODE with cause HALL_RUN, and hands a
STATUS_QUERY to each fitted crane whose unit is ONLINE; stated for cranes with no command outstanding (R208, R188). -/
def Obligations.HallRunStartsTheHall : Prop :=
  ∀ s : State, s.takes .hallRun → s.settled →
    (s.hall.mode ≠ .setup → exec .hallRun s = .next (s.refuse .badState))
    ∧ (s.hall.mode = .setup → s.hall.stop = true → exec .hallRun s = .next (s.refuse .stopAsserted))
    ∧ (s.hall.mode = .setup → s.hall.stop = false → s.mapTest ≠ .valid →
        exec .hallRun s = .next (s.setHand (.ready (.refuse .mapInvalid (.map s.mapTest)))))
    ∧ (s.hall.mode = .setup → s.hall.stop = false → s.mapTest = .valid →
        (∀ c, (s.unit (craneUnit c)).out = none) →
        ∃ t : State, exec .hallRun s = .next t
          ∧ t.hall.mode = .run ∧ t.hall.stop = false ∧ t.hall.fault = s.hall.fault ∧ t.hall.clock = s.hall.clock
          ∧ t.host = { s.host.report (.hallMode .run false .hallRun s.hall.clock) with
              hand := .ready (.accept (.mapTest .valid)) }
          ∧ (∀ c, (s.unit (craneUnit c)).link = .online → (s.crane c).state ≠ .absent →
              t.crane c = { s.crane c with awaited := true }
              ∧ ∃ n, t.unit (craneUnit c) = { s.unit (craneUnit c) with
                  out := some { cmd := { cmd := .statusQuery, sender := .cranes, hand := n }, attempt := 1,
                                inFlight := false } })
          ∧ (∀ c, ((s.unit (craneUnit c)).link ≠ .online ∨ (s.crane c).state = .absent) →
              t.crane c = s.crane c ∧ t.unit (craneUnit c) = s.unit (craneUnit c))
          ∧ (∀ k, t.unit (tableUnit k) = s.unit (tableUnit k))
          ∧ t.stock = s.stock ∧ t.alloc = s.alloc ∧ t.tables = s.tables ∧ t.composer = s.composer ∧ t.flags = s.flags
          ∧ t.guards = s.guards ∧ t.moves.queue = s.moves.queue ∧ t.now = s.now)

/-- HALL_CONTINUE is refused out of STOPPED with BAD_STATE and under an asserted stop with STOP_ASSERTED. Accepted, it
takes the hall to RUN and raises HALL_MODE with cause HALL_CONTINUE: no table, crane, move, guard or mark changes, and the
first-fault record is kept (R209). -/
def Obligations.HallContinueReturnsToRun : Prop :=
  ∀ s : State, s.takes .hallContinue → s.settled →
    (s.hall.mode ≠ .stopped → exec .hallContinue s = .next (s.refuse .badState))
    ∧ (s.hall.mode = .stopped → s.hall.stop = true → exec .hallContinue s = .next (s.refuse .stopAsserted))
    ∧ (s.hall.mode = .stopped → s.hall.stop = false →
        exec .hallContinue s = .next
          (((({ s with hall := { s.hall with mode := .run } } : State).raise
            (.hallMode .run false .hallContinue s.hall.clock)).accept .none).followBeacons))

/-- HALL_RESET is refused in SETUP with BAD_STATE and with a load on a hook with LOAD_ON_HOOK. Accepted, it returns the hall
to SETUP and raises HALL_MODE with cause HALL_RESET; it keeps the map, marks, account, wear, configurations, clock and
first-fault record, empties programs, lists, queues, locks, flags and guards; makes RESERVED records AVAILABLE without
their table and MOVING records what they were before, RESERVED as AVAILABLE, without their move; discards every waiting field
command but ARC_KILL, STOP and STATUS_QUERY, and then sends ARC_KILL to each ONLINE table unit whose table holds the arc and
STOP to each ONLINE crane unit with a DISPATCHED move (R210, R24, R49, R66, R98, R109, R132, R144, R159, R189, R202, R222). -/
def Obligations.HallResetClearsTheWork : Prop :=
  ∀ s : State, s.takes .hallReset → s.settled →
    (s.hall.mode = .setup → exec .hallReset s = .next (s.refuse .badState))
    ∧ (s.hall.mode ≠ .setup → (∃ c, (s.crane c).hook ≠ .empty) → exec .hallReset s = .next (s.refuse .loadOnHook))
    ∧ (s.hall.mode ≠ .setup → (∀ c, (s.crane c).hook = .empty) → ∃ t : State, exec .hallReset s = .next t
        ∧ t.host.hand = .ready (.accept .none) ∧ t.host.buffer = s.host.buffer ∧ t.host.mask = s.host.mask
        ∧ t.hall.mode = .setup ∧ t.hall.straps = s.hall.straps ∧ t.hall.clock = s.hall.clock
        ∧ t.hall.stop = s.hall.stop ∧ t.hall.fault = s.hall.fault
        ∧ (∀ n, (t.beacon n).source = (s.beacon n).source ∧ (t.beacon n).pattern = (s.beacon n).pattern)
        ∧ t.stock.map = s.stock.map ∧ t.stock.idCursor = s.stock.idCursor ∧ t.stock.seq = s.stock.seq
        ∧ t.stock.events = 0
        ∧ ((∀ x ∈ s.stock.recs, x.state = .moving → x.before ≠ none) →
          t.stock.recs = s.stock.recs.map (fun x => match x.state, x.before with
            | .reserved, _ => { x with state := .available, table := none }
            | .moving, some .reserved => { x with state := .available, before := none, move := none }
            | .moving, some st => { x with state := st, before := none, move := none }
            | _, _ => x))
        ∧ (let kept (u : UnitId) : List Handed := (s.unit u).waiting.filter (fun h =>
            h.cmd = .arcKill || h.cmd = .stop || h.cmd = .statusQuery)
          let sent (u : UnitId) (cmd : FieldCmd) (who : Sender) : Prop := ∃ n : Nat,
            let h : Handed := { cmd := cmd, sender := who, hand := n }
            ((s.unit u).out = none →
              t.unit u = { s.unit u with out := some { cmd := h, attempt := 1, inFlight := false }, waiting := kept u })
            ∧ ((s.unit u).out ≠ none → (kept u).length < 4 → t.unit u = { s.unit u with waiting := h :: kept u })
          let killed (k : TableId) : Prop := (s.tab k).state ≠ .absent ∧ (s.unit (tableUnit k)).link = .online
            ∧ ∃ c, (s.tab k).contour = some c ∧ c.arcHeld = true
          let stopped (c : CraneId) : Prop := (s.unit (craneUnit c)).link = .online
            ∧ ∃ m, (s.crane c).move.bind s.move = some m ∧ m.state = .dispatched
          (∀ k, killed k → sent (tableUnit k) .arcKill .sequencer)
          ∧ (∀ k, ¬ killed k → t.unit (tableUnit k) = { s.unit (tableUnit k) with waiting := kept (tableUnit k) })
          ∧ (∀ c, stopped c → sent (craneUnit c) .stop .cranes)
          ∧ (∀ c, ¬ stopped c → t.unit (craneUnit c) = { s.unit (craneUnit c) with waiting := kept (craneUnit c) }))
        ∧ (s.host.mask.getLsbD 7 = false → s.host.reports.length < 48 →
            ∃ l, t.host.reports = s.host.reports ++ .hallMode .setup s.hall.stop .hallReset s.hall.clock :: l)
        ∧ t.host.status.getLsbD 7 = true
        ∧ (∀ r, t.lock r = { pick := none, deliveries := 0 })
        ∧ t.alloc = { s.alloc with waits := [] }
        ∧ (∀ k, (s.tab k).state ≠ .absent →
            (t.tab k).state = (if (s.tab k).state = .offline then .offline
              else if (s.tab k).state = .maintenance then .maintenance else .idle)
            ∧ (t.tab k).claim = .none ∧ (t.tab k).contour = none ∧ (t.tab k).timer = none
            ∧ (t.tab k).killAwaited = false ∧ (t.tab k).active = none ∧ (t.tab k).staged = .empty
            ∧ (t.tab k).swap = false ∧ (t.tab k).cfg = (s.tab k).cfg ∧ (t.tab k).wear = (s.tab k).wear)
        ∧ t.composer = { s.composer with state := .idle, queue := [], ctx := none }
        ∧ (∀ f, t.flag f = { value := false, overrun := false, waiters := [] })
        ∧ (∀ z, t.guard z = { state := .free, pending := none, waiter := none })
        ∧ t.moves.queue = [] ∧ t.moves.cursor = s.moves.cursor ∧ t.moves.spaceWaits = []
        ∧ (∀ c, t.crane c = { s.crane c with
            state := if (s.crane c).state = .busy ∨ (s.crane c).state = .halted then .idle else (s.crane c).state
            cause := none, move := none, timer := none, hand := none, awaited := false })
        ∧ (∀ u, (t.unit u).link = (s.unit u).link ∧ (t.unit u).fails = (s.unit u).fails
            ∧ (t.unit u).strays = (s.unit u).strays ∧ (t.unit u).restoring = (s.unit u).restoring))

/-- A capture: into an EMPTY record, or over a fault of a lower class, the fault is written with the hall clock and one
FAULT_CAPTURED is raised with the class it replaced; against an equal or higher class the held fault is kept, the
later-capture count rises by 1 up to 255, and no report is raised (R211). -/
def Obligations.FirstFaultRecordKeepsTheMostSerious : Prop :=
  ∀ (cls : FaultClass) (src : FaultSource) (code : FaultCode) (index : Option Nat) (s : State),
    let f : HallFault := { cls := cls, src := src, code := code, clock := s.hall.clock, index := index }
    (s.hall.fault.held = none →
      s.capture cls src code index =
        (({ s with hall := { s.hall with fault := { s.hall.fault with held := some f } } } : State).raise
          (.faultCaptured f none)))
    ∧ (∀ g, s.hall.fault.held = some g → g.cls.rank < cls.rank →
      s.capture cls src code index =
        (({ s with hall := { s.hall with fault := { s.hall.fault with held := some f } } } : State).raise
          (.faultCaptured f (some g.cls))))
    ∧ (∀ g, s.hall.fault.held = some g → cls.rank ≤ g.cls.rank →
      s.capture cls src code index =
        { s with hall := { s.hall with fault := { s.hall.fault with
            later := if s.hall.fault.later < 255 then s.hall.fault.later + 1 else 255 } } })

/-- FAULT_READ returns the record as it stands; with YES (0) the record then becomes EMPTY with count 0, with NO (1)
nothing changes, and any other choice is refused with RANGE (R212). -/
def Obligations.FaultReadAnswers : Prop :=
  ∀ s : State, s.settled →
    (s.takes (.faultRead 0) → exec (.faultRead 0) s = .next
      ((({ s with hall := { s.hall with fault := { held := none, later := 0 } } } : State).accept
        (.fault s.hall.fault)).followBeacons))
    ∧ (s.takes (.faultRead 1) → exec (.faultRead 1) s = .next (s.accept (.fault s.hall.fault)))
    ∧ (∀ n, 1 < n → s.takes (.faultRead n) → exec (.faultRead n) s = .next (s.refuse .range))

/-- BEACON_SET: an output above 7, an unknown source or pattern, or a source whose number is out of range is refused with
RANGE, a source that names an ABSENT table or crane with UNIT_ABSENT. Accepted, the output takes the setting at once, lit
exactly when the source holds, and the reply carries the setting it held before (R213). That the number is disregarded for a
source that has no table, zone or crane, and the order of the sources' numbers, are the model's choice (log entry 3).
At the end of each half period a running pattern turns its output from lit to dark or from dark to lit, 500 ms for
SLOW and 125 ms for FAST (R213). BEACON_QUERY returns each output's source and pattern and whether the source holds, and
changes nothing (R214). -/
def Obligations.BeaconsFollowTheirSources : Prop :=
  (∀ (n src arg pat : Nat) (s : State), s.takes (.beaconSet n src arg pat) → s.settled →
    ((7 < n ∨ beaconSourceOf src arg = none ∨ patternOf pat = none) →
      exec (.beaconSet n src arg pat) s = .next (s.refuse .range))
    ∧ (∀ (o : OutputId) (b : BeaconSource) (p : Pattern), n = o.val → beaconSourceOf src arg = some b →
        patternOf pat = some p →
        (s.sourceAbsent b = true → exec (.beaconSet n src arg pat) s = .next (s.refuse .unitAbsent))
        ∧ (s.sourceAbsent b = false → exec (.beaconSet n src arg pat) s = .next
            ((s.setBeacon o
                { source := b, pattern := p, running := s.sourceHolds b, lit := s.sourceHolds b,
                  toggle := if s.sourceHolds b then p.half.map (fun h => s.now + h) else none }).accept
              (.beaconWas (s.beacon o).source (s.beacon o).pattern)))))
  ∧ ((∀ (n : OutputId) (e : Nat) (s : State), s.hall.inReset = false → (s.beacon n).running = true →
      (s.beacon n).toggle = some e → e ≤ s.now →
      ((s.beacon n).pattern = .slow → exec (.beaconPatternToggle n) s = .next
        (s.setBeacon n { s.beacon n with lit := !(s.beacon n).lit, toggle := some (e + 500) }))
      ∧ ((s.beacon n).pattern = .fast → exec (.beaconPatternToggle n) s = .next
        (s.setBeacon n { s.beacon n with lit := !(s.beacon n).lit, toggle := some (e + 125) })))
  ∧ (∀ s : State, s.takes .beaconQuery → exec .beaconQuery s = .next
      (s.accept (.beacons ((List.finRange 8).map (fun n =>
        ((s.beacon n).source, (s.beacon n).pattern, s.sourceHolds (s.beacon n).source)))))))

/-! ## Hall map and stock (chapter 1) -/

/-- HALL_MAP is refused out of SETUP with BAD_STATE, with an unknown kind or a table outside 1 to 4 with RANGE, and with a
changed zone where a record lies with BAD_STATE. Accepted, its sixteen entries replace the map together (R2). That the table
beside a kind other than TABLE is disregarded, and the numbers of the kinds, are the model's choice (log entry 3).
The map passes its test exactly when each fitted table has one zone, no unfitted table has any, and some zone is STOCK
or RACK; MAP_QUERY returns the map and the result, and changes nothing (R3, R4). -/
def Obligations.HallMapReplacesTheMap : Prop :=
  (∀ (es : List (Nat × Nat)) (s : State), es.length = 16 → s.takes (.hallMap es) → s.settled →
    (s.hall.mode ≠ .setup → exec (.hallMap es) s = .next (s.refuse .badState))
    ∧ (s.hall.mode = .setup → (∃ e ∈ es, 4 < e.1 ∨ (e.1 = 3 ∧ (e.2 < 1 ∨ 4 < e.2))) →
        exec (.hallMap es) s = .next (s.refuse .range))
    ∧ (∀ m : Vector ZoneKind 16, s.hall.mode = .setup → es.map zoneKindOf = m.toList.map some →
        ((∃ z, m.get z ≠ s.kindOf z ∧ s.zoneHolds z = true) → exec (.hallMap es) s = .next (s.refuse .badState))
        ∧ ((∀ z, m.get z ≠ s.kindOf z → s.zoneHolds z = false) →
            exec (.hallMap es) s = .next
              ((({ s with stock := { s.stock with map := m } } : State).accept .none).followBeacons))))
  ∧ (∀ s : State,
    (s.mapTest = .valid ↔
      (∀ k : TableId, k.val ≤ s.hall.straps.tsel.val → (s.zonesOf k).length = 1)
      ∧ (∀ k : TableId, s.hall.straps.tsel.val < k.val → ∀ z, s.kindOf z ≠ .table k)
      ∧ (∃ z, s.kindOf z = .stock ∨ s.kindOf z = .rack))
    ∧ (s.takes .mapQuery → exec .mapQuery s = .next (s.accept (.map s.stock.map s.mapTest))))

/-- STOCK_REGISTER: its tests in order, and the record it creates, with the next age stamp, on top of its stack or in its
rack slot; the counter steps on and a stock-change event follows. A locked slot, and a stack whose top is RESERVED or MOVING,
refuse it with SLOT_LOCKED, a stack of eight and an occupied rack slot with FULL (R16, R7, R10 to R13). That a body with
presence bits 1 to 7 or parent bytes set is taken like one without, and registers no parent, is the model's choice (log entry
20).
The counter of age stamps steps to the first stamp not in use that follows, 1 coming after 4,294,967,295 (R7). The
part-assigned id that comes next is the first not in use from the cursor on, 61440 coming after 65535 (R6). Both are stated
for cursors in their ranges and no more records than the Stock Table holds. Every step keeps ids and age stamps unique, the
records at most 192, and the two counters in their ranges, the stamp counter off every stamp in use (R5 to R7). -/
def Obligations.StockRegisterCreatesARecord : Prop :=
  (∀ (b : StockBody) (s : State), s.takes (.stockRegister b) → s.settled →
    ((stockBodyOk b = false ∨ s.slotRef b.zone b.slot = none
        ∨ (∃ r, s.slotRef b.zone b.slot = some r ∧ s.kindOf r.zone ≠ .stock ∧ s.kindOf r.zone ≠ .rack)) →
      exec (.stockRegister b) s = .next (s.refuse .range))
    ∧ (∀ r, stockBodyOk b = true → s.slotRef b.zone b.slot = some r →
        (s.kindOf r.zone = .stock ∨ s.kindOf r.zone = .rack) →
        (s.idUsed b.id = true → exec (.stockRegister b) s = .next (s.refuse .duplicate))
        ∧ (s.idUsed b.id = false → 192 ≤ s.stock.recs.length → exec (.stockRegister b) s = .next (s.refuse .full))
        ∧ (s.idUsed b.id = false → s.stock.recs.length < 192 → (s.lock r).pick ≠ none →
            exec (.stockRegister b) s = .next (s.refuse .slotLocked))
        ∧ (s.idUsed b.id = false → s.stock.recs.length < 192 → (s.lock r).pick = none → (s.lock r).deliveries ≠ 0 →
            exec (.stockRegister b) s = .next (s.refuse .slotLocked))
        ∧ (s.idUsed b.id = false → s.stock.recs.length < 192 → s.lock r = { pick := none, deliveries := 0 } →
            s.kindOf r.zone = .stock →
            (∀ y, s.slotTop r = some y → (y.state = .reserved ∨ y.state = .moving) →
              exec (.stockRegister b) s = .next (s.refuse .slotLocked))
            ∧ ((∀ y, s.slotTop r = some y → y.state ≠ .reserved ∧ y.state ≠ .moving) → 8 ≤ (s.slotRecs r).length →
              exec (.stockRegister b) s = .next (s.refuse .full)))
        ∧ (s.idUsed b.id = false → s.stock.recs.length < 192 → s.lock r = { pick := none, deliveries := 0 } →
            s.kindOf r.zone = .rack → s.slotRecs r ≠ [] → exec (.stockRegister b) s = .next (s.refuse .full))
        ∧ (s.idUsed b.id = false → s.stock.recs.length < 192 → s.lock r = { pick := none, deliveries := 0 } →
            (s.kindOf r.zone = .rack ∧ s.slotRecs r = []
              ∨ s.kindOf r.zone = .stock ∧ (s.slotRecs r).length < 8
                ∧ ∀ y, s.slotTop r = some y → y.state ≠ .reserved ∧ y.state ≠ .moving) →
            let x : StockRec :=
              { id := b.id, kind := if b.kind = 0 then .plate else .remnant, grade := b.grade, thick := b.thick,
                len := b.len, wid := b.wid, heat := if b.presence % 2 = 1 then some b.heat else none, parent := none,
                gen := b.gen, age := s.stock.seq, loc := .slot r (s.slotRecs r).length, state := .available,
                table := none, before := none, move := none }
            exec (.stockRegister b) s = .next
              (({ s with stock := { s.stock with
                  recs := s.stock.recs ++ [x], seq := s.countAge.stock.seq, events := s.stock.events + 1 } } : State).accept
                (.registered b.id s.stock.seq
                  (if s.kindOf r.zone = .stock then some (s.slotRecs r).length else none))))))
  ∧ ((∀ s : State, s.stock.recs.length ≤ 192 →
    (1 ≤ s.stock.seq → s.stock.seq ≤ 4294967295 →
      1 ≤ s.countAge.stock.seq ∧ s.countAge.stock.seq ≤ 4294967295
      ∧ (∀ x ∈ s.stock.recs, x.age ≠ s.countAge.stock.seq)
      ∧ (∃ k, s.countAge.stock.seq = (s.stock.seq + k) % 4294967295 + 1
          ∧ ∀ j, j < k → ∃ x ∈ s.stock.recs, x.age = (s.stock.seq + j) % 4294967295 + 1)
      ∧ ((∀ x ∈ s.stock.recs, x.age ≠ s.stock.seq + 1) → s.stock.seq < 4294967295 →
          s.countAge.stock.seq = s.stock.seq + 1)
      ∧ ((∀ x ∈ s.stock.recs, x.age ≠ 1) → s.stock.seq = 4294967295 → s.countAge.stock.seq = 1))
    ∧ (61440 ≤ s.stock.idCursor → s.stock.idCursor ≤ 65535 →
      61440 ≤ s.partId ∧ s.partId ≤ 65535 ∧ (∀ x ∈ s.stock.recs, x.id ≠ s.partId)
      ∧ (∃ k, s.partId = 61440 + (s.stock.idCursor - 61440 + k) % 4096
          ∧ ∀ j, j < k → ∃ x ∈ s.stock.recs, x.id = 61440 + (s.stock.idCursor - 61440 + j) % 4096)
      ∧ ((∀ x ∈ s.stock.recs, x.id ≠ s.stock.idCursor) → s.partId = s.stock.idCursor)))
  ∧ (∀ s t : State, s.stockNumbersOk → step s = .next t → t.stockNumbersOk))

/-- STOCK_QUARANTINE and STOCK_RELEASE: NOT_FOUND for an id of no record, BAD_STATE for a record in another state; an
AVAILABLE record becomes QUARANTINED where it lies; a QUARANTINED one becomes AVAILABLE with a stock-change event, or
ON_BED without one when it lies on a bed (R15, R18, R19).
STOCK_REMOVE: a record RESERVED, MOVING or ON_BED is refused with BAD_STATE, an inaccessible one with NOT_ACCESSIBLE,
one under a pick lock with SLOT_LOCKED. An AVAILABLE or QUARANTINED record off the beds is freed with one stock-change
event; a HELD record without a move is freed from its hook, and a dispatch attempt is due (R15, R17, R13). -/
def Obligations.StockRequestsChangeOneRecord : Prop :=
  (∀ (id : Nat) (s : State), s.settled →
    (s.takes (.stockQuarantine id) →
      (s.stockRec id = none → exec (.stockQuarantine id) s = .next (s.refuse .notFound))
      ∧ (∀ x, s.stockRec id = some x →
        (x.state ≠ .available → exec (.stockQuarantine id) s = .next (s.refuse .badState))
        ∧ (x.state = .available → exec (.stockQuarantine id) s = .next
            (({ s with stock := { s.stock with
                recs := s.stock.recs.map (fun y => if y.id = id then { y with state := .quarantined } else y) } } :
              State).accept .none))))
    ∧ (s.takes (.stockRelease id) →
      (s.stockRec id = none → exec (.stockRelease id) s = .next (s.refuse .notFound))
      ∧ (∀ x, s.stockRec id = some x →
        (x.state ≠ .quarantined → exec (.stockRelease id) s = .next (s.refuse .badState))
        ∧ (x.state = .quarantined → s.onBed x = true → exec (.stockRelease id) s = .next
            (({ s with stock := { s.stock with
                recs := s.stock.recs.map (fun y => if y.id = id then { y with state := .onBed } else y) } } :
              State).accept .none))
        ∧ (x.state = .quarantined → s.onBed x = false → exec (.stockRelease id) s = .next
            (({ s with stock := { s.stock with
                recs := s.stock.recs.map (fun y => if y.id = id then
                  { y with state := .available, table := none, before := none, move := none } else y)
                events := s.stock.events + 1 } } : State).accept .none)))))
  ∧ (∀ (id : Nat) (s : State), s.takes (.stockRemove id) → s.settled →
    (s.stockRec id = none → exec (.stockRemove id) s = .next (s.refuse .notFound))
    ∧ (∀ x, s.stockRec id = some x →
      ((x.state = .reserved ∨ x.state = .moving ∨ x.state = .onBed) →
        exec (.stockRemove id) s = .next (s.refuse .badState))
      ∧ (∀ r d, (x.state = .available ∨ x.state = .quarantined) → x.loc = .slot r d →
        (d + 1 ≠ (s.slotRecs r).length → exec (.stockRemove id) s = .next (s.refuse .notAccessible))
        ∧ (d + 1 = (s.slotRecs r).length → (s.lock r).pick ≠ none →
            exec (.stockRemove id) s = .next (s.refuse .slotLocked))
        ∧ (d + 1 = (s.slotRecs r).length → (s.lock r).pick = none → s.bedTable r = none →
            exec (.stockRemove id) s = .next
              (({ s with stock := { s.stock with
                  recs := s.stock.recs.filter (fun y => y.id ≠ x.id), events := s.stock.events + 1 } } : State).accept
                .none)))
      ∧ (∀ c, x.state = .held → x.move = none → x.loc = .hook c →
          exec (.stockRemove id) s = .next
            (((({ s with stock := { s.stock with recs := s.stock.recs.filter (fun y => y.id ≠ x.id) } } : State).modCrane
              c (fun k => { k with hook := .empty })).wantAttempt).accept .none))))

/-- STOCK_QUERY returns the record's 32 bytes, each field in its place (Table 12-8), with its slot's locks;
0 in bytes 29 and 30 for a record on a hook is the model's choice (log entry 19). STOCK_LIST returns
from the start index on at most 16 of the matching ids in location order, and where the next index lies: the order holds each
record once, zones and slots rising, depths rising in a slot, the two hooks last. SLOT_QUERY returns a slot's ids from the
bottom and its locks. None changes anything but the reply (R15, R20, R21, R22). The order is stated for depths below the
number of records of their slots, the image for values that their bytes hold. -/
def Obligations.StockQueriesAnswer : Prop :=
  ∀ s : State,
    (∀ x : StockRec, x.id < 65536 → x.grade < 256 → x.thick < 65536 → x.len < 65536 → x.wid < 65536 → x.gen < 256 →
      x.age < 4294967296 → x.depth < 256 → (∀ p, x.parent = some p → p < 65536) → (∀ m, x.move = some m → m < 256) →
      (∀ h, x.heat = some h → h.length = 8 ∧ ∀ d ∈ h, d ≤ 9) →
      let b (i : Nat) : Nat := ((s.stockImage x).getD i 0).toNat
      (s.stockImage x).length = 32 ∧ b 0 * 256 + b 1 = x.id ∧ b 2 = (if x.kind = .plate then 0 else 1) ∧ b 3 = x.grade
      ∧ b 4 * 256 + b 5 = x.thick ∧ b 6 * 256 + b 7 = x.len ∧ b 8 * 256 + b 9 = x.wid
      ∧ b 10 = (if x.heat = none then 0 else 1) + (if x.parent = none then 0 else 2)
      ∧ (∀ h, x.heat = some h → ∀ i, i < 4 → b (11 + i) = h.getD (2 * i) 0 * 16 + h.getD (2 * i + 1) 0)
      ∧ (∀ p, x.parent = some p → b 15 * 256 + b 16 = p) ∧ (x.parent = none → b 15 = 0 ∧ b 16 = 0) ∧ b 17 = x.gen
      ∧ (∀ r d, x.loc = .slot r d → b 18 = r.zone.val ∧ b 19 = r.slot.val ∧ b 24 = d
          ∧ ((s.lock r).pick = none → b 29 = 0) ∧ (∀ m, (s.lock r).pick = some m → m < 256 → b 29 = m)
          ∧ ((s.lock r).deliveries < 256 → b 30 = (s.lock r).deliveries))
      ∧ (∀ c, x.loc = .hook c → b 18 = 255 ∧ b 19 = c.val + 1 ∧ b 24 = 0 ∧ b 29 = 0 ∧ b 30 = 0)
      ∧ ((b 20 * 256 + b 21) * 256 + b 22) * 256 + b 23 = x.age
      ∧ stockStateOf (b 25) = some x.state
      ∧ (x.table = none → b 26 = 255) ∧ (∀ t, x.table = some t → b 26 = t.val + 1)
      ∧ (x.before = none → b 27 = 255) ∧ (∀ st, x.before = some st → stockStateOf (b 27) = some st)
      ∧ (x.move = none → b 28 = 0) ∧ (∀ m, x.move = some m → b 28 = m) ∧ b 31 = 0)
    ∧ ((∀ x ∈ s.stock.recs, ∀ r d, x.loc = .slot r d → d < (s.slotRecs r).length) →
      let place (x : StockRec) : Nat := match x.loc with
        | .slot r _ => r.zone.val * 16 + r.slot.val
        | .hook c => 256 + c.val
      s.locationOrder.Perm s.stock.recs
      ∧ s.locationOrder.Pairwise (fun x y => place x < place y ∨ place x = place y ∧ x.depth ≤ y.depth)
      ∧ (∀ r, (s.slotOrder r).Perm (s.slotRecs r) ∧ (s.slotOrder r).Pairwise (fun x y => x.depth ≤ y.depth))) ∧
    (∀ id, s.takes (.stockQuery id) →
      (s.stockRec id = none → exec (.stockQuery id) s = .next (s.refuse .notFound))
      ∧ (∀ x, s.stockRec id = some x → exec (.stockQuery id) s = .next (s.accept (.stock (s.stockImage x)))))
    ∧ (∀ filter arg start, s.takes (.stockList filter arg start) →
      ((listFilter filter arg = none ∨ 191 < start) →
        exec (.stockList filter arg start) s = .next (s.refuse .range))
      ∧ (∀ p, listFilter filter arg = some p → start ≤ 191 →
        ∃ (ids : List Nat) (next : Option Nat),
          exec (.stockList filter arg start) s = .next (s.accept (.list ids next))
          ∧ ids.length = min 16 ((s.locationOrder.filter p).length - start)
          ∧ (∀ i, i < ids.length → ids[i]? = ((s.locationOrder.filter p)[start + i]?).map StockRec.id)
          ∧ next = (if (s.locationOrder.filter p).length ≤ start + 16 then none else some (start + 16))))
    ∧ (∀ zone slot, s.takes (.slotQuery zone slot) →
      ((s.slotRef zone slot = none ∨ (∃ r, s.slotRef zone slot = some r ∧ s.kindOf r.zone = .output)) →
        exec (.slotQuery zone slot) s = .next (s.refuse .range))
      ∧ (∀ r, s.slotRef zone slot = some r → s.kindOf r.zone ≠ .output →
        exec (.slotQuery zone slot) s = .next (s.accept (.slot ((s.slotOrder r).map StockRec.id) (s.lock r)))))

/-! ## Allocation (chapter 2) -/

/-- The winner of a requirement is a candidate; it is a REMNANT when some REMNANT is a candidate; no candidate of its kind
has a smaller waste, or the same waste with a smaller age stamp. There is no winner exactly when there is no candidate
(R26, R27). -/
def Obligations.WinnerIsTheBestCandidate : Prop :=
  ∀ (q : Requirement) (s : State),
    (s.winner q = none ↔ ∀ y ∈ s.stock.recs, s.candidate q y = false)
    ∧ (∀ x, s.winner q = some x →
        x ∈ s.stock.recs ∧ s.candidate q x = true
        ∧ ((∃ y ∈ s.stock.recs, s.candidate q y = true ∧ y.kind = .remnant) → x.kind = .remnant)
        ∧ (∀ y ∈ s.stock.recs, s.candidate q y = true → y.kind = x.kind →
            waste q x < waste q y ∨ (waste q x = waste q y ∧ x.age ≤ y.age)))

/-- The model counts the stock-change events not yet taken (log entry 6). A stock-change event whose walk finds no winner for any entry leaves everything but the event count; so does a
WAIT_LIST_WALK with no event due. A walk that finds a winner for the only entry, whose plate move the queue takes, takes
the table off the list, makes the record MOVING under that move, and takes the table to PLATE_WAIT with the move as its
OPEN claim (R28, R32, R73, R74, R167). -/
def Obligations.WaitListWalkServesTheTables : Prop :=
  ∀ s : State, s.hall.inReset = false → s.settled →
    (s.stock.events = 0 → exec .waitListWalk s = .next s)
    ∧ (0 < s.stock.events → (∀ e ∈ s.alloc.waits, s.winner e.req = none) →
        exec .waitListWalk s = .next { s with stock := { s.stock with events := s.stock.events - 1 } })
    ∧ (∀ (e : WaitEntry) (x : StockRec) (bed : SlotRef), 0 < s.stock.events → s.alloc.waits = [e] →
        s.winner e.req = some x → (s.stock.recs.map StockRec.id).Nodup → s.bedRef e.table = some bed →
        s.slotRecs bed = [] → s.lock bed = { pick := none, deliveries := 0 } → s.moves.queue.length < 16 →
        (s.tab e.table).state = .allocWait →
        ∃ t : State, exec .waitListWalk s = .next t
          ∧ t.stock.events = s.stock.events - 1
          ∧ t.alloc = { s.alloc with waits := [] }
          ∧ t.stockRec x.id = some { x with
              state := .moving, table := none, before := some .reserved, move := some s.moveId }
          ∧ (∃ m ∈ t.moves.queue, m.id = s.moveId ∧ m.origin = .table e.table ∧ m.load = .stock x.id
              ∧ m.dst = .slot bed ∧ m.state = .queued)
          ∧ t.moves.attempts = s.moves.attempts + 1
          ∧ (t.tab e.table).state = .plateWait
          ∧ (t.tab e.table).claim = .move s.moveId (some x.id) .open
          ∧ (∀ k, k ≠ e.table → t.tab k = s.tab k)
          ∧ (t.lock bed).deliveries = 1)

/-- ALLOC_QUERY, ACCOUNT_READ and ALLOC_PROBE return what they name and change nothing but the reply; ACCOUNT_CLEAR
returns the account as it stood and sets it to 0, not FROZEN (R35, R36, R47, R48). -/
def Obligations.AllocationRequestsAnswer : Prop :=
  ∀ s : State,
    (s.takes .allocQuery → exec .allocQuery s = .next (s.accept (.waits s.alloc.waits)))
    ∧ (s.takes .accountRead → exec .accountRead s = .next (s.accept (.account s.alloc.account)))
    ∧ (s.takes .accountClear → exec .accountClear s = .next
        (({ s with alloc := { s.alloc with account :=
            { plate := 0, nest := 0, remnant := 0, scrap := 0, count := 0, frozen := false } } } : State).accept
          (.account s.alloc.account)))
    ∧ (∀ r, s.takes (.allocProbe r) →
        (reqOk r = false → exec (.allocProbe r) s = .next (s.refuse .range))
        ∧ (reqOk r = true → exec (.allocProbe r) s = .next
            (s.accept (.probe ((s.winner (toReq r)).map (fun x => (x.id, x.len * x.wid - r.len * r.wid)))
              (s.candidates (toReq r) .remnant).length (s.candidates (toReq r) .plate).length))))

/-- A derivation: the used length is U, or L where U is longer; the remnant length is what kerf and trim leave of L, or
0; the remnant is kept exactly when it is at least as long and as large as the configuration asks and its plate's
generation is below 7; and the plate's volume is the sum of nest, remnant and scrap (R39, R40, R41).
The account takes a consumed plate whole or freezes: every sum fits and is added with one plate, or nothing is added
and the account is FROZEN until it is cleared; and its plate volume stays the sum of nest, remnant and scrap (R46).
A REMNANT step that finds the LOADED plate ON_BED derives it: kept, its record is rewritten as the remnant with the next
part-assigned id and stamp; dropped, it is freed with one stock-change event. The account takes the plate, NEST_CONSUMED is
raised, the LOADED plate is removed, and the step ends; without the plate on the bed the table halts with NO_PLATE (R42, R43,
R45, R46, R83). An END step consumes a LOADED plate whole where no REMNANT step ran, and then the table is IDLE, or goes on
with a READY program whose swap is pending (R84, R60). Both are stated where FLAG_SET releases a table to the step. -/
def Obligations.DerivationAccountsForThePlate : Prop :=
  (∀ (c : TableCfg) (x : StockRec) (u : Nat), x.gen ≤ 7 →
    let d := derive c x u
    d.used = min u x.len ∧ (d.clamped = true ↔ x.len < u)
    ∧ (x.len ≤ d.used + c.kerf + c.trim → d.rem = 0)
    ∧ (d.used + c.kerf + c.trim < x.len → d.rem + (d.used + c.kerf + c.trim) = x.len)
    ∧ (d.reason = .none ↔ (c.minLen ≤ d.rem ∧ c.minArea * 10000 ≤ d.rem * x.wid ∧ x.gen < 7))
    ∧ (d.reason = .short ↔ d.rem < c.minLen)
    ∧ (d.reason = .small ↔ (c.minLen ≤ d.rem ∧ d.rem * x.wid < c.minArea * 10000))
    ∧ d.vp = x.len * x.wid * x.thick ∧ d.vn = d.used * x.wid * x.thick
    ∧ d.vr = (if d.reason = .none then d.rem * x.wid * x.thick else 0)
    ∧ d.vp = d.vn + d.vr + d.vs)
  ∧ (∀ (a : Account) (c : TableCfg) (x : StockRec) (u : Nat),
    let d := derive c x u
    (a.frozen = true → a.add d = a)
    ∧ (a.frozen = false → a.plate + d.vp < 2 ^ 64 → a.nest + d.vn < 2 ^ 64 → a.remnant + d.vr < 2 ^ 64 →
        a.scrap + d.vs < 2 ^ 64 → a.count + 1 < 2 ^ 32 →
        a.add d = { plate := a.plate + d.vp, nest := a.nest + d.vn, remnant := a.remnant + d.vr,
                    scrap := a.scrap + d.vs, count := a.count + 1, frozen := false })
    ∧ (a.frozen = false →
        (2 ^ 64 ≤ a.plate + d.vp ∨ 2 ^ 64 ≤ a.nest + d.vn ∨ 2 ^ 64 ≤ a.remnant + d.vr ∨ 2 ^ 64 ≤ a.scrap + d.vs
          ∨ 2 ^ 32 ≤ a.count + 1) →
        a.add d = { a with frozen := true })
    ∧ (a.plate = a.nest + a.remnant + a.scrap →
        (a.add d).plate = (a.add d).nest + (a.add d).remnant + (a.add d).scrap))
  ∧ (∀ (s : State) (t : TableId) (f : FlagId) (rest : List TableId) (a : Active),
    s.takes (.flagSet f.val) → s.settled → (s.flag f).value = false → (s.flag f).waiters = t :: rest →
    (s.tab t).state = .flagWait → (s.tab t).cause = none → (s.tab t).active = some a →
    let reply : Hand := .ready (.accept (.setMade (.released t)))
    let consumed (x : StockRec) (u : Nat) (new : Option Nat) : Report :=
      let d := derive (s.tab t).cfg x u
      .nestConsumed
        { table := t, oldId := x.id, newId := new, used := d.used, rem := d.rem, vp := d.vp, vn := d.vn, vr := d.vr,
          vs := d.vs, mp := massOf d.vp, mn := massOf d.vn, mr := massOf d.vr, ms := massOf d.vs, clamped := d.clamped,
          reason := d.reason, added := !(s.alloc.account.add d).frozen }
    let framed (u : State) : Prop :=
      (∀ k, k ≠ t → u.tab k = s.tab k) ∧ (∀ g, g ≠ f → u.flag g = s.flag g) ∧ u.guards = s.guards ∧ u.moves = s.moves
      ∧ u.composer = s.composer ∧ u.line = s.line ∧ u.now = s.now
      ∧ u.hall = { s.hall with beacons := u.hall.beacons, fault := u.hall.fault }
    (∀ used : Nat, a.steps[a.index + 1]? = some (.remnant used) →
      (∀ x : StockRec, a.loaded = some x.id → s.bedRec t = some x → x.state = .onBed →
        a.steps[a.index + 2]? = some (.waitFlag f.val) →
        let d := derive (s.tab t).cfg x used
        ∃ u : State, exec (.flagSet f.val) s = .next u ∧ framed u
          ∧ u.tab t = { s.tab t with
              active := some { a with index := a.index + 2, loaded := none, remnantRan := true } }
          ∧ u.flag f = { s.flag f with waiters := rest ++ [t] }
          ∧ u.alloc = { s.alloc with account := s.alloc.account.add d }
          ∧ (d.reason = .none →
              u.stock = { s.stock with
                recs := s.stock.recs.map (fun y => if y.id = x.id then
                  { y with id := s.partId, kind := .remnant, len := d.rem, parent := some x.id, gen := x.gen + 1,
                           age := s.stock.seq, state := .onBed } else y)
                idCursor := if s.partId = 65535 then 61440 else s.partId + 1, seq := s.countAge.stock.seq }
              ∧ u.host = { s.host.report (consumed x used (some s.partId)) with hand := reply })
          ∧ (d.reason ≠ .none →
              u.stock = { s.stock with
                recs := s.stock.recs.filter (fun y => y.id ≠ x.id), events := s.stock.events + 1 }
              ∧ u.host = { s.host.report (consumed x used none) with hand := reply }))
      ∧ (s.loadedOnBed t = none →
        ∃ u : State, exec (.flagSet f.val) s = .next u ∧ framed u
          ∧ u.tab t = { s.tab t with
              state := .halted, cause := some .noPlate, active := some { a with index := a.index + 1 } }
          ∧ u.flag f = { s.flag f with waiters := rest } ∧ u.stock = s.stock ∧ u.alloc = s.alloc))
    ∧ (∀ plate : Option StockRec, a.steps[a.index + 1]? = some .finish →
      ((plate = none ∧ (a.loaded = none ∨ a.remnantRan = true ∨ s.loadedOnBed t = none))
        ∨ ∃ x, plate = some x ∧ a.loaded = some x.id ∧ a.remnantRan = false ∧ s.bedRec t = some x ∧ x.state = .onBed
          ∧ s.stockRec x.id = some x ∧ 0 < (s.tab t).cfg.minLen) →
      let told : HostLine := match plate with
        | some x => s.host.report (consumed x x.len none)
        | none => s.host
      let ended (u : State) : Prop := exec (.flagSet f.val) s = .next u ∧ framed u
        ∧ u.stock = (match plate with
          | some x => { s.stock with
              recs := s.stock.recs.filter (fun y => y.id ≠ x.id), events := s.stock.events + 1 }
          | none => s.stock)
        ∧ u.alloc = (match plate with
          | some x => { s.alloc with account := s.alloc.account.add (derive (s.tab t).cfg x x.len) }
          | none => s.alloc)
      ((s.tab t).swap = false → ∃ u : State, ended u
        ∧ u.tab t = { s.tab t with active := none, claim := .none, contour := none, timer := none, state := .idle }
        ∧ u.flag f = { s.flag f with waiters := rest }
        ∧ u.host = { told.report (.tableState t .idle none none none) with hand := reply })
      ∧ (∀ steps, (s.tab t).swap = true → (s.tab t).staged = .ready steps → steps[0]? = some (.waitFlag f.val) →
        ∃ u : State, ended u
        ∧ u.tab t = { s.tab t with
            active := some { steps := steps, index := 0, loaded := none, remnantRan := false }, staged := .empty,
            swap := false }
        ∧ u.flag f = { s.flag f with waiters := rest ++ [t] } ∧ u.host = { told with hand := reply })))

/-! ## Nest programs (chapter 3) -/

/-- The six requests that load and control a program test the table number, then whether the table is fitted, then the
hall mode (R53). PROG_BEGIN opens an EMPTY STAGED slot for 1 to 64 steps; PROG_STEPS writes its steps whole into a LOADING
slot and answers how many positions are written; PROG_DISCARD empties the slot and answers the state it was in (R54, R55,
R61). -/
def Obligations.ProgramsAreLoaded : Prop :=
  ∀ (s : State) (t : TableId) (n first count : Nat) (data : List Byte), s.settled →
    (∀ (i : Instr) (k : Nat), i ∈ [Instr.progBegin k n, .progSteps k first count data, .progCommit k, .progDiscard k,
        .progStart k, .progAbort k] → s.takes i →
      ((k < 1 ∨ 4 < k) → exec i s = .next (s.refuse .range))
      ∧ (k = t.val + 1 → (s.tab t).state = .absent → exec i s = .next (s.refuse .unitAbsent))
      ∧ (k = t.val + 1 → (s.tab t).state ≠ .absent → s.hall.mode = .setup → exec i s = .next (s.refuse .badState)))
    ∧ ((s.tab t).state ≠ .absent → s.hall.mode ≠ .setup →
      (s.takes (.progBegin (t.val + 1) n) →
        ((n < 1 ∨ 64 < n) → exec (.progBegin (t.val + 1) n) s = .next (s.refuse .range))
        ∧ (1 ≤ n → n ≤ 64 →
          (∀ steps, (s.tab t).staged = .ready steps →
            exec (.progBegin (t.val + 1) n) s = .next (s.refuse .stagedOccupied))
          ∧ (∀ ps, (s.tab t).staged = .loading ps → exec (.progBegin (t.val + 1) n) s = .next (s.refuse .badState))
          ∧ ((s.tab t).staged = .empty → exec (.progBegin (t.val + 1) n) s = .next
              ((s.modTab t (fun r => { r with staged := .loading (List.replicate n none) })).accept .none))))
      ∧ (s.takes (.progSteps (t.val + 1) first count data) →
        ((∀ ps, (s.tab t).staged ≠ .loading ps) →
          exec (.progSteps (t.val + 1) first count data) s = .next (s.refuse .badState))
        ∧ (∀ ps, (s.tab t).staged = .loading ps →
          ((63 < first ∨ count < 1 ∨ 8 < count ∨ ps.length < first + count) →
            exec (.progSteps (t.val + 1) first count data) s = .next (s.refuse .range))
          ∧ (first ≤ 63 → 1 ≤ count → count ≤ 8 → first + count ≤ ps.length →
            (parseSteps count data = none →
              exec (.progSteps (t.val + 1) first count data) s = .next (s.refuse .range))
            ∧ (∀ steps, parseSteps count data = some steps →
              ∃ qs : List (Option NestStep), qs.length = ps.length
                ∧ (∀ j, first ≤ j → j < first + count → qs[j]? = (steps[j - first]?).map some)
                ∧ (∀ j, j < first ∨ first + count ≤ j → qs[j]? = ps[j]?)
                ∧ exec (.progSteps (t.val + 1) first count data) s = .next
                    ((s.modTab t (fun r => { r with staged := .loading qs })).accept
                      (.written (qs.filter Option.isSome).length))))))
      ∧ (s.takes (.progDiscard (t.val + 1)) →
        ((s.tab t).staged = .empty → exec (.progDiscard (t.val + 1)) s = .next (s.accept (.staged .empty)))
        ∧ ((s.tab t).staged ≠ .empty → exec (.progDiscard (t.val + 1)) s = .next
            ((s.modTab t (fun r => { r with staged := .empty, swap := false })).accept (.staged
              (match (s.tab t).staged with
                | .empty => .empty
                | .loading _ => .loading
                | .ready _ => .ready))))))

/-- The commit's walk accepts exactly the programs that keep the five program rules: every position written, END the last
step and nowhere else, one PLATE step and before every step that needs it, at most one REMNANT step and no MARK or CONTOUR
after it, every parameter in range and every destination fit for its load. A walk that fails names the first position
whose tests fail, and the first of its tests that does (R56). -/
def Obligations.CommitAcceptsTheProgramRules : Prop :=
  ∀ (s : State) (ps : List (Option NestStep)), ps ≠ [] →
    (∀ steps : List NestStep, s.commitWalk [] ps = .ok steps ↔
      (ps = steps.map some
        ∧ steps.getLast? = some .finish ∧ (∀ i, steps[i]? = some .finish → i + 1 = steps.length)
        ∧ (steps.filter NestStep.isPlate).length = 1
        ∧ (∀ (i : Nat) (x : NestStep), steps[i]? = some x → x.needsPlate = true →
            ∃ (j : Nat) (y : NestStep), j < i ∧ steps[j]? = some y ∧ y.isPlate = true)
        ∧ (steps.filter NestStep.isRemnant).length ≤ 1
        ∧ (∀ (i j : Nat) (x y : NestStep), i < j → steps[i]? = some x → x.isRemnant = true → steps[j]? = some y →
            y.needsWhole = false)
        ∧ (∀ x ∈ steps, stepInRange x = true ∧ s.destFits x = true)))
    ∧ (∀ (i : Nat) (reason : CommitReason), s.commitWalk [] ps = .error (i, reason) →
        ∃ (before : List NestStep) (p : Option NestStep), ps.take i = before.map some ∧ before.length = i
          ∧ ps[i]? = some p ∧ s.commitTest (decide (i + 1 = ps.length)) before p = some reason
          ∧ (∀ j, j < i → ∃ q : Option NestStep, ps[j]? = some q
              ∧ s.commitTest (decide (j + 1 = ps.length)) (before.take j) q = none))

/-- PROG_COMMIT: a slot that is not LOADING is refused with BAD_STATE and a failing walk with PROGRAM_INVALID, its index
and reason; a program that passes is PENDING behind a running one, and HELD_READY on a table that is not IDLE, has a kill
awaited or stands under an asserted stop (R57). PROG_START: its refusals in order (R59). A commit that finds the table
IDLE, and PROG_START, activate the program (R58): one whose first step is WAIT_FLAG on a CLEAR flag leaves the table in
FLAG_WAIT at step 0, at the tail of the flag's waiters (R76, R138), with its TABLE_STATE report (R68). -/
def Obligations.ProgramsStart : Prop :=
  ∀ (s : State) (t : TableId), s.settled → (s.tab t).state ≠ .absent → s.hall.mode ≠ .setup →
    (s.takes (.progCommit (t.val + 1)) →
      ((∀ ps, (s.tab t).staged ≠ .loading ps) → exec (.progCommit (t.val + 1)) s = .next (s.refuse .badState))
      ∧ (∀ ps, (s.tab t).staged = .loading ps →
        (∀ i reason, s.commitWalk [] ps = .error (i, reason) →
          exec (.progCommit (t.val + 1)) s = .next (s.setHand (.ready (.refuse .programInvalid (.program i reason)))))
        ∧ (∀ steps, s.commitWalk [] ps = .ok steps →
          ((s.tab t).active ≠ none → exec (.progCommit (t.val + 1)) s = .next
            ((s.modTab t (fun r => { r with staged := .ready steps, swap := true })).accept (.commit .pending)))
          ∧ ((s.tab t).active = none →
              ((s.tab t).state ≠ .idle ∨ (s.tab t).killAwaited = true ∨ s.hall.stop = true) →
              exec (.progCommit (t.val + 1)) s = .next
                ((s.modTab t (fun r => { r with staged := .ready steps })).accept (.commit .heldReady))))))
    ∧ (s.takes (.progStart (t.val + 1)) →
      ((∀ steps, (s.tab t).staged ≠ .ready steps) → exec (.progStart (t.val + 1)) s = .next (s.refuse .badState))
      ∧ (∀ steps, (s.tab t).staged = .ready steps →
        ((s.tab t).state ≠ .idle → exec (.progStart (t.val + 1)) s = .next (s.refuse .badState))
        ∧ ((s.tab t).state = .idle → s.hall.stop = true →
            exec (.progStart (t.val + 1)) s = .next (s.refuse .stopAsserted))
        ∧ ((s.tab t).state = .idle → s.hall.stop = false → (s.tab t).killAwaited = true →
            exec (.progStart (t.val + 1)) s = .next (s.refuse .busy))))
    ∧ (∀ (i : Instr) (b : Accept) (steps : List NestStep) (f : FlagId), s.takes i →
        ((i = .progCommit (t.val + 1) ∧ b = .commit .started ∧ (s.tab t).active = none
            ∧ ∃ ps, (s.tab t).staged = .loading ps ∧ s.commitWalk [] ps = .ok steps)
          ∨ (i = .progStart (t.val + 1) ∧ b = .none ∧ (s.tab t).staged = .ready steps)) →
        (s.tab t).state = .idle → s.hall.stop = false → (s.tab t).killAwaited = false →
        steps[0]? = some (.waitFlag f.val) → (s.flag f).value = false →
        ∃ u : State, exec i s = .next u
          ∧ u.tab t = { s.tab t with
              active := some { steps := steps, index := 0, loaded := none, remnantRan := false }, staged := .empty,
              swap := false, state := .flagWait, cause := none }
          ∧ (∀ k, k ≠ t → u.tab k = s.tab k)
          ∧ u.flag f = { s.flag f with waiters := (s.flag f).waiters ++ [t] }
          ∧ (∀ g, g ≠ f → u.flag g = s.flag g)
          ∧ u.host = { s.host.report (.tableState t .flagWait (some 0) none none) with hand := .ready (.accept b) }
          ∧ u.hall = s.hall ∧ u.stock = s.stock ∧ u.alloc = s.alloc ∧ u.composer = s.composer ∧ u.guards = s.guards
          ∧ u.moves = s.moves ∧ u.line = s.line ∧ u.now = s.now)

/-- PROG_QUERY returns the program state of a table, and PROG_READ the steps of a slot as PROG_STEPS takes them: an EMPTY
slot is refused with BAD_STATE, and steps past its count with RANGE. Neither changes anything but the reply (R53, R63,
R64; a slot or count that is none of those the rule names is the model's choice, log entry 14).
A step read from its ten bytes is returned by its image with the same values, and an image reads back as the step it
stands for, for values the bytes hold (R55, R64, Table 12-9). -/
def Obligations.ProgramsAreReadBack : Prop :=
  (∀ (s : State) (t : TableId), (s.tab t).state ≠ .absent →
    (s.takes (.progQuery (t.val + 1)) → exec (.progQuery (t.val + 1)) s = .next (s.accept (.program
      { state := (s.tab t).state, cause := if (s.tab t).state = .halted then (s.tab t).cause else none
        inUse := (s.tab t).active.isSome
        count := match (s.tab t).active with
          | some a => a.steps.length
          | none => 0
        index := (s.tab t).active.map Active.index, loaded := (s.tab t).active.bind Active.loaded
        remnantRan := match (s.tab t).active with
          | some a => a.remnantRan
          | none => false
        staged := match (s.tab t).staged with
          | .empty => .empty
          | .loading _ => .loading
          | .ready _ => .ready
        stagedCount := match (s.tab t).staged with
          | .empty => 0
          | .loading ps => ps.length
          | .ready steps => steps.length
        written := match (s.tab t).staged with
          | .empty => 0
          | .loading ps => (ps.filter Option.isSome).length
          | .ready steps => steps.length
        swap := (s.tab t).swap })))
    ∧ (∀ slot first count, s.takes (.progRead (t.val + 1) slot first count) →
        (1 < slot → exec (.progRead (t.val + 1) slot first count) s = .next (s.refuse .range))
        ∧ ((slot = 0 ∧ (s.tab t).active = none ∨ slot = 1 ∧ (s.tab t).staged = .empty) →
            exec (.progRead (t.val + 1) slot first count) s = .next (s.refuse .badState))
        ∧ (∀ ps : List (Option NestStep),
            ((slot = 0 ∧ ∃ a, (s.tab t).active = some a ∧ ps = a.steps.map some)
              ∨ (slot = 1 ∧ ((s.tab t).staged = .loading ps
                  ∨ ∃ steps, (s.tab t).staged = .ready steps ∧ ps = steps.map some))) →
            ((count < 1 ∨ 8 < count ∨ ps.length < first + count) →
              exec (.progRead (t.val + 1) slot first count) s = .next (s.refuse .range))
            ∧ (1 ≤ count → count ≤ 8 → first + count ≤ ps.length →
              ∃ images : List (List Byte), exec (.progRead (t.val + 1) slot first count) s = .next (s.accept (.steps images))
                ∧ images.length = count
                ∧ (∀ j, j < count → images[j]? = (ps[first + j]?).map stepImage)))))
  ∧ (∀ x : NestStep,
    (match x with
      | .plate .allocate r => r.grade < 256 ∧ r.thick < 65536 ∧ r.len < 65536 ∧ r.wid < 65536 ∧ r.pref ≤ 1
      | .plate .adopt r => r.grade < 256 ∧ r.thick < 65536 ∧ r.len < 65536 ∧ r.wid < 65536 ∧ r.pref < 256
      | .waitFlag f => f < 256
      | .setFlag f => f < 256
      | .mark id a b _ => id < 256 ∧ a < 65536 ∧ b < 65536
      | .contour n p => n < 65536 ∧ p < 256
      | .remnant u => u < 65536
      | .move _ tag z sl flag _ => tag < 256 ∧ z < 256 ∧ sl < 256 ∧ (∀ f, flag = some f → f < 255)
      | .finish => True) →
    parseStep (stepImage (some x)) = some x ∧ (stepImage (some x)).length = 10)

/-! ## Table sequencers and wear (chapters 4 and 5) -/

/-- PROG_ABORT is refused with BAD_STATE without a running program and on an OFFLINE table, and with BUSY while a kill is
awaited. Accepted on a table that is HALTED, waits for its bed or waits for a flag, with no reservation and no plate move in
its claim, it takes the table off the flag's waiters, empties the ACTIVE slot with its context, clears swap-pending, and
leaves the table IDLE; STAGED is kept (R62, R89 to R91).
TABLE_RESUME: its refusals in order. RETRY (0) starts the halted step again, and SKIP (1) the step after it, a MOVE
step's claim cleared: where that step is WAIT_FLAG on a CLEAR flag the table enters FLAG_WAIT, at the tail of the flag's
waiters, and the reply names that state. SKIP of a PLATE step is refused with BAD_STATE (R87, R88). -/
def Obligations.ProgramsAreAbortedOrResumed : Prop :=
  (∀ (s : State) (t : TableId), s.takes (.progAbort (t.val + 1)) → s.settled → (s.tab t).state ≠ .absent →
    s.hall.mode ≠ .setup →
    ((s.tab t).active = none → exec (.progAbort (t.val + 1)) s = .next (s.refuse .badState))
    ∧ ((s.tab t).active ≠ none → (s.tab t).state = .offline →
        exec (.progAbort (t.val + 1)) s = .next (s.refuse .badState))
    ∧ ((s.tab t).active ≠ none → (s.tab t).state ≠ .offline → (s.tab t).killAwaited = true →
        exec (.progAbort (t.val + 1)) s = .next (s.refuse .busy))
    ∧ ((s.tab t).active ≠ none → (s.tab t).killAwaited = false →
        ((s.tab t).state = .halted ∨ (s.tab t).state = .bedWait ∨ (s.tab t).state = .flagWait) →
        ((s.tab t).claim = .none ∨ ∃ id st, (s.tab t).claim = .move id none st) →
        ∃ u : State, exec (.progAbort (t.val + 1)) s = .next u
          ∧ u.tab t = { s.tab t with
              active := none, claim := .none, contour := none, timer := none, swap := false, state := .idle,
              cause := none }
          ∧ (∀ k, k ≠ t → u.tab k = s.tab k)
          ∧ (∀ f, u.flag f = if (s.tab t).state = .flagWait then
                { s.flag f with waiters := (s.flag f).waiters.filter (fun w => w ≠ t) }
              else s.flag f)
          ∧ u.host = { s.host.report (.tableState t .idle none none none) with
              hand := .ready (.accept (.tableWas (s.tab t).state)) }
          ∧ u.hall = { s.hall with beacons := u.hall.beacons }
          ∧ u.stock = s.stock ∧ u.alloc = s.alloc ∧ u.composer = s.composer ∧ u.guards = s.guards
          ∧ u.moves = s.moves ∧ u.line = s.line ∧ u.now = s.now))
  ∧ (∀ (s : State) (k mode : Nat), s.takes (.tableResume k mode) → s.settled →
    ((k < 1 ∨ 4 < k ∨ 1 < mode) → exec (.tableResume k mode) s = .next (s.refuse .range))
    ∧ (∀ t : TableId, k = t.val + 1 → mode ≤ 1 →
      ((s.tab t).state = .absent → exec (.tableResume k mode) s = .next (s.refuse .unitAbsent))
      ∧ ((s.tab t).state ≠ .absent → (s.hall.mode = .setup ∨ (s.tab t).state ≠ .halted) →
          exec (.tableResume k mode) s = .next (s.refuse .badState))
      ∧ (s.hall.mode ≠ .setup → (s.tab t).state = .halted →
        (s.hall.stop = true → exec (.tableResume k mode) s = .next (s.refuse .stopAsserted))
        ∧ (s.hall.stop = false → (s.tab t).killAwaited = true → exec (.tableResume k mode) s = .next (s.refuse .busy))
        ∧ (s.hall.stop = false → (s.tab t).killAwaited = false → ∀ (a : Active) (x : NestStep),
            (s.tab t).active = some a → a.steps[a.index]? = some x →
          (mode = 1 → x.isPlate = true → exec (.tableResume k mode) s = .next (s.refuse .badState))
          ∧ ((mode = 1 → x.isPlate = false) → ∀ f : FlagId,
              a.steps[a.index + mode]? = some (.waitFlag f.val) → (s.flag f).value = false →
              ∃ u : State, exec (.tableResume k mode) s = .next u
                ∧ u.tab t = { s.tab t with
                    state := .flagWait, cause := none, active := some { a with index := a.index + mode }
                    claim := match mode, x with
                      | 1, .move .. => .none
                      | _, _ => (s.tab t).claim }
                ∧ (∀ j, j ≠ t → u.tab j = s.tab j)
                ∧ u.flag f = { s.flag f with waiters := (s.flag f).waiters ++ [t] }
                ∧ (∀ g, g ≠ f → u.flag g = s.flag g)
                ∧ u.host = { s.host.report (.tableState t .flagWait (some (a.index + mode)) none a.loaded) with
                    hand := .ready (.accept (.resumed .flagWait)) }
                ∧ u.hall = { s.hall with beacons := u.hall.beacons }
                ∧ u.stock = s.stock ∧ u.alloc = s.alloc ∧ u.composer = s.composer ∧ u.guards = s.guards
                ∧ u.moves = s.moves ∧ u.line = s.line ∧ u.now = s.now)))))

/-- An addition raises the wear count with saturation at 65535, and arc time is carried from one contour to the next in
the remainder; either way the wear state becomes what count and limit make it: DUE at the limit, WARN at seven eighths of
it, else OK. The pierce cost is p times 2 and 3 for every 100 or part of 100 of thickness (R99 to R104).
TABLE_CONFIG writes every present parameter or none, and answers the configuration; a wear limit it carries is
followed by an evaluation with its report. WEAR_RESET is refused with BUSY while the arc is held; accepted, it answers the
record as it stood and clears count and remainder. WEAR_QUERY returns the record and changes nothing (R96, R101, R102,
R106 to R108). The evaluations are stated for a table that neither waits for the arc nor stands in DUE. -/
def Obligations.WearIsChargedAndRead : Prop :=
  ((∀ (s : State) (t : TableId) (n : Nat) (cause : WearCause),
    let c := min ((s.tab t).wear.count + n) 65535
    ((s.addWear t n cause).tab t).wear =
      { count := c, rem := (s.tab t).wear.rem, state := wearStateOf c (s.tab t).cfg.wearLimit })
  ∧ (∀ (s : State) (t : TableId) (a : Nat),
    let sum := (s.tab t).wear.rem + a
    let c := min ((s.tab t).wear.count + sum / 300) 65535
    ((s.addArc t a).tab t).wear = { count := c, rem := sum % 300, state := wearStateOf c (s.tab t).cfg.wearLimit })
  ∧ (∀ count limit : Nat,
    (wearStateOf count limit = .due ↔ limit ≤ count)
    ∧ (wearStateOf count limit = .warn ↔ (count < limit ∧ limit * 7 / 8 ≤ count))
    ∧ (wearStateOf count limit = .ok ↔ (count < limit ∧ count < limit * 7 / 8)))
  ∧ (∀ p k T : Nat, 100 * k < T + 100 → T ≤ 100 * k → pierceCost p T = p * (2 + 3 * k)))
  ∧ (∀ (s : State) (t : TableId), s.settled → (s.tab t).state ≠ .absent →
    let r := s.tab t
    let view : WearView :=
      { count := r.wear.count, rem := r.wear.rem, limit := r.cfg.wearLimit, threshold := r.cfg.wearLimit * 7 / 8,
        state := r.wear.state }
    (∀ p : TableParams, s.takes (.tableConfig (t.val + 1) p) →
      (tableParamsOk p = false → exec (.tableConfig (t.val + 1) p) s = .next (s.refuse .range))
      ∧ (tableParamsOk p = true →
        let cfg : TableCfg :=
          { kerf := p.kerf.getD r.cfg.kerf, trim := p.trim.getD r.cfg.trim, minLen := p.minLen.getD r.cfg.minLen,
            minArea := p.minArea.getD r.cfg.minArea, settle := p.settle.getD r.cfg.settle,
            contourLimit := p.contourLimit.getD r.cfg.contourLimit, wearLimit := p.wearLimit.getD r.cfg.wearLimit }
        (p.wearLimit = none → exec (.tableConfig (t.val + 1) p) s = .next
          ((s.modTab t (fun r => { r with cfg := cfg })).accept (.tableCfg cfg)))
        ∧ (∀ lim, p.wearLimit = some lim → r.state ≠ .pierceWait → r.state ≠ .due →
          let st := wearStateOf r.wear.count lim
          let rep : WearReport :=
            { table := t, state := st, count := r.wear.count, rem := r.wear.rem, limit := lim,
              threshold := lim * 7 / 8, cause := .limit }
          ∃ u : State, exec (.tableConfig (t.val + 1) p) s = .next u
            ∧ u.tab t = { r with cfg := cfg, wear := { r.wear with state := st } }
            ∧ (∀ k, k ≠ t → u.tab k = s.tab k)
            ∧ u.host = { (if st = .warn ∧ r.wear.state ≠ .warn then s.host.report (.wearWarn rep)
                  else if st = .due ∧ r.wear.state ≠ .due then s.host.report (.wearDue rep) else s.host) with
                hand := .ready (.accept (.tableCfg cfg)) }
            ∧ u.stock = s.stock ∧ u.guards = s.guards ∧ u.moves = s.moves ∧ u.line = s.line)))
    ∧ (s.takes (.wearReset (t.val + 1)) →
      ((∃ c, r.contour = some c ∧ c.arcHeld = true) → exec (.wearReset (t.val + 1)) s = .next (s.refuse .busy))
      ∧ ((∀ c, r.contour = some c → c.arcHeld = false) → r.state ≠ .due → 2 ≤ r.cfg.wearLimit →
        exec (.wearReset (t.val + 1)) s = .next
          (((s.modTab t (fun r => { r with wear := { count := 0, rem := 0, state := .ok } })).accept
            (.wear view)).followBeacons)))
    ∧ (s.takes (.wearQuery (t.val + 1)) → exec (.wearQuery (t.val + 1)) s = .next (s.accept (.wear view))))

/-- The grant of the arc hold charges the pierce cost by the thickness of the LOADED plate and hands RUN_CONTOUR to the
table's unit (R80, R103). The unit's ACK takes the table to CUTTING with the contour timer running to its limit; its NAK
halts it with CONTOUR_FAULT, gives the arc hold back, and hands the fault to the first-fault record (R80, R69). It is
stated for a unit with no command waiting and a settle time above 0. -/
def Obligations.ContoursStartWithTheArc : Prop :=
  ∀ (s : State) (t : TableId) (c : Contour), (s.tab t).contour = some c →
    (c.arcHeld = false → (s.tab t).state = .pierceWait → (s.unit (tableUnit t)).link = .online →
      (s.unit (tableUnit t)).out = none →
      ∃ u : State, runArcGranted t s = u
        ∧ (∀ x, (s.tab t).active.bind Active.loaded = some x.id → s.stockRec x.id = some x →
            (u.tab t).wear.count = min ((s.tab t).wear.count + c.pierces * (2 + 3 * ((x.thick + 99) / 100))) 65535)
        ∧ (u.tab t).wear.state = wearStateOf (u.tab t).wear.count (s.tab t).cfg.wearLimit
        ∧ (u.tab t).contour = some { c with arcHeld := true, ackAwaited := true, hand := s.line.nextHand }
        ∧ (u.tab t).state = .pierceWait ∧ (u.tab t).active = (s.tab t).active ∧ (u.tab t).claim = (s.tab t).claim
        ∧ (u.unit (tableUnit t)).out = some
            { cmd := { cmd := .runContour c.number c.pierces, sender := .sequencer, hand := s.line.nextHand },
              attempt := 1, inFlight := false }
        ∧ (∀ k, k ≠ t → u.tab k = s.tab k) ∧ u.guards = s.guards ∧ u.stock = s.stock ∧ u.moves = s.moves)
    ∧ (∀ (o : Outstanding) (e : Nat), s.hall.inReset = false → s.settled → (s.tab t).state = .pierceWait →
        c.ackAwaited = true → c.arcHeld = true → c.hand = o.cmd.hand →
        s.line.window = some { unit := tableUnit t, kind := .command, expiry := e } →
        (s.unit (tableUnit t)).out = some o → (s.unit (tableUnit t)).waiting = [] → o.cmd.sender = .sequencer →
        o.cmd.cmd = .runContour c.number c.pierces →
        (∃ u : State, exec (.ack (t.val + 1) false (.cmd .runContour)) s = .next u
          ∧ u.tab t = { s.tab t with
              contour := some { c with ackAwaited := false }
              timer := some (s.now + 1000 * (s.tab t).cfg.contourLimit), state := .cutting, cause := none }
          ∧ (∀ k, k ≠ t → u.tab k = s.tab k)
          ∧ u.unit (tableUnit t) = { s.unit (tableUnit t) with out := none, fails := 0 }
          ∧ u.line.window = none
          ∧ u.host = s.host.report (.tableState t .cutting ((s.tab t).active.map Active.index) none
              ((s.tab t).active.bind Active.loaded))
          ∧ u.guards = s.guards ∧ u.stock = s.stock ∧ u.moves = s.moves ∧ u.composer = s.composer ∧ u.flags = s.flags)
        ∧ (∀ z, s.tableZone t = some z → (s.guard z).state = .arc → 0 < (s.tab t).cfg.settle →
          ∃ u : State, exec (.nak (t.val + 1) false (.cmd .runContour)) s = .next u
            ∧ u.tab t = { s.tab t with
                contour := none, timer := none, state := .halted, cause := some .contourFault }
            ∧ (∀ k, k ≠ t → u.tab k = s.tab k)
            ∧ u.guard z = { s.guard z with state := .settling (s.now + 1000 * (s.tab t).cfg.settle) }
            ∧ (∀ y, y ≠ z → u.guard y = s.guard y)
            ∧ u.unit (tableUnit t) = { s.unit (tableUnit t) with out := none, fails := 0 }
            ∧ u.line.window = none
            ∧ (s.hall.fault.held = none → u.hall.fault.held = some
                { cls := .unit, src := .table t, code := .contourFault, clock := s.hall.clock,
                  index := (s.tab t).active.map Active.index })
            ∧ u.stock = s.stock ∧ u.moves = s.moves ∧ u.composer = s.composer ∧ u.flags = s.flags))

/-- In CUTTING, CONTOUR_DONE with the number of the contour in flight charges the arc wear, clears the contour and its
timer, gives the arc hold back, and ends the step (R81, R104, R148); it is stated where the next step is WAIT_FLAG on a
CLEAR flag, so that the table goes to FLAG_WAIT. CONTOUR_FAULT, a CONTOUR_DONE with another number, and the expiry of the
contour timer hand ARC_KILL to the table's unit, give the arc hold back, and halt the table with CONTOUR_FAULT or, for the
timer, CONTOUR_TIMEOUT (R81). Out of CUTTING a report is stray (R70). -/
def Obligations.ContoursEnd : Prop :=
  ∀ (s : State) (t : TableId) (e number a code : Nat), s.hall.inReset = false → s.settled →
    (s.line.window = some { unit := tableUnit t, kind := .offer, expiry := e } → (s.tab t).state ≠ .cutting →
      ∀ i ∈ [Instr.contourDone (t.val + 1) false number a, .contourFault (t.val + 1) false number code],
        exec i s = .next { (s.modUnit (tableUnit t) (fun r => { r with strays := min (r.strays + 1) 65535 })) with
          line := { (s.modUnit (tableUnit t) (fun r => { r with strays := min (r.strays + 1) 65535 })).line with
            window := none } })
    ∧ (∀ (c : Contour) (z : Zone), (s.tab t).state = .cutting → (s.tab t).contour = some c → s.tableZone t = some z →
        (s.guard z).state = .arc → 0 < (s.tab t).cfg.settle →
      (∀ (g : Active) (f : FlagId), s.line.window = some { unit := tableUnit t, kind := .offer, expiry := e } →
        c.number = number → (s.tab t).active = some g → g.steps[g.index + 1]? = some (.waitFlag f.val) →
        (s.flag f).value = false →
        ∃ u : State, exec (.contourDone (t.val + 1) false number a) s = .next u
          ∧ (u.tab t).state = .flagWait ∧ (u.tab t).contour = none ∧ (u.tab t).timer = none
          ∧ (u.tab t).active = some { g with index := g.index + 1 }
          ∧ (u.tab t).wear.count = min ((s.tab t).wear.count + ((s.tab t).wear.rem + a) / 300) 65535
          ∧ (u.tab t).wear.rem = ((s.tab t).wear.rem + a) % 300
          ∧ (u.tab t).claim = (s.tab t).claim ∧ (u.tab t).cfg = (s.tab t).cfg ∧ (u.tab t).staged = (s.tab t).staged
          ∧ (∀ k, k ≠ t → u.tab k = s.tab k)
          ∧ u.guard z = { s.guard z with state := .settling (s.now + 1000 * (s.tab t).cfg.settle) }
          ∧ (∀ y, y ≠ z → u.guard y = s.guard y)
          ∧ u.flag f = { s.flag f with waiters := (s.flag f).waiters ++ [t] }
          ∧ u.line = { s.line with window := none }
          ∧ u.stock = s.stock ∧ u.moves = s.moves ∧ u.composer = s.composer)
      ∧ (∀ (i : Instr) (cause : HaltCause) (fc : FaultCode),
        ((cause = .contourFault ∧ fc = .contourFault
            ∧ s.line.window = some { unit := tableUnit t, kind := .offer, expiry := e }
            ∧ (i = .contourFault (t.val + 1) false number code
              ∨ i = .contourDone (t.val + 1) false number a ∧ c.number ≠ number))
          ∨ (cause = .contourTimeout ∧ fc = .contourTimeout ∧ i = .contourTimerExpiry t
              ∧ ∃ x, (s.tab t).timer = some x ∧ x ≤ s.now)) →
        (s.unit (tableUnit t)).link = .online → (s.unit (tableUnit t)).out = none →
        ∃ u : State, exec i s = .next u
          ∧ u.tab t = { s.tab t with contour := none, timer := none, state := .halted, cause := some cause }
          ∧ (∀ k, k ≠ t → u.tab k = s.tab k)
          ∧ u.guard z = { s.guard z with state := .settling (s.now + 1000 * (s.tab t).cfg.settle) }
          ∧ (∀ y, y ≠ z → u.guard y = s.guard y)
          ∧ (u.unit (tableUnit t)).out = some
              { cmd := { cmd := .arcKill, sender := .sequencer, hand := s.line.nextHand }, attempt := 1,
                inFlight := false }
          ∧ (s.hall.fault.held = none → u.hall.fault.held = some
              { cls := .unit, src := .table t, code := fc, clock := s.hall.clock,
                index := (s.tab t).active.map Active.index })
          ∧ u.stock = s.stock ∧ u.moves = s.moves ∧ u.composer = s.composer ∧ u.flags = s.flags))

/-! ## Part marking (chapter 6) -/

/-- MARK_DEFINE creates a READY record, or replaces one; MARK_DELETE removes one; MARK_SERIAL_SET gives one its next serial;
each with its refusals in order, among them BUSY for a record being composed. MARK_QUERY and COMPOSER_QUERY return what
they name and change nothing (R111 to R114, R131). -/
def Obligations.MarkRequestsAnswer : Prop :=
  ∀ s : State,
    (∀ m : MarkBody, s.takes (.markDefine m) →
      let busy : Prop := ∃ c, s.composer.ctx = some c ∧ c.entry.id = m.id
      let new : MarkRec := { id := m.id, text := m.codes, serial := m.serial, heat := decide (m.heat = 0), spent := false }
      (markBodyOk m = false ↔ m.id < 1 ∨ 255 < m.id ∨ m.count < 1 ∨ 20 < m.count ∨ (∃ c ∈ m.codes, 39 < c)
        ∨ (∃ ds, m.serial = some ds ∧ ∃ d ∈ ds, 9 < d) ∨ 1 < m.heat)
      ∧ (markBodyOk m = false → exec (.markDefine m) s = .next (s.refuse .range))
      ∧ (markBodyOk m = true → busy → exec (.markDefine m) s = .next (s.refuse .busy))
      ∧ (markBodyOk m = true → ¬ busy → (∃ k ∈ s.composer.marks, k.id = m.id) →
          exec (.markDefine m) s = .next (({ s with composer := { s.composer with
            marks := s.composer.marks.map (fun k => if k.id = m.id then new else k) } } : State).accept (.defined true)))
      ∧ (markBodyOk m = true → ¬ busy → (∀ k ∈ s.composer.marks, k.id ≠ m.id) →
          (48 ≤ s.composer.marks.length → exec (.markDefine m) s = .next (s.refuse .full))
          ∧ (s.composer.marks.length < 48 → exec (.markDefine m) s = .next
              (({ s with composer := { s.composer with marks := s.composer.marks ++ [new] } } : State).accept
                (.defined false)))))
    ∧ (∀ id, let busy : Prop := ∃ c, s.composer.ctx = some c ∧ c.entry.id = id
      (s.mark id = none →
        (s.takes (.markDelete id) → exec (.markDelete id) s = .next (s.refuse .notFound))
        ∧ (s.takes (.markQuery id) → exec (.markQuery id) s = .next (s.refuse .notFound))
        ∧ (∀ ds, s.takes (.markSerialSet id ds) → exec (.markSerialSet id ds) s = .next (s.refuse .notFound)))
      ∧ (∀ m, s.mark id = some m →
        (s.takes (.markDelete id) →
          (busy → exec (.markDelete id) s = .next (s.refuse .busy))
          ∧ (¬ busy → exec (.markDelete id) s = .next
              (({ s with composer := { s.composer with
                marks := s.composer.marks.filter (fun k => k.id ≠ id) } } : State).accept (.markHeld m.serial m.spent))))
        ∧ (s.takes (.markQuery id) → ∃ w : Bool, (w = true ↔ busy) ∧ exec (.markQuery id) s = .next
            (s.accept (.mark m w (s.composer.queue.filter (fun e => e.id = id)).length)))
        ∧ (∀ ds, s.takes (.markSerialSet id ds) →
          ((∃ d ∈ ds, 9 < d) → exec (.markSerialSet id ds) s = .next (s.refuse .range))
          ∧ ((∀ d ∈ ds, d ≤ 9) → m.serial = none → exec (.markSerialSet id ds) s = .next (s.refuse .badState))
          ∧ ((∀ d ∈ ds, d ≤ 9) → m.serial ≠ none → busy → exec (.markSerialSet id ds) s = .next (s.refuse .busy))
          ∧ ((∀ d ∈ ds, d ≤ 9) → m.serial ≠ none → ¬ busy → exec (.markSerialSet id ds) s = .next
              (({ s with composer := { s.composer with marks := s.composer.marks.map (fun k =>
                if k.id = id then { k with serial := some ds, spent := false } else k) } } : State).accept
                (.markHeld m.serial m.spent))))))
    ∧ (s.takes .composerQuery → exec .composerQuery s = .next (s.accept (.composer
        { state := s.composer.state, token := s.composer.token,
          queue := s.composer.queue.map (fun e => (e.table, e.id))
          mark := s.composer.ctx.map (fun c =>
            { table := c.entry.table, id := c.entry.id, token := c.token, length := c.str.length,
              frames := (c.str.length + 5) / 6, frame := c.frame, resend := c.resend, sticky := c.sticky, used := c.used,
              noHeat := c.noHeat }) })))

/-- A string is cut into frames of six characters, the last holding what is left: the frames joined are the string, and
each frame's check nibble is the sum of its codes, its number and its count modulo 16 (R116). A mark that ends with
SUCCESS raises its four-digit serial by one, and at 9999 leaves it and makes the record SPENT (R126).
A mark in progress: an echo of the frame in hand sends the next frame, and the match mark stays set only while every
echo matches; a rejection, by FRAME_REJECT or by the expiry of the echo timer, sends the frame again once. An echo or
rejection of another token or frame is stray (R121 to R124). It is stated for a marker head's unit that is ONLINE with no
command outstanding.
The echo of the last frame ends a mark: SUCCESS where every echo matched, else MISMARKED; a second rejection of a frame
ends it with FAULT. On SUCCESS with a serial the record's serial is increased; MARK_RESULT is raised; the table's step ends, or
it halts with MISMARK or MARK_FAULT; the composer is IDLE (R122, R123, R125 to R127, R78). At the release of the hall stop input
the idle composer takes the head of its queue: a table whose record is defined and READY is MARKING, its string composed and
MARK_START sent under the next token; one whose record is undefined or SPENT halts (R119, R115, R120). They are stated with
nobody left in the queue. -/
def Obligations.MarksAreExchanged : Prop :=
  ((∀ (token : Nat) (str : List Nat),
    (List.range (frameCount str)).flatMap (fun n => (markFrameOf token str n).chars) = str
    ∧ (∀ n, n < frameCount str → let f := markFrameOf token str n
        f.token = token ∧ f.frame = n ∧ f.count = f.chars.length ∧ 1 ≤ f.count ∧ f.count ≤ 6
        ∧ (n + 1 < frameCount str → f.count = 6) ∧ f.check = (f.chars.sum + n + f.count) % 16))
  ∧ (∀ (m : MarkRec) (a b c d : Nat), m.serial = some [a, b, c, d] → a ≤ 9 → b ≤ 9 → c ≤ 9 → d ≤ 9 →
    let v := 1000 * a + 100 * b + 10 * c + d
    (v = 9999 → m.increase = { m with spent := true })
    ∧ (v < 9999 → ∃ a' b' c' d' : Nat, m.increase = { m with serial := some [a', b', c', d'] }
        ∧ a' ≤ 9 ∧ b' ≤ 9 ∧ c' ≤ 9 ∧ d' ≤ 9 ∧ 1000 * a' + 100 * b' + 10 * c' + d' = v + 1))
  ∧ (∀ m : MarkRec, m.serial = none → m.increase = m))
  ∧ (∀ (s : State) (t : TableId) (c : MarkCtx) (e : Nat), s.hall.inReset = false → s.settled →
    s.composer.ctx = some c → c.entry.table = t → (s.unit (tableUnit t)).link = .online →
    (s.unit (tableUnit t)).out = none →
    let sent (u : State) (k : MarkCtx) : Prop :=
      u.composer = { s.composer with state := .sending, ctx := some { k with timer := none, hand := s.line.nextHand } }
      ∧ (u.unit (tableUnit t)).out = some
          { cmd := { cmd := .markFrame (markFrameOf c.token c.str k.frame), sender := .composer, hand := s.line.nextHand },
            attempt := 1, inFlight := false }
      ∧ u.tables = s.tables ∧ u.host = s.host ∧ u.stock = s.stock ∧ u.moves = s.moves ∧ u.guards = s.guards
      ∧ u.flags = s.flags ∧ u.hall = s.hall
    (s.line.window = some { unit := tableUnit t, kind := .offer, expiry := e } → ∀ (count : Nat) (chars : List Nat),
      ((s.composer.state = .sending ∨ s.composer.state = .echoWait) → c.frame + 1 < frameCount c.str →
        ∃ u : State, exec (.frameEcho (t.val + 1) true c.token c.frame count chars) s = .next u
          ∧ sent u { c with
              frame := c.frame + 1, resend := 0
              sticky := c.sticky && decide (count = (frameChars c.str c.frame).length
                ∧ chars.take count = frameChars c.str c.frame) })
      ∧ ((s.composer.state = .sending ∨ s.composer.state = .echoWait) → c.resend = 0 →
        ∃ u : State, exec (.frameReject (t.val + 1) true c.token c.frame) s = .next u
          ∧ sent u { c with resend := 1, resends := c.resends + 1 })
      ∧ (∀ token frame, token ≠ c.token ∨ frame ≠ c.frame →
        ∀ i ∈ [Instr.frameEcho (t.val + 1) true token frame count chars, .frameReject (t.val + 1) true token frame],
          exec i s = .next { (s.modUnit (tableUnit t) (fun r => { r with strays := min (r.strays + 1) 65535 })) with
            line := { (s.modUnit (tableUnit t) (fun r => { r with strays := min (r.strays + 1) 65535 })).line with
              window := none } }))
    ∧ (∀ x, s.composer.state = .echoWait → c.timer = some x → x ≤ s.now → c.resend = 0 →
        ∃ u : State, exec .echoTimerExpiry s = .next u ∧ sent u { c with resend := 1, resends := c.resends + 1 }))
  ∧ (∀ (s : State) (t : TableId), s.hall.inReset = false → s.settled →
    (∀ (c : MarkCtx) (a : Active) (id x y e : Nat) (onMis : OnMismark), s.composer.ctx = some c → c.entry.table = t →
      s.composer.queue = [] → (s.tab t).state = .marking → (s.tab t).active = some a →
      a.steps[a.index]? = some (.mark id x y onMis) →
      let window : Option Window := some { unit := tableUnit t, kind := .offer, expiry := e }
      let frame (u : State) : Prop := (∀ k, k ≠ t → u.tab k = s.tab k) ∧ u.stock = s.stock ∧ u.moves = s.moves
        ∧ u.guards = s.guards ∧ u.alloc = s.alloc ∧ u.line = { s.line with window := u.line.window }
      let result (u : State) (o : MarkOutcome) : Report := .markResult
        { table := t, id := c.entry.id, outcome := o, used := c.used, after := (u.mark c.entry.id).bind MarkRec.serial,
          noHeat := c.noHeat, frames := frameCount c.str, frame := c.frame, resends := c.resends }
      let idle (u : State) (marks : List MarkRec) : Prop :=
        u.composer = { s.composer with marks := marks, state := .idle, ctx := none }
      (∀ (count : Nat) (chars : List Nat), s.line.window = window →
        (s.composer.state = .sending ∨ s.composer.state = .echoWait) → frameCount c.str ≤ c.frame + 1 →
        let ok : Bool := c.sticky && decide (count = (frameChars c.str c.frame).length
          ∧ chars.take count = frameChars c.str c.frame)
        let marks : List MarkRec := if ok = true ∧ c.used ≠ none then
            s.composer.marks.map (fun m => if m.id = c.entry.id then m.increase else m)
          else s.composer.marks
        ((ok = true ∨ onMis = .go) → ∀ f : FlagId, a.steps[a.index + 1]? = some (.waitFlag f.val) →
          (s.flag f).value = false →
          ∃ u : State, exec (.frameEcho (t.val + 1) true c.token c.frame count chars) s = .next u ∧ frame u ∧ idle u marks
            ∧ u.tab t = { s.tab t with
                state := .flagWait, cause := none, active := some { a with index := a.index + 1 } }
            ∧ u.flag f = { s.flag f with waiters := (s.flag f).waiters ++ [t] } ∧ (∀ g, g ≠ f → u.flag g = s.flag g)
            ∧ u.host = (s.host.report (result u (if ok then .success else .mismarked))).report
                (.tableState t .flagWait (some (a.index + 1)) none a.loaded)
            ∧ u.line.window = none)
        ∧ (ok = false → onMis = .halt →
          ∃ u : State, exec (.frameEcho (t.val + 1) true c.token c.frame count chars) s = .next u ∧ frame u ∧ idle u marks
            ∧ u.tab t = { s.tab t with state := .halted, cause := some .mismark } ∧ u.flags = s.flags
            ∧ (s.hall.fault.held = none → u.hall.fault.held = some
                { cls := .note, src := .table t, code := .mismark, clock := s.hall.clock, index := some a.index })
            ∧ (s.hall.fault.held ≠ none → u.host = (s.host.report (result u .mismarked)).report
                (.tableState t .halted (some a.index) (some .mismark) a.loaded))
            ∧ u.line.window = none))
      ∧ (∀ i : Instr, c.resend ≠ 0 →
        ((i = .frameReject (t.val + 1) true c.token c.frame ∧ s.line.window = window
            ∧ (s.composer.state = .sending ∨ s.composer.state = .echoWait))
          ∨ (i = .echoTimerExpiry ∧ s.composer.state = .echoWait ∧ ∃ n, c.timer = some n ∧ n ≤ s.now)) →
        ∃ u : State, exec i s = .next u ∧ frame u ∧ idle u s.composer.marks
          ∧ u.tab t = { s.tab t with state := .halted, cause := some .markFault } ∧ u.flags = s.flags
          ∧ (s.hall.fault.held = none → u.hall.fault.held = some
              { cls := .unit, src := .table t, code := .markFault, clock := s.hall.clock, index := some a.index })
          ∧ (∀ g, s.hall.fault.held = some g → 2 ≤ g.cls.rank → u.host = (s.host.report (result u .fault)).report
              (.tableState t .halted (some a.index) (some .markFault) a.loaded))))
    ∧ (∀ (ms id x y : Nat) (onMis : OnMismark) (rest : List MarkEntry), 10 ≤ ms → s.hall.stop = true →
      s.composer.state = .idle → s.composer.queue = { table := t, id := id, x := x, y := y, onMis := onMis } :: rest →
      (s.tab t).state = .markWait →
      (∀ m, s.mark id = some m → m.spent = false → (s.unit (tableUnit t)).link = .online →
        (s.unit (tableUnit t)).out = none →
        let heat : Option (List Nat) := (((s.tab t).active.bind Active.loaded).bind s.stockRec).bind StockRec.heat
        let token : BitVec 8 := s.composer.token + 1
        let str : List Nat := m.text ++ (match m.serial with
            | some ds => 36 :: ds
            | none => []) ++ (match m.heat, heat with
            | true, some h => 37 :: h
            | _, _ => [])
        ∃ u : State, exec (.hallStopReleased ms) s = .next u
          ∧ u.composer = { s.composer with
              state := .starting, token := token, queue := rest
              ctx := some
                { entry := { table := t, id := id, x := x, y := y, onMis := onMis }, token := token.toNat, str := str,
                  frame := 0, resend := 0, sticky := true, used := m.serial, noHeat := m.heat && heat.isNone,
                  timer := none, hand := s.line.nextHand, resends := 0 } }
          ∧ u.tab t = { s.tab t with state := .marking, cause := none }
          ∧ (∀ k, k ≠ t → u.tab k = s.tab k)
          ∧ (u.unit (tableUnit t)).out = some
              { cmd := { cmd := .markStart token.toNat x y str.length, sender := .composer, hand := s.line.nextHand },
                attempt := 1, inFlight := false }
          ∧ u.stock = s.stock ∧ u.moves = s.moves ∧ u.guards = s.guards ∧ u.flags = s.flags ∧ u.alloc = s.alloc)
      ∧ (∀ (cause : HaltCause) (a : Active), rest = [] → (s.tab t).active = some a →
        a.steps[a.index]? = some (.mark id x y onMis) →
        ((s.mark id = none ∧ cause = .markUndefined) ∨ ∃ m, s.mark id = some m ∧ m.spent = true ∧ cause = .serialSpent) →
        ∃ u : State, exec (.hallStopReleased ms) s = .next u ∧ u.composer = { s.composer with queue := [] }
          ∧ u.tab t = { s.tab t with state := .halted, cause := some cause } ∧ (∀ k, k ≠ t → u.tab k = s.tab k)
          ∧ u.stock = s.stock ∧ u.moves = s.moves ∧ u.guards = s.guards ∧ u.flags = s.flags ∧ u.line = s.line)))

/-! ## Sync flags (chapter 7) -/

/-- A set of a flag: CLEAR with no waiter, the flag becomes SET; CLEAR with waiters, the head leaves the list and its
table's step ends, the flag staying CLEAR; SET, the overrun mark is set and one FLAG_OVERRUN is raised (R134 to R136).
The flag requests refuse a flag above 15 with RANGE. FLAG_SET makes one set with source HOST and answers its outcome: a
release ends the waiting table's step, stated where the step after it is WAIT_FLAG on the same flag, so that the table
waits again at the tail. FLAG_CLEAR clears value and overrun mark, keeps the waiters, and answers what it cleared.
FLAG_QUERY returns one record, or with 255 (the model's number for ALL, log entry 3) all sixteen, and changes nothing
(R135, R136, R140 to R143). -/
def Obligations.FlagsAreSetAndRead : Prop :=
  (∀ (s : State) (f : FlagId) (source : SetSource),
    ((s.flag f).value = false → (s.flag f).waiters = [] →
      runSetFlag f source s = s.setFlagRec f { s.flag f with value := true })
    ∧ (∀ t rest, (s.flag f).value = false → (s.flag f).waiters = t :: rest →
      runSetFlag f source s = (s.setFlagRec f { s.flag f with waiters := rest }).push [.stepEnd t])
    ∧ ((s.flag f).value = true →
      runSetFlag f source s =
        (s.setFlagRec f { s.flag f with overrun := true }).raise (.flagOverrun f source s.hall.clock)))
  ∧ (∀ (s : State) (n : Nat), s.settled →
    (15 < n →
      (s.takes (.flagSet n) → exec (.flagSet n) s = .next (s.refuse .range))
      ∧ (s.takes (.flagClear n) → exec (.flagClear n) s = .next (s.refuse .range))
      ∧ (n ≠ 255 → s.takes (.flagQuery n) → exec (.flagQuery n) s = .next (s.refuse .range)))
    ∧ (s.takes (.flagQuery 255) → exec (.flagQuery 255) s = .next (s.accept (.flags s.flags.toList)))
    ∧ (∀ f : FlagId,
      (s.takes (.flagSet f.val) →
        ((s.flag f).value = false → (s.flag f).waiters = [] → exec (.flagSet f.val) s = .next
          ((s.setFlagRec f { s.flag f with value := true }).accept (.setMade .set)))
        ∧ ((s.flag f).value = true → exec (.flagSet f.val) s = .next
          (((s.setFlagRec f { s.flag f with overrun := true }).raise (.flagOverrun f .host s.hall.clock)).accept
            (.setMade .overrun)))
        ∧ (∀ (t : TableId) (rest : List TableId) (a : Active), (s.flag f).value = false → (s.flag f).waiters = t :: rest →
            (s.tab t).state = .flagWait → (s.tab t).cause = none → (s.tab t).active = some a →
            a.steps[a.index + 1]? = some (.waitFlag f.val) →
            exec (.flagSet f.val) s = .next
              (((s.setFlagRec f { s.flag f with waiters := rest ++ [t] }).modTab t (fun r =>
                { r with active := some { a with index := a.index + 1 } })).accept (.setMade (.released t)))))
      ∧ (s.takes (.flagClear f.val) → exec (.flagClear f.val) s = .next
          ((s.setFlagRec f { s.flag f with value := false, overrun := false }).accept
            (.flagHeld (s.flag f).value (s.flag f).overrun)))
      ∧ (s.takes (.flagQuery f.val) → exec (.flagQuery f.val) s = .next (s.accept (.flags [s.flag f])))))

/-! ## Zone guard (chapter 8) -/

/-- An arc request is granted from FREE, and from SETTLING with no crane pending; with one pending, or in TRANSIT, the
table becomes the arc waiter (R147). A guard that becomes FREE grants a pending crane first and keeps
the waiter waiting, else grants the arc waiter, else stands empty (R149). At its expiry a settle timer frees its guard
(R150), stated where nobody waits and where a crane is pending whose move still lacks another hold. -/
def Obligations.GuardsArbitrate : Prop :=
  (∀ (g : GuardRec) (t : TableId),
    (g.state = .free → g.afterArcRequest t = { g with state := .arc } ∧ g.arcAnswer = .granted)
    ∧ (∀ e, g.state = .settling e → g.pending = none → g.afterArcRequest t = { g with state := .arc }
        ∧ g.arcAnswer = .granted)
    ∧ (∀ e h, g.state = .settling e → g.pending = some h → g.afterArcRequest t = { g with waiter := some t }
        ∧ g.arcAnswer = .waits)
    ∧ (∀ h, g.state = .transit h → g.afterArcRequest t = { g with waiter := some t } ∧ g.arcAnswer = .waits))
  ∧ (∀ (s : State) (z : Zone),
    (∀ h, (s.guard z).pending = some h → s.guardFree z =
      (s.setGuard z { s.guard z with state := .transit h, pending := none }).push [.transitGranted h.move z])
    ∧ (∀ t, (s.guard z).pending = none → (s.guard z).waiter = some t → s.guardFree z =
      (s.setGuard z { state := .arc, pending := none, waiter := none }).push [.arcGranted t])
    ∧ ((s.guard z).pending = none → (s.guard z).waiter = none → s.guardFree z =
      s.setGuard z { state := .free, pending := none, waiter := none }))
  ∧ (∀ (s : State) (z : Zone) (e : Nat), s.hall.inReset = false → s.settled → (s.guard z).state = .settling e →
    (s.now < e → exec (.settleExpiry z) s = .next s)
    ∧ (e ≤ s.now → (s.guard z).pending = none → (s.guard z).waiter = none → exec (.settleExpiry z) s = .next
        (s.setGuard z { state := .free, pending := none, waiter := none }).followBeacons)
    ∧ (∀ (h : Holder) (m : MoveRec) (k : Hold), e ≤ s.now → (s.guard z).pending = some h → s.move h.move = some m →
        k ∈ m.holds → k.zone ≠ z → k.granted = false →
        exec (.settleExpiry z) s = .next
          ((s.setGuard z { s.guard z with state := .transit h, pending := none }).modMove h.move (fun m => { m with
            holds := m.holds.map (fun y => if y.zone = z then { y with granted := true } else y) })).followBeacons))

/-- GUARD_QUERY refuses a zone above 15 with RANGE and a zone that is no TABLE zone with NOT_FOUND. It returns for one
TABLE zone, or with 255 (the model's number for ALL,
log entry 3) for every one in zone order, the table, the guard's state and transit holder, whether an arc hold
is kept for an OFFLINE table, the rest of a settle time, the pending crane and the arc waiter, and changes nothing
(R157). -/
def Obligations.GuardQueryAnswers : Prop :=
  ∀ s : State,
    let entry (z : Zone) : List GuardView := match s.kindOf z with
      | .table t =>
        [{ zone := z, table := t, state := (s.guard z).state,
           arcKept := decide ((s.guard z).state = .arc ∧ (s.unit (tableUnit t)).link = .offline),
           remaining := match (s.guard z).state with
             | .settling e => some (e - s.now)
             | _ => none
           pending := (s.guard z).pending, waiter := (s.guard z).waiter }]
      | _ => []
    (∀ n, 15 < n → n ≠ 255 → s.takes (.guardQuery n) → exec (.guardQuery n) s = .next (s.refuse .range))
    ∧ (∀ z : Zone, s.takes (.guardQuery z.val) →
        (entry z = [] → exec (.guardQuery z.val) s = .next (s.refuse .notFound))
        ∧ (entry z ≠ [] → exec (.guardQuery z.val) s = .next (s.accept (.guards (entry z)))))
    ∧ (s.takes (.guardQuery 255) →
        exec (.guardQuery 255) s = .next (s.accept (.guards ((List.finRange 16).flatMap entry))))

/-! ## Crane moves (chapter 9) -/

/-- MOVE_POST: refused in SETUP with BAD_STATE, with an unknown or out-of-range field with RANGE; that a BATCH post whose
byte 1 is not 0 is such a field, its tag being read from bytes 1 and 2, is the model's choice (log entry 23). A NONE load joins the
queue with the next id and age, or is refused with FULL. An AVAILABLE record that can be picked, with a destination that
takes it, becomes MOVING under the new move, its slot under a pick lock and the destination with one delivery more. A
dispatch attempt is due (R162 to R164, R166, R167). -/
def Obligations.MovesArePosted : Prop :=
  ∀ (b : PostBody) (s : State), s.takes (.movePost b) → s.settled →
    (s.hall.mode = .setup → exec (.movePost b) s = .next (s.refuse .badState))
    ∧ (s.hall.mode ≠ .setup →
      ((2 < b.load ∨ (b.load = 1 ∧ (b.ref < 1 ∨ 255 < b.ref)) ∨ (15 < b.flag ∧ b.flag ≠ 255) ∨ 1 < b.priority
          ∨ 15 < b.dstZone) →
        exec (.movePost b) s = .next (s.refuse .range))
      ∧ (∀ fl : Option FlagId, (b.flag = 255 ∧ fl = none ∨ ∃ f, fl = some f ∧ b.flag = f.val) → b.priority ≤ 1 →
        (∀ z : Zone, b.load = 2 → b.dstZone = z.val →
          (16 ≤ s.moves.queue.length → exec (.movePost b) s = .next (s.refuse .full))
          ∧ (s.moves.queue.length < 16 → exec (.movePost b) s = .next
            (({ s with moves := { s.moves with
                queue := s.moves.queue ++
                  [{ id := s.moveId, origin := .host, load := .none, src := .none, srcZone := none, dst := .zone z,
                     urgent := decide (b.priority = 1), flag := fl, quarantine := false, state := .queued,
                     phase := none, returning := false, crane := none, span := none, holds := [],
                     age := s.moves.nextAge, mass := none }]
                cursor := if s.moveId = 255 then 1 else s.moveId + 1, nextAge := s.moves.nextAge + 1,
                attempts := s.moves.attempts + 1 } } : State).accept (.moveId s.moveId))))
        ∧ (∀ (x : StockRec) (r d : SlotRef) (n : Nat), b.load = 0 → s.stockRec b.ref = some x → x.state = .available →
            x.loc = .slot r n → n + 1 = (s.slotRecs r).length → s.bedTable r = none →
            s.lock r = { pick := none, deliveries := 0 } → s.slotRef b.dstZone b.dstSlot = some d →
            (s.kindOf d.zone = .stock ∨ s.kindOf d.zone = .rack) → d ≠ r → s.deliveryTest d = none →
            s.moves.queue.length < 16 →
            ∃ u : State, exec (.movePost b) s = .next u
              ∧ u.host = { s.host with hand := .ready (.accept (.moveId s.moveId)) }
              ∧ u.stock.recs = s.stock.recs.map (fun y => if y.id = b.ref then
                  { y with state := .moving, table := none,
                           before := if y.state = .held then none else some y.state, move := some s.moveId } else y)
              ∧ u.lock r = { pick := some s.moveId, deliveries := 0 }
              ∧ u.lock d = { s.lock d with deliveries := (s.lock d).deliveries + 1 }
              ∧ (∀ q, q ≠ r → q ≠ d → u.lock q = s.lock q)
              ∧ u.moves = { s.moves with
                  queue := s.moves.queue ++
                    [{ id := s.moveId, origin := .host, load := .stock b.ref, src := .slot r, srcZone := some r.zone,
                       dst := .slot d, urgent := decide (b.priority = 1), flag := fl, quarantine := false,
                       state := .queued, phase := none, returning := false, crane := none, span := none, holds := [],
                       age := s.moves.nextAge, mass := none }]
                  cursor := if s.moveId = 255 then 1 else s.moveId + 1, nextAge := s.moves.nextAge + 1,
                  attempts := s.moves.attempts + 1 }
              ∧ u.stock.events = s.stock.events ∧ u.tables = s.tables ∧ u.guards = s.guards ∧ u.flags = s.flags
              ∧ u.alloc = s.alloc ∧ u.composer = s.composer ∧ u.line = s.line ∧ u.hall = s.hall)))

/-- MOVE_CANCEL takes a QUEUED move of the host out of the queue, and is refused with NOT_FOUND, OWNED or BAD_STATE
otherwise; stated where no table waits for queue space. A STOCK load's record becomes what it was before the move, AVAILABLE
with a stock-change event, its pick lock is cleared and the destination's delivery taken back. MOVE_QUERY, CRANE_STATUS and
CRANE_CONFIG answer, 0 being the model's number for ALL in MOVE_QUERY (log entry 3); the first two change nothing, the last writes every present parameter or none (R180, R185 to
R187). -/
def Obligations.MoveRequestsAnswer : Prop :=
  ∀ s : State, s.settled →
    (∀ id, s.takes (.moveCancel id) → s.hall.mode ≠ .setup →
      (s.move id = none → exec (.moveCancel id) s = .next (s.refuse .notFound))
      ∧ (∀ m, s.move id = some m →
        (m.origin ≠ .host → exec (.moveCancel id) s = .next (s.refuse .owned))
        ∧ (m.origin = .host → m.state ≠ .queued → exec (.moveCancel id) s = .next (s.refuse .badState))
        ∧ (m.origin = .host → m.state = .queued → s.moves.spaceWaits = [] →
          ((∀ r, m.load ≠ .stock r) → exec (.moveCancel id) s = .next
            (({ s with moves := { s.moves with queue := s.moves.queue.filter (fun k => k.id ≠ id) } } : State).accept
              .none).followBeacons)
          ∧ (∀ (x : StockRec) (r d : SlotRef), m.load = .stock x.id → m.src = .slot r → m.dst = .slot d →
              s.stockRec x.id = some x → x.before = some .available → s.bedTable d = none → d ≠ r →
              (s.lock d).deliveries ≠ 0 →
              ∃ u : State, exec (.moveCancel id) s = .next u
                ∧ u.host = { s.host with hand := .ready (.accept .none) }
                ∧ u.moves.queue = s.moves.queue.filter (fun k => k.id ≠ id)
                ∧ u.stockRec x.id = some { x with state := .available, table := none, before := none, move := none }
                ∧ u.lock r = { s.lock r with pick := none }
                ∧ u.lock d = { s.lock d with deliveries := (s.lock d).deliveries - 1 }
                ∧ u.stock.events = s.stock.events + 1 ∧ u.tables = s.tables ∧ u.guards = s.guards))))
    ∧ (∀ id, s.takes (.moveQuery id) →
      (id = 0 → exec (.moveQuery id) s = .next (s.accept (.moves
        ((s.moves.queue.filter (fun m => m.state = .queued && m.urgent)
          ++ s.moves.queue.filter (fun m => m.state = .queued && !m.urgent)
          ++ s.moves.queue.filter (fun m => m.state ≠ .queued)).map
            (fun m => (m.id, m.origin, m.state, m.phase, m.crane))))))
      ∧ (id ≠ 0 → s.move id = none → exec (.moveQuery id) s = .next (s.refuse .notFound))
      ∧ (∀ m, id ≠ 0 → s.move id = some m → exec (.moveQuery id) s = .next
          (s.accept (.move m ((m.crane.bind (fun c => (s.crane c).timer)).map (fun e => e - s.now))))))
    ∧ (∀ n, s.takes (.craneStatus n) →
      ((n < 1 ∨ 2 < n) → exec (.craneStatus n) s = .next (s.refuse .range))
      ∧ (∀ c : CraneId, n = c.val + 1 →
        ((s.crane c).state = .absent → exec (.craneStatus n) s = .next (s.refuse .unitAbsent))
        ∧ ((s.crane c).state ≠ .absent → exec (.craneStatus n) s = .next (s.accept (.craneView
            { crane := s.crane c, claim := s.claim c, remaining := (s.crane c).timer.map (fun e => e - s.now) })))))
    ∧ (∀ n p, s.takes (.craneConfig n p) →
      ((n < 1 ∨ 2 < n) → exec (.craneConfig n p) s = .next (s.refuse .range))
      ∧ (∀ c : CraneId, n = c.val + 1 →
        ((s.crane c).state = .absent → exec (.craneConfig n p) s = .next (s.refuse .unitAbsent))
        ∧ ((s.crane c).state ≠ .absent →
          (craneParamsOk p = false → exec (.craneConfig n p) s = .next (s.refuse .range))
          ∧ (craneParamsOk p = true →
            let cfg : CraneCfg :=
              { base := p.base.getD (s.crane c).cfg.base, perZone := p.perZone.getD (s.crane c).cfg.perZone,
                handling := p.handling.getD (s.crane c).cfg.handling }
            exec (.craneConfig n p) s = .next ((s.modCrane c (fun r => { r with cfg := cfg })).accept (.craneCfg cfg))))))

/-- A dispatch attempt takes one of the attempts the model counts as due (log entry 6); with no QUEUED move it does no more. A NONE move alone in the queue goes to
the first eligible crane whose span is clear of the other's: the crane is BUSY with it, the move DISPATCHED in TO_DEST, and
GOTO is handed to the crane's unit; stated where the span holds no TABLE zone (R168 to R171). ARRIVED at the source in
TO_SOURCE sets the position, narrows the span, and enters PICKING with a PICK; ARRIVED elsewhere than the target faults
the move (R161, R171, R175). -/
def Obligations.MovesAreDispatched : Prop :=
  (∀ s : State, s.hall.inReset = false → s.settled →
    (s.moves.attempts = 0 → exec .dispatchAttempt s = .next s)
    ∧ (0 < s.moves.attempts → (∀ m ∈ s.moves.queue, m.state ≠ .queued) → exec .dispatchAttempt s = .next
        { s with moves := { s.moves with attempts := s.moves.attempts - 1 } })
    ∧ (∀ (m : MoveRec) (c : CraneId) (rest : List CraneId) (p z : Zone), 0 < s.moves.attempts → s.moves.queue = [m] →
        m.state = .queued → m.load = .none → m.src = .none → m.dst = .zone z → s.cranesFor m = c :: rest →
        (s.crane c).pos = some p → p ≠ z → s.spanClear c (spanFor p m) = true → s.holdSet (spanFor p m) = [] →
        (s.unit (craneUnit c)).link = .online → (s.unit (craneUnit c)).out = none →
        ∃ u : State, exec .dispatchAttempt s = .next u
          ∧ u.moves.attempts = s.moves.attempts - 1
          ∧ u.moves.queue = [{ m with
              crane := some c, span := some (spanFor p m), state := .dispatched, phase := some .toDest, holds := [],
              srcZone := some (m.srcZone.getD p) }]
          ∧ u.crane c = { s.crane c with state := .busy, move := some m.id, timer := none, hand := some s.line.nextHand }
          ∧ (∀ k, k ≠ c → u.crane k = s.crane k)
          ∧ (u.unit (craneUnit c)).out = some
              { cmd := { cmd := .goto z, sender := .cranes, hand := s.line.nextHand }, attempt := 1, inFlight := false }
          ∧ u.guards = s.guards ∧ u.stock = s.stock ∧ u.tables = s.tables ∧ u.host = s.host))
  ∧ (∀ (s : State) (c : CraneId) (m : MoveRec) (e : Nat) (z : Zone) (a : Span), s.hall.inReset = false → s.settled →
      s.line.window = some { unit := craneUnit c, kind := .offer, expiry := e } →
      (s.unit (craneUnit c)).link = .online → (s.unit (craneUnit c)).out = none →
      (s.crane c).move = some m.id → s.move m.id = some m → m.crane = some c → m.state = .dispatched →
      m.phase = some .toSource → m.span = some a → a.has z = true →
    (∀ r : SlotRef, m.src = .slot r → m.srcZone = some z →
      (∀ h ∈ m.holds, ((Span.at z).join m.dst.zoneOf).has h.zone = true) →
      ∃ u : State, exec (.arrived (c.val + 5) false z.val) s = .next u
        ∧ u.crane c = { s.crane c with pos := some z, timer := none, hand := some s.line.nextHand }
        ∧ (∀ k, k ≠ c → u.crane k = s.crane k)
        ∧ u.move m.id = some { m with span := some ((Span.at z).join m.dst.zoneOf), phase := some .picking }
        ∧ (u.unit (craneUnit c)).out = some
            { cmd := { cmd := .pick r.slot.val, sender := .cranes, hand := s.line.nextHand }, attempt := 1,
              inFlight := false }
        ∧ u.moves.attempts = s.moves.attempts + 1 ∧ u.line.window = none
        ∧ u.guards = s.guards ∧ u.stock = s.stock ∧ u.tables = s.tables ∧ u.host = s.host)
    ∧ (m.srcZone ≠ some z → m.origin = .host → (s.crane c).hook = .empty →
      ∃ u : State, exec (.arrived (c.val + 5) false z.val) s = .next u
        ∧ u.crane c = { s.crane c with
            pos := some z, timer := none, hand := none, state := .halted, cause := some .fault }
        ∧ u.move m.id = some { m with state := .faulted }
        ∧ (u.unit (craneUnit c)).out = some
            { cmd := { cmd := .stop, sender := .cranes, hand := s.line.nextHand }, attempt := 1, inFlight := false }
        ∧ u.guards = s.guards ∧ u.stock = s.stock ∧ u.tables = s.tables))

/-- PICKED in PICKING takes the record to the hook, clears the pick lock, and owes a stock-change event; within the
tolerance of a sixteenth of the expected mass and 20 kg the move goes on to TO_DEST, and beyond it is held in WEIGHT_HOLD with
WEIGHT_MISMATCH and a fault of class NOTE (R172). PLACED in PLACING lays the record at the destination as AVAILABLE, or as
QUARANTINED where the move says so, and completes the move: the crane is IDLE with an empty hook, the move gone, MOVE_DONE
raised (R173); a stock-change event is owed where the record becomes AVAILABLE, a stack gets a new top, or the last delivery
ends (R13). They are stated for a move of the host off the beds, without flag and holds. -/
def Obligations.LoadsArePickedAndPlaced : Prop :=
  ∀ (s : State) (c : CraneId) (m : MoveRec) (x : StockRec) (e kg : Nat) (d : SlotRef), s.hall.inReset = false → s.settled →
    s.line.window = some { unit := craneUnit c, kind := .offer, expiry := e } →
    (s.unit (craneUnit c)).link = .online → (s.unit (craneUnit c)).out = none →
    (s.crane c).move = some m.id → s.move m.id = some m → m.crane = some c → m.state = .dispatched → m.origin = .host →
    m.load = .stock x.id → s.stockRec x.id = some x → m.dst = .slot d → s.bedTable d = none →
    (∀ r : SlotRef, m.phase = some .picking → m.src = .slot r → s.bedTable r = none → m.srcZone = some r.zone →
      d.zone ≠ r.zone →
      let expected := massOf (x.len * x.wid * x.thick)
      let off := (kg - expected) + (expected - kg)
      ∃ u : State, exec (.picked (c.val + 5) false kg) s = .next u
        ∧ u.stockRec x.id = some { x with loc := .hook c }
        ∧ u.lock r = { s.lock r with pick := none } ∧ (∀ q, q ≠ r → u.lock q = s.lock q)
        ∧ u.stock.events = s.stock.events + 1 ∧ (u.crane c).hook = .stock x.id
        ∧ (∀ k, k ≠ c → u.crane k = s.crane k)
        ∧ u.guards = s.guards ∧ u.tables = s.tables ∧ u.alloc = s.alloc ∧ u.composer = s.composer
        ∧ (off ≤ expected / 16 + 20 → u.move m.id = some { m with mass := some kg, phase := some .toDest }
            ∧ (u.unit (craneUnit c)).out = some
                { cmd := { cmd := .goto d.zone, sender := .cranes, hand := s.line.nextHand }, attempt := 1,
                  inFlight := false }
            ∧ u.host = s.host)
        ∧ (expected / 16 + 20 < off →
            u.move m.id = some { m with mass := some kg, state := .weightHold, phase := some .toDest }
            ∧ (u.unit (craneUnit c)).out = none
            ∧ (s.hall.fault.held = none → u.hall.fault.held = some
                { cls := .note, src := .crane c, code := .weightMismatch, clock := s.hall.clock, index := some m.id })
            ∧ (s.hall.fault.held ≠ none → u.host = s.host.report
                (.weightMismatch m.id c x.id expected (expected / 16 + 20) kg))))
    ∧ (m.phase = some .placing → m.returning = false → m.holds = [] → m.flag = none → s.moves.spaceWaits = [] →
      (s.crane c).state = .busy → x.loc = .hook c →
      ∃ u : State, exec (.placed (c.val + 5) false) s = .next u
        ∧ u.stockRec x.id = some { x with
            loc := .slot d (s.slotRecs d).length, state := if m.quarantine then .quarantined else .available,
            before := none, move := none }
        ∧ u.lock d = { s.lock d with deliveries := (s.lock d).deliveries - 1 }
        ∧ u.stock.events = s.stock.events
            + (if m.quarantine = false ∨ s.kindOf d.zone = .stock ∨ (s.lock d).deliveries = 1 then 1 else 0)
        ∧ u.crane c = { s.crane c with hook := .empty, state := .idle, move := none, timer := none, hand := none }
        ∧ (∀ k, k ≠ c → u.crane k = s.crane k)
        ∧ u.moves.queue = s.moves.queue.filter (fun k => k.id ≠ m.id) ∧ u.moves.attempts = s.moves.attempts + 1
        ∧ u.host = s.host.report
            (.moveDone m.id .host (.stock x.id) m.src (.slot d) (some c) false m.mass false)
        ∧ u.tables = s.tables ∧ u.guards = s.guards ∧ u.flags = s.flags ∧ u.alloc = s.alloc)

/-- CRANE_FAULT, and the expiry of the phase timer, fault the crane's DISPATCHED move: the crane is HALTED with cause FAULT,
its timer stopped, STOP handed to its unit; the move is FAULTED in its phase, a record on the hook is HELD, MOVE_FAULT is
raised, and the fault captured with class UNIT (R175). A PICKED, a PLACED or a CRANE_FAULT of a crane with no move is stray
(R179, R196, R175). -/
def Obligations.CraneFaultsFaultTheMove : Prop :=
  ∀ (s : State) (c : CraneId) (e n : Nat), s.hall.inReset = false → s.settled →
    (∀ (i : Instr) (code : MoveFaultCode) (fc : FaultCode) (m : MoveRec),
      ((i = .craneFault (c.val + 5) false n ∧ code = .craneFault ∧ fc = .craneFault
          ∧ s.line.window = some { unit := craneUnit c, kind := .offer, expiry := e })
        ∨ (i = .phaseTimerExpiry c ∧ code = .craneTimeout ∧ fc = .craneTimeout
          ∧ ∃ x, (s.crane c).timer = some x ∧ x ≤ s.now)) →
      (s.unit (craneUnit c)).link = .online → (s.unit (craneUnit c)).out = none →
      (s.crane c).move = some m.id → s.move m.id = some m → m.crane = some c → m.state = .dispatched →
      m.origin = .host →
      ∃ u : State, exec i s = .next u
        ∧ u.crane c = { s.crane c with timer := none, hand := none, state := .halted, cause := some .fault }
        ∧ (∀ k, k ≠ c → u.crane k = s.crane k)
        ∧ u.move m.id = some { m with state := .faulted }
        ∧ (u.unit (craneUnit c)).out = some
            { cmd := { cmd := .stop, sender := .cranes, hand := s.line.nextHand }, attempt := 1, inFlight := false }
        ∧ ((s.crane c).hook = .empty → u.stock = s.stock)
        ∧ (∀ x, (s.crane c).hook = .stock x.id → s.stockRec x.id = some x →
            u.stockRec x.id = some { x with state := .held, before := none })
        ∧ (s.hall.fault.held = none → u.hall.fault.held = some
            { cls := .unit, src := .crane c, code := fc, clock := s.hall.clock, index := some m.id })
        ∧ (∀ g, s.hall.fault.held = some g → 2 ≤ g.cls.rank → u.host = s.host.report
            (.moveFault m.id .host c m.phase code (decide ((s.crane c).hook ≠ .empty))))
        ∧ u.tables = s.tables ∧ u.guards = s.guards ∧ u.alloc = s.alloc)
    ∧ (s.line.window = some { unit := craneUnit c, kind := .offer, expiry := e } → (s.crane c).move = none →
      ∀ i ∈ [Instr.picked (c.val + 5) false n, .placed (c.val + 5) false, .craneFault (c.val + 5) false n],
        exec i s = .next { (s.modUnit (craneUnit c) (fun r => { r with strays := min (r.strays + 1) 65535 })) with
          line := { (s.modUnit (craneUnit c) (fun r => { r with strays := min (r.strays + 1) 65535 })).line with
            window := none } })

/-- The requests that take up a held or faulted move. MOVE_ACCEPT_WEIGHT sends a move in WEIGHT_HOLD on to its destination;
MOVE_ABORT sends its load back to its source as QUARANTINED; MOVE_RETRY enters the phase of a FAULTED move again, its HELD
record MOVING. MOVE_RECOVER, its locations a slot, HOOK and NONE being 0, 1 and 2 (log entry 3), ends a FAULTED move: with
NONE, and no other, one without a stock record; a record not picked stays QUARANTINED at its source slot, any other location
refused with BAD_STATE, also one that names no slot, the model's choice (log entry 14); a record on the hook is laid QUARANTINED in a slot that passes the delivery test with the move's own
delivery released, or with HOOK stays HELD there, refused with BAD_STATE where the crane sensed no load; NONE is then refused
with RANGE. In another state each is refused with BAD_STATE, and an id of no move with NOT_FOUND (R180, R182 to R184). They
are stated for a unit with no command outstanding and for a move of the host without holds, off the beds. -/
def Obligations.HeldMovesAreTakenUp : Prop :=
  ∀ (s : State) (id loc zone slot : Nat), s.settled → s.hall.mode ≠ .setup →
    (s.move id = none → ∀ i ∈ [Instr.moveAcceptWeight id, .moveAbort id, .moveRetry id, .moveRecover id loc zone slot],
      s.takes i → exec i s = .next (s.refuse .notFound))
    ∧ (∀ m, s.move id = some m →
      (m.state ≠ .weightHold → ∀ i ∈ [Instr.moveAcceptWeight id, .moveAbort id], s.takes i →
        exec i s = .next (s.refuse .badState))
      ∧ (m.state ≠ .faulted → ∀ i ∈ [Instr.moveRetry id, .moveRecover id loc zone slot], s.takes i →
        exec i s = .next (s.refuse .badState))
      ∧ (∀ c : CraneId, m.crane = some c → (s.unit (craneUnit c)).link = .online → (s.unit (craneUnit c)).out = none →
        let handed (u : State) (cmd : FieldCmd) : Prop :=
          (u.unit (craneUnit c)).out = some
              { cmd := { cmd := cmd, sender := .cranes, hand := s.line.nextHand }, attempt := 1, inFlight := false }
          ∧ (u.crane c).timer = none ∧ (u.crane c).hand = some s.line.nextHand ∧ (u.crane c).state = .busy
          ∧ (u.crane c).hook = (s.crane c).hook ∧ (u.crane c).pos = (s.crane c).pos
          ∧ u.tables = s.tables ∧ u.guards = s.guards ∧ u.flags = s.flags ∧ u.alloc = s.alloc
        (s.takes (.moveAcceptWeight id) → m.state = .weightHold → (s.crane c).state = .busy →
          m.srcZone ≠ some m.dst.zoneOf →
          ∃ u : State, exec (.moveAcceptWeight id) s = .next u
            ∧ u.move id = some { m with state := .dispatched, phase := some .toDest }
            ∧ u.host = { s.host with hand := .ready (.accept .none) } ∧ u.stock = s.stock
            ∧ handed u (.goto m.dst.zoneOf))
        ∧ (∀ r d : SlotRef, s.takes (.moveAbort id) → m.state = .weightHold → (s.crane c).state = .busy →
            m.src = .slot r → m.dst = .slot d → d ≠ r → s.bedTable r = none → s.bedTable d = none →
            s.deliveryTest r = none → (s.lock d).deliveries ≠ 0 →
            ∃ u : State, exec (.moveAbort id) s = .next u
              ∧ u.move id = some { m with
                  dst := .slot r, returning := true, flag := none, quarantine := true, state := .dispatched,
                  phase := some .placing }
              ∧ u.host = { s.host with hand := .ready (.accept .none) }
              ∧ u.stock.recs = s.stock.recs
              ∧ u.lock r = { s.lock r with deliveries := (s.lock r).deliveries + 1 }
              ∧ u.lock d = { s.lock d with deliveries := (s.lock d).deliveries - 1 }
              ∧ handed u (.place r.slot.val))
        ∧ (∀ (p : Phase) (cmd : FieldCmd), s.takes (.moveRetry id) → m.state = .faulted → (s.crane c).state = .idle →
            m.phase = some p → phaseCmd m p = some cmd →
            ∃ u : State, exec (.moveRetry id) s = .next u
              ∧ u.move id = some { m with state := .dispatched }
              ∧ u.host = { s.host with hand := .ready (.accept (.phase (some p))) }
              ∧ (∀ x, m.load = .stock x.id → s.stockRec x.id = some x →
                  (x.state = .held → u.stockRec x.id = some { x with
                    state := .moving, before := some (if m.quarantine then .quarantined else .available) })
                  ∧ (x.state ≠ .held → u.stockRec x.id = some x))
              ∧ handed u cmd)
        ∧ (s.takes (.moveRecover id 2 zone slot) → m.state = .faulted → (∀ k, m.load ≠ .stock k) → m.holds = [] →
            s.moves.spaceWaits = [] → m.origin = .host →
            ∃ u : State, exec (.moveRecover id 2 zone slot) s = .next u
              ∧ u.crane c = { s.crane c with
                  hook := .empty, move := none, timer := none, hand := none,
                  state := if (s.crane c).state = .busy then .idle else (s.crane c).state }
              ∧ u.moves.queue = s.moves.queue.filter (fun k => k.id ≠ id)
              ∧ u.moves.attempts = s.moves.attempts + 1
              ∧ u.host = { s.host with hand := .ready (.accept .none) }
              ∧ u.stock = s.stock ∧ u.tables = s.tables ∧ u.guards = s.guards ∧ u.flags = s.flags))
      ∧ (∀ c : CraneId, s.takes (.moveRecover id loc zone slot) → m.state = .faulted → m.crane = some c →
        ((∀ k, m.load ≠ .stock k) → loc ≠ 2 → exec (.moveRecover id loc zone slot) s = .next (s.refuse .range))
        ∧ (∀ (x : StockRec) (d : SlotRef), m.load = .stock x.id → s.stockRec x.id = some x → m.dst = .slot d →
            s.bedTable d = none → m.holds = [] → s.moves.spaceWaits = [] → m.origin = .host → loc ≤ 2 →
          let last : Nat := if (s.lock d).deliveries = 1 then 1 else 0
          let recovered (u : State) (hook : Hook) : Prop := exec (.moveRecover id loc zone slot) s = .next u
            ∧ u.crane c = { s.crane c with
                hook := hook, move := none, timer := none, hand := none,
                state := if (s.crane c).state = .busy then .idle else (s.crane c).state }
            ∧ (∀ k, k ≠ c → u.crane k = s.crane k)
            ∧ u.moves.queue = s.moves.queue.filter (fun k => k.id ≠ id) ∧ u.moves.attempts = s.moves.attempts + 1
            ∧ u.lock d = { s.lock d with deliveries := (s.lock d).deliveries - 1 }
            ∧ u.host = { s.host with hand := .ready (.accept .none) }
            ∧ u.tables = s.tables ∧ u.guards = s.guards ∧ u.flags = s.flags ∧ u.alloc = s.alloc
          (∀ (r : SlotRef) (n : Nat), x.loc = .slot r n →
            (¬ (loc = 0 ∧ zone = r.zone.val ∧ slot = r.slot.val) →
              exec (.moveRecover id loc zone slot) s = .next (s.refuse .badState))
            ∧ (loc = 0 → zone = r.zone.val → slot = r.slot.val → d ≠ r → ∃ u : State, recovered u (s.crane c).hook
              ∧ u.stockRec x.id = some { x with state := .quarantined, before := none, move := none }
              ∧ u.lock r = { s.lock r with pick := none } ∧ u.stock.events = s.stock.events + last))
          ∧ (∀ k : CraneId, x.loc = .hook k →
            (loc = 2 → exec (.moveRecover id loc zone slot) s = .next (s.refuse .range))
            ∧ (loc = 1 → (s.crane c).sensed = .no → exec (.moveRecover id loc zone slot) s = .next (s.refuse .badState))
            ∧ (loc = 1 → (s.crane c).sensed ≠ .no → ∃ u : State, recovered u (s.crane c).hook
              ∧ u.stockRec x.id = some { x with state := .held, before := none, move := none }
              ∧ u.stock.events = s.stock.events + last)
            ∧ (loc = 0 → (s.slotRef zone slot = none ∨ ∃ q, s.slotRef zone slot = some q ∧ s.kindOf q.zone = .output) →
              exec (.moveRecover id loc zone slot) s = .next (s.refuse .range))
            ∧ (∀ q : SlotRef, loc = 0 → s.slotRef zone slot = some q → s.kindOf q.zone ≠ .output →
              let tested : Option Code :=
                (s.setLock d { s.lock d with deliveries := (s.lock d).deliveries - 1 }).deliveryTest q
              (∀ code, tested = some code → exec (.moveRecover id loc zone slot) s = .next (s.refuse code))
              ∧ (tested = none → ∃ u : State, recovered u .empty
                ∧ u.stockRec x.id = some { x with
                    loc := .slot q (s.slotRecs q).length, state := .quarantined, before := none, move := none }
                ∧ u.stock.events = s.stock.events
                    + (if s.kindOf q.zone = .stock ∨ (s.lock d).deliveries = 1 then 1 else 0)))))))

/-- CRANE_RESUME: its refusals in order. Accepted, the crane's status is awaited and STATUS_QUERY handed to its unit, and
the reply waits. The STATUS then sets position and sensed load, and the crane halted by the stop goes on: with no move it
becomes IDLE, and the reply names state, position and move (R181). -/
def Obligations.CraneResumeAsksTheCrane : Prop :=
  ∀ (s : State) (n : Nat), s.settled →
    (s.takes (.craneResume n) →
      (s.hall.mode = .setup → exec (.craneResume n) s = .next (s.refuse .badState))
      ∧ (s.hall.mode ≠ .setup → (n < 1 ∨ 2 < n) → exec (.craneResume n) s = .next (s.refuse .range))
      ∧ (∀ c : CraneId, s.hall.mode ≠ .setup → n = c.val + 1 →
        ((s.crane c).state = .absent → exec (.craneResume n) s = .next (s.refuse .unitAbsent))
        ∧ ((s.crane c).state ≠ .absent → (s.crane c).state ≠ .halted →
            exec (.craneResume n) s = .next (s.refuse .badState))
        ∧ ((s.crane c).state = .halted → s.hall.stop = true →
            exec (.craneResume n) s = .next (s.refuse .stopAsserted))
        ∧ ((s.crane c).state = .halted → s.hall.stop = false → (s.unit (craneUnit c)).link = .online →
            (s.unit (craneUnit c)).out = none →
            ∃ u : State, exec (.craneResume n) s = .next u
              ∧ u.host = { s.host with hand := .waiting (.craneResume c) }
              ∧ u.crane c = { s.crane c with awaited := true } ∧ (∀ k, k ≠ c → u.crane k = s.crane k)
              ∧ (u.unit (craneUnit c)).out = some
                  { cmd := { cmd := .statusQuery, sender := .cranes, hand := s.line.nextHand }, attempt := 1,
                    inFlight := false }
              ∧ u.moves.queue = s.moves.queue ∧ u.stock = s.stock ∧ u.tables = s.tables ∧ u.hall = s.hall)))
    ∧ (∀ (c : CraneId) (o : Outstanding) (e : Nat) (z : Zone) (load : Bool), s.hall.inReset = false →
        s.host.hand = .waiting (.craneResume c) → (s.crane c).awaited = true → (s.crane c).move = none →
        s.line.window = some { unit := craneUnit c, kind := .command, expiry := e } →
        (s.unit (craneUnit c)).out = some o → (s.unit (craneUnit c)).waiting = [] →
        o.cmd.cmd = .statusQuery → o.cmd.sender = .cranes →
        ∃ u : State, exec (.status (c.val + 5) false (.crane z.val load)) s = .next u
          ∧ u.crane c = { s.crane c with
              pos := some z, sensed := if load then .yes else .no, awaited := false, state := .idle, cause := none }
          ∧ (∀ k, k ≠ c → u.crane k = s.crane k)
          ∧ u.host = { s.host with hand := .ready (.accept (.crane .idle (some z) none)) }
          ∧ u.unit (craneUnit c) = { s.unit (craneUnit c) with out := none, fails := 0 }
          ∧ u.line.window = none ∧ u.moves.attempts = s.moves.attempts + 1 ∧ u.moves.queue = s.moves.queue
          ∧ u.stock = s.stock ∧ u.tables = s.tables ∧ u.guards = s.guards)

/-! ## Field line (chapter 10) -/

/-- UNIT_RESTORE: RANGE, UNIT_ABSENT, BAD_STATE for an ONLINE unit and BUSY for one restoring. Accepted, restoring is set,
the count is 0, and a STATUS_QUERY of the restore goes to the unit; the reply waits (R198). A good STATUS brings the unit
ONLINE with UNIT_BACK, and the reply names what it was, the content and the owner's state (R198). A table becomes IDLE without
a program and HALTED with UNIT_LOST with one; with the arc off its arc hold is released into SETTLING and its contour cleared,
with the arc on ARC_KILL is sent and kill awaited set (R94). A crane takes position and sensed load from STATUS, and is HALTED
with STOP under an asserted stop or with a STOPPED move, and else IDLE; a dispatch attempt is due (R177). Stated for units with
no command waiting, settle times above 0, and a reported zone within the move's span.
UNIT_MAINTAIN: RANGE, UNIT_ABSENT, BAD_STATE in SETUP or for a unit not ONLINE, and BUSY for a unit with a command
outstanding or waiting or an owner in use. Accepted, unit and owner enter MAINTENANCE and the count is 0 (R199, R95, R177).
UNIT_QUERY returns one unit's record, or with 255 (the model's number for ALL, log entry 3) all six, an ABSENT unit with its
presence and nothing more, and changes nothing (R201). -/
def Obligations.UnitsAreMaintainedAndRestored : Prop :=
  (∀ (s : State) (n : Nat), s.settled →
    (s.takes (.unitRestore n) →
      ((n < 1 ∨ 6 < n) → exec (.unitRestore n) s = .next (s.refuse .range))
      ∧ (∀ v : UnitId, n = v.val + 1 →
        ((s.unit v).link = .absent → exec (.unitRestore n) s = .next (s.refuse .unitAbsent))
        ∧ ((s.unit v).link = .online → exec (.unitRestore n) s = .next (s.refuse .badState))
        ∧ (((s.unit v).link = .offline ∨ (s.unit v).link = .maintenance) →
          ((s.unit v).restoring = true → exec (.unitRestore n) s = .next (s.refuse .busy))
          ∧ ((s.unit v).restoring = false → (s.unit v).out = none →
            ∃ u : State, exec (.unitRestore n) s = .next u
              ∧ u.host = { s.host with hand := .waiting (.unitRestore v) }
              ∧ u.unit v = { s.unit v with
                  restoring := true, fails := 0
                  out := some { cmd := { cmd := .statusQuery, sender := .restore, hand := s.line.nextHand },
                                attempt := 1, inFlight := false } }
              ∧ (∀ w, w ≠ v → u.unit w = s.unit w)
              ∧ u.tables = s.tables ∧ u.stock = s.stock ∧ u.guards = s.guards ∧ u.moves.queue = s.moves.queue))))
    ∧ (∀ (t : TableId) (o : Outstanding) (e : Nat), s.hall.inReset = false →
        s.host.hand = .waiting (.unitRestore (tableUnit t)) →
        s.line.window = some { unit := tableUnit t, kind := .command, expiry := e } →
        (s.unit (tableUnit t)).out = some o → (s.unit (tableUnit t)).waiting = [] → o.cmd.cmd = .statusQuery →
        o.cmd.sender = .restore → ((s.tab t).state = .offline ∨ (s.tab t).state = .maintenance) →
        0 < (s.tab t).cfg.settle → ∀ on : Bool,
        let after : TableState := if (s.tab t).active = none then .idle else .halted
        let cause : Option HaltCause := if (s.tab t).active = none then none else some .unitLost
        ∃ u : State, exec (.status (t.val + 1) false (.arc on)) s = .next u
          ∧ (∃ n, u.unit (tableUnit t) = { s.unit (tableUnit t) with
              fails := 0, restoring := false, link := .online
              out := if on then some { cmd := { cmd := .arcKill, sender := .sequencer, hand := n }, attempt := 1,
                                       inFlight := false } else none })
          ∧ (∀ w, w ≠ tableUnit t → u.unit w = s.unit w)
          ∧ u.tab t = { s.tab t with
              state := after, cause := cause, contour := if on then (s.tab t).contour else none, killAwaited := on }
          ∧ (∀ k, k ≠ t → u.tab k = s.tab k)
          ∧ u.host = { (s.host.report (.unitBack (tableUnit t) (s.unit (tableUnit t)).link (.arc on) s.hall.clock)).report
              (.tableState t after ((s.tab t).active.map Active.index) cause ((s.tab t).active.bind Active.loaded)) with
                hand := .ready (.accept (.restoredTable (s.unit (tableUnit t)).link (.arc on) after)) }
          ∧ ((on = true ∨ ∀ k, (s.tab t).contour = some k → k.arcHeld = false) → u.guards = s.guards)
          ∧ (∀ k z, on = false → (s.tab t).contour = some k → k.arcHeld = true → s.tableZone t = some z →
              (s.guard z).state = .arc →
              u.guard z = { s.guard z with state := .settling (s.now + 1000 * (s.tab t).cfg.settle) }
              ∧ ∀ y, y ≠ z → u.guard y = s.guard y)
          ∧ u.line.window = none ∧ u.stock = s.stock ∧ u.moves = s.moves ∧ u.composer = s.composer ∧ u.flags = s.flags)
    ∧ (∀ (c : CraneId) (o : Outstanding) (e : Nat) (z : Zone) (load halt : Bool), s.hall.inReset = false →
        s.host.hand = .waiting (.unitRestore (craneUnit c)) →
        s.line.window = some { unit := craneUnit c, kind := .command, expiry := e } →
        (s.unit (craneUnit c)).out = some o → (s.unit (craneUnit c)).waiting = [] → o.cmd.cmd = .statusQuery →
        o.cmd.sender = .restore →
        (∀ m, (s.crane c).move.bind s.move = some m → ∃ a, m.span = some a ∧ a.has z = true) →
        (halt = true ↔ s.hall.stop = true ∨ ∃ m, (s.crane c).move.bind s.move = some m ∧ m.state = .stopped) →
        let after : CraneState := if halt then .halted else .idle
        ∃ u : State, exec (.status (c.val + 5) false (.crane z.val load)) s = .next u
          ∧ u.unit (craneUnit c) = { s.unit (craneUnit c) with
              out := none, fails := 0, restoring := false, link := .online }
          ∧ (∀ w, w ≠ craneUnit c → u.unit w = s.unit w)
          ∧ u.crane c = { s.crane c with
              pos := some z, sensed := if load then .yes else .no, awaited := false, state := after
              cause := if halt then some .stop else none }
          ∧ (∀ k, k ≠ c → u.crane k = s.crane k)
          ∧ u.moves.queue = s.moves.queue ∧ u.moves.attempts = s.moves.attempts + 1
          ∧ u.host = { s.host.report (.unitBack (craneUnit c) (s.unit (craneUnit c)).link (.crane z.val load)
              s.hall.clock) with
                hand := .ready (.accept (.restoredCrane (s.unit (craneUnit c)).link (.crane z.val load) after)) }
          ∧ u.line.window = none ∧ u.stock = s.stock ∧ u.tables = s.tables ∧ u.guards = s.guards))
  ∧ (∀ (s : State) (n : Nat), s.settled →
    (s.takes (.unitMaintain n) →
      ((n < 1 ∨ 6 < n) → exec (.unitMaintain n) s = .next (s.refuse .range))
      ∧ (∀ v : UnitId, n = v.val + 1 →
        ((s.unit v).link = .absent → exec (.unitMaintain n) s = .next (s.refuse .unitAbsent))
        ∧ ((s.unit v).link ≠ .absent → (s.hall.mode = .setup ∨ (s.unit v).link ≠ .online) →
            exec (.unitMaintain n) s = .next (s.refuse .badState))
        ∧ (s.hall.mode ≠ .setup → (s.unit v).link = .online →
          (((s.unit v).out ≠ none ∨ (s.unit v).waiting ≠ []) → exec (.unitMaintain n) s = .next (s.refuse .busy))
          ∧ ((s.unit v).out = none → (s.unit v).waiting = [] →
            (∀ t : TableId, v = tableUnit t →
              (((s.tab t).state ≠ .idle ∨ (s.tab t).killAwaited = true
                  ∨ ∃ z, s.tableZone t = some z ∧ (s.guard z).state = .arc) →
                exec (.unitMaintain n) s = .next (s.refuse .busy))
              ∧ ((s.tab t).state = .idle → (s.tab t).killAwaited = false →
                (∀ z, s.tableZone t = some z → (s.guard z).state ≠ .arc) → (s.tab t).active = none →
                ∃ u : State, exec (.unitMaintain n) s = .next u
                  ∧ u.unit v = { s.unit v with link := .maintenance, fails := 0 }
                  ∧ (∀ w, w ≠ v → u.unit w = s.unit w)
                  ∧ u.tab t = { s.tab t with state := .maintenance, cause := none }
                  ∧ (∀ k, k ≠ t → u.tab k = s.tab k)
                  ∧ u.host = { s.host.report (.tableState t .maintenance none none none) with
                      hand := .ready (.accept .none) }
                  ∧ u.stock = s.stock ∧ u.moves = s.moves ∧ u.guards = s.guards))
            ∧ (∀ c : CraneId, v = craneUnit c →
              (((s.crane c).state ≠ .idle ∨ (s.crane c).move ≠ none ∨ (s.crane c).hook ≠ .empty
                  ∨ (s.crane c).awaited = true) →
                exec (.unitMaintain n) s = .next (s.refuse .busy))
              ∧ ((s.crane c).state = .idle → (s.crane c).move = none → (s.crane c).hook = .empty →
                (s.crane c).awaited = false →
                exec (.unitMaintain n) s = .next
                  (((s.modUnit v (fun r => { r with link := .maintenance, fails := 0 })).modCrane c
                    (fun r => { r with state := .maintenance })).accept .none)))))))
    ∧ (s.takes (.unitQuery n) →
      let view (r : UnitRec) : Option UnitView := if r.link = .absent then none else some
        { link := r.link, fails := r.fails, out := r.out.map (fun o => (o.cmd.cmd.kind, o.attempt, o.inFlight)),
          waiting := r.waiting.length, restoring := r.restoring, strays := r.strays }
      (n = 255 → exec (.unitQuery n) s = .next (s.accept (.units (s.line.units.toList.map view))))
      ∧ ((n < 1 ∨ (6 < n ∧ n ≠ 255)) → exec (.unitQuery n) s = .next (s.refuse .range))
      ∧ (∀ v : UnitId, n = v.val + 1 → exec (.unitQuery n) s = .next (s.accept (.units [view (s.unit v)])))))

/-- PASS_THROUGH_FRAME is refused for an ABSENT unit with UNIT_ABSENT and for one that is not in MAINTENANCE, or is being
restored, with NOT_MAINTAINED. Accepted, its frame waits for the unit's command turn and its reply for the window. In that
window the unit's intact frame, of any kind a unit sends, is the answer; a frame of no such kind or of an impossible length,
as any damaged frame, or 50 ms without an answer, refuses the request with UNIT_LOST (R200, R191; the numbers of the kinds
and their lengths are log entry 7). That an intact frame of another unit in that window is counted as its stray, as in the
other windows (R194, R196), is the model's choice (log entry 10). -/
def Obligations.PassThroughFramesAreAnswered : Prop :=
  (∀ (s : State) (f : HostFrame) (v : UnitId), s.takes (.passThroughFrame f) → f.unit.toNat = v.val + 1 →
    ((s.unit v).link = .absent → exec (.passThroughFrame f) s = .next (s.refuse .unitAbsent))
    ∧ ((s.unit v).link ≠ .absent → ((s.unit v).link ≠ .maintenance ∨ (s.unit v).restoring = true) →
        exec (.passThroughFrame f) s = .next (s.refuse .notMaintained))
    ∧ ((s.unit v).link = .maintenance → (s.unit v).restoring = false →
        exec (.passThroughFrame f) s = .next { s with
          line := { s.line with pass := some { unit := v, kind := f.kind, body := f.body } }
          host := { s.host with hand := .waiting (.pass v) } }))
  ∧ (∀ (s : State) (v : UnitId) (e : Nat), s.hall.inReset = false →
      s.line.window = some { unit := v, kind := .pass, expiry := e } →
    let intact (kind : Byte) (body : List Byte) : Prop :=
      (kind.toNat % 128, body.length) ∈ [(11, 1), (12, 1), (13, 1), (13, 2), (14, 0), (15, 4), (16, 3), (17, 9), (18, 2),
        (19, 1), (20, 2), (21, 0), (22, 1)]
    (∀ kind body, intact kind body → exec (.passThroughAnswer (v.val + 1) kind body) s = .next { s with
      line := { s.line with window := none }, host := { s.host with hand := .ready (.accept (.answer kind body)) } })
    ∧ (∀ (w : UnitId) kind body, w ≠ v → intact kind body → (s.unit w).link ≠ .absent →
      exec (.passThroughAnswer (w.val + 1) kind body) s = .next
        (s.modUnit w (fun r => { r with strays := min (r.strays + 1) 65535 })))
    ∧ (∀ (n : Nat) kind body, ¬ intact kind body → exec (.passThroughAnswer n kind body) s = .next { s with
      line := { s.line with window := none }, host := { s.host with hand := .ready (.refuse .unitLost .none) } })
    ∧ exec (.passThroughTimeout true) s = .next { s with
        line := { s.line with window := none }, host := { s.host with hand := .ready (.refuse .unitLost .none) } }
    ∧ (e ≤ s.now → exec (.passThroughTimeout false) s = .next { s with
        line := { s.line with window := none }, host := { s.host with hand := .ready (.refuse .unitLost .none) } })
    ∧ (s.now < e → exec (.passThroughTimeout false) s = .next s))

/-- With a window open no turn sends. A command turn that is due, or with nobody to offer the line to, sends the outstanding
command of the first unit in rotation that has one DUE, or its pass-through frame, and opens a window of 50 ms; an offer turn
likewise sends OFFER to the first unit ONLINE with no command outstanding and not restoring. The other turn is due then, and
the rotation goes on behind the unit (R193, R200). That a pass-through frame moves the rotation of the commands as a command
does is the model's choice (log entry 26), and so is the window's count from the sending, which takes no time (log entry 5). -/
def Obligations.TheLineTakesTurns : Prop :=
  ∀ s : State, s.hall.inReset = false →
    (s.line.window ≠ none → exec .lineCommandTurn s = .next s ∧ exec .lineOfferTurn s = .next s)
    ∧ (s.line.window = none → (∀ v, s.cmdReady v = false) → exec .lineCommandTurn s = .next s)
    ∧ (s.line.window = none → (∀ v, s.offerReady v = false) → exec .lineOfferTurn s = .next s)
    ∧ (∀ (v : UnitId) (j : Fin 6), s.line.window = none → v = j + s.line.cmdNext → s.cmdReady v = true →
        (∀ i : Fin 6, i < j → s.cmdReady (i + s.line.cmdNext) = false) →
        (s.line.turn = .command ∨ ∀ w, s.offerReady w = false) →
        (∀ o, (s.unit v).out = some o → o.inFlight = false → ∃ u : State, exec .lineCommandTurn s = .next u
          ∧ u.unit v = { s.unit v with out := some { o with inFlight := true } }
          ∧ (∀ w, w ≠ v → u.unit w = s.unit w)
          ∧ u.line = { s.line with
              units := u.line.units, window := some { unit := v, kind := .command, expiry := s.now + 50 }
              cmdNext := v + 1, turn := .offer, sent := some (.command v o.cmd.cmd) }
          ∧ u = { s with line := u.line })
        ∧ (∀ f, (s.unit v).out = none → s.line.pass = some f → exec .lineCommandTurn s = .next { s with line := { s.line with
            window := some { unit := v, kind := .pass, expiry := s.now + 50 }, cmdNext := v + 1, turn := .offer,
            sent := some (.pass f), pass := none } }))
    ∧ (∀ (v : UnitId) (j : Fin 6), s.line.window = none → v = j + s.line.offerNext → s.offerReady v = true →
        (∀ i : Fin 6, i < j → s.offerReady (i + s.line.offerNext) = false) →
        (s.line.turn = .offer ∨ ∀ w, s.cmdReady w = false) →
        exec .lineOfferTurn s = .next { s with line := { s.line with
          window := some { unit := v, kind := .offer, expiry := s.now + 50 }, offerNext := v + 1, turn := .command,
          sent := some (.offer v) } })

/-- An ONLINE unit's command that is not answered in its window, or answered with a damaged frame or with an ACK that does
not name its kind, counts a failure and is DUE again at its next attempt; the third failure takes the unit OFFLINE, its commands discarded, with UNIT_OFFLINE and a fault of
class UNIT, and its table goes OFFLINE (R194, R195, R197, R93). An offer window closes at EMPTY and after 50 ms without an
answer, and a damaged frame in it counts a failure (R195, R196); an intact ACK, NAK or STATUS in it, whatever its body
holds, counts as a stray report (R191, R196), and that it leaves the window open is the model's choice (log entry 10).
An attempt of a restore's STATUS_QUERY that fails is followed by the next, up to three; a unit in MAINTENANCE has no failure
counted (R195). After the third the restore ends, the unit keeps its link state, and the request is refused with UNIT_LOST
(R198). -/
def Obligations.FailuresTakeAUnitOffline : Prop :=
  (∀ (s : State) (v : UnitId) (e : Nat), s.hall.inReset = false → s.settled → (s.unit v).link = .online →
    (∀ (o : Outstanding) (i : Instr) (cause : LossCause),
      s.line.window = some { unit := v, kind := .command, expiry := e } → (s.unit v).out = some o →
      ((i = .fieldAnswerTimeout ∧ cause = .noAnswer ∧ e ≤ s.now) ∨ (i = .damagedFieldFrame ∧ cause = .badAnswer)
        ∨ (cause = .badAnswer ∧ ∃ marker k, i = .ack (v.val + 1) marker k ∧ k ≠ .cmd o.cmd.cmd.kind)) →
      ((s.unit v).fails < 2 → ∃ u : State, exec i s = .next u
        ∧ u.unit v = { s.unit v with
            fails := (s.unit v).fails + 1, out := some { o with attempt := o.attempt + 1, inFlight := false } }
        ∧ (∀ w, w ≠ v → u.unit w = s.unit w)
        ∧ u.line = { s.line with units := u.line.units, window := none } ∧ u = { s with line := u.line })
      ∧ (∀ t : TableId, 2 ≤ (s.unit v).fails → v = tableUnit t → (s.tab t).state = .idle →
          (∀ k ∈ s.alloc.waits, k.table ≠ t) → (∀ k ∈ s.composer.queue, k.table ≠ t) →
          (∀ k, s.composer.ctx = some k → k.entry.table ≠ t) → (s.tab t).claim = .none → (s.tab t).active = none →
          ∃ u : State, exec i s = .next u
            ∧ u.unit v = { s.unit v with link := .offline, fails := 3, out := none, waiting := [] }
            ∧ (∀ w, w ≠ v → u.unit w = s.unit w)
            ∧ u.line.window = none
            ∧ u.tab t = { s.tab t with state := .offline, cause := none, timer := none }
            ∧ (∀ k, k ≠ t → u.tab k = s.tab k)
            ∧ (s.hall.fault.held = none → u.hall.fault.held = some
                { cls := .unit, src := .table t, code := .unitLost, clock := s.hall.clock, index := none })
            ∧ (∀ g, s.hall.fault.held = some g → 2 ≤ g.cls.rank → u.host =
                (s.host.report (.unitOffline v cause (some (o.cmd.cmd.kind, o.attempt)) s.hall.clock)).report
                  (.tableState t .offline none none none))
            ∧ u.stock = s.stock ∧ u.alloc = s.alloc ∧ u.composer = s.composer))
    ∧ (s.line.window = some { unit := v, kind := .offer, expiry := e } →
      exec (.empty (v.val + 1) false) s = .next { s with line := { s.line with window := none } }
      ∧ (∀ (marker : Bool) (k : NamedCmd) (x : StatusContent),
          ∀ i ∈ [Instr.ack (v.val + 1) marker k, .nak (v.val + 1) marker k, .status (v.val + 1) marker x],
            exec i s = .next (s.modUnit v (fun r => { r with strays := min (r.strays + 1) 65535 })))
      ∧ (e ≤ s.now → exec .offerWindowTimeout s = .next { s with line := { s.line with window := none } })
      ∧ (s.now < e → exec .offerWindowTimeout s = .next s)
      ∧ ((s.unit v).fails < 2 → ∃ u : State, exec .damagedFieldFrame s = .next u
        ∧ u.unit v = { s.unit v with fails := (s.unit v).fails + 1 }
        ∧ (∀ w, w ≠ v → u.unit w = s.unit w)
        ∧ u.line = { s.line with units := u.line.units, window := none } ∧ u = { s with line := u.line })))
  ∧ (∀ (s : State) (v : UnitId) (e : Nat) (o : Outstanding) (i : Instr), s.hall.inReset = false → s.settled →
    ((s.unit v).link = .offline ∨ (s.unit v).link = .maintenance) → (s.unit v).restoring = true →
    s.line.window = some { unit := v, kind := .command, expiry := e } → (s.unit v).out = some o →
    (i = .fieldAnswerTimeout ∧ e ≤ s.now ∨ i = .damagedFieldFrame) →
    (o.attempt < 3 → ∃ u : State, exec i s = .next u
      ∧ u.unit v = { s.unit v with
          fails := if (s.unit v).link = .maintenance then (s.unit v).fails else min ((s.unit v).fails + 1) 3
          out := some { o with attempt := o.attempt + 1, inFlight := false } }
      ∧ (∀ w, w ≠ v → u.unit w = s.unit w)
      ∧ u.line = { s.line with units := u.line.units, window := none } ∧ u = { s with line := u.line })
    ∧ (3 ≤ o.attempt → (s.unit v).waiting = [] → ∃ u : State, exec i s = .next u
      ∧ u.unit v = { s.unit v with
          restoring := false, out := none, fails := if (s.unit v).link = .maintenance then 0 else 3 }
      ∧ (∀ w, w ≠ v → u.unit w = s.unit w) ∧ u.line.window = none
      ∧ u.host = (if s.host.hand = .waiting (.unitRestore v) then
          { s.host with hand := .ready (.refuse .unitLost .none) } else s.host)
      ∧ u.tables = s.tables ∧ u.stock = s.stock ∧ u.moves.queue = s.moves.queue ∧ u.hall = s.hall))
end

