-- ==== Sys2Proof/Laws/State.lean ====
section
/-! SUPPORT. One lemma for each field of the state and each named update of it: what the update makes of the field. -/

namespace Sys2Proof.Machine

/-! ## push -/

@[simp] theorem State.push_hall (s : State) (ts : List Task) : (s.push ts).hall = s.hall := rfl
@[simp] theorem State.push_stock (s : State) (ts : List Task) : (s.push ts).stock = s.stock := rfl
@[simp] theorem State.push_alloc (s : State) (ts : List Task) : (s.push ts).alloc = s.alloc := rfl
@[simp] theorem State.push_tables (s : State) (ts : List Task) : (s.push ts).tables = s.tables := rfl
@[simp] theorem State.push_composer (s : State) (ts : List Task) : (s.push ts).composer = s.composer := rfl
@[simp] theorem State.push_flags (s : State) (ts : List Task) : (s.push ts).flags = s.flags := rfl
@[simp] theorem State.push_guards (s : State) (ts : List Task) : (s.push ts).guards = s.guards := rfl
@[simp] theorem State.push_moves (s : State) (ts : List Task) : (s.push ts).moves = s.moves := rfl
@[simp] theorem State.push_line (s : State) (ts : List Task) : (s.push ts).line = s.line := rfl
@[simp] theorem State.push_host (s : State) (ts : List Task) : (s.push ts).host = s.host := rfl
@[simp] theorem State.push_now (s : State) (ts : List Task) : (s.push ts).now = s.now := rfl
@[simp] theorem State.push_work (s : State) (ts : List Task) : (s.push ts).work = ts ++ s.work := rfl
@[simp] theorem State.push_pending (s : State) (ts : List Task) : (s.push ts).pending = s.pending := rfl

/-! ## modTab -/

@[simp] theorem State.modTab_hall (s : State) (t : TableId) (f : TableRec → TableRec) :
    (s.modTab t f).hall = s.hall := rfl
@[simp] theorem State.modTab_stock (s : State) (t : TableId) (f : TableRec → TableRec) :
    (s.modTab t f).stock = s.stock := rfl
@[simp] theorem State.modTab_alloc (s : State) (t : TableId) (f : TableRec → TableRec) :
    (s.modTab t f).alloc = s.alloc := rfl
@[simp] theorem State.modTab_tables (s : State) (t : TableId) (f : TableRec → TableRec) :
    (s.modTab t f).tables = s.tables.set t.val (f (s.tab t)) t.isLt := rfl
@[simp] theorem State.modTab_composer (s : State) (t : TableId) (f : TableRec → TableRec) :
    (s.modTab t f).composer = s.composer := rfl
@[simp] theorem State.modTab_flags (s : State) (t : TableId) (f : TableRec → TableRec) :
    (s.modTab t f).flags = s.flags := rfl
@[simp] theorem State.modTab_guards (s : State) (t : TableId) (f : TableRec → TableRec) :
    (s.modTab t f).guards = s.guards := rfl
@[simp] theorem State.modTab_moves (s : State) (t : TableId) (f : TableRec → TableRec) :
    (s.modTab t f).moves = s.moves := rfl
@[simp] theorem State.modTab_line (s : State) (t : TableId) (f : TableRec → TableRec) :
    (s.modTab t f).line = s.line := rfl
@[simp] theorem State.modTab_host (s : State) (t : TableId) (f : TableRec → TableRec) :
    (s.modTab t f).host = s.host := rfl
@[simp] theorem State.modTab_now (s : State) (t : TableId) (f : TableRec → TableRec) : (s.modTab t f).now = s.now := rfl
@[simp] theorem State.modTab_work (s : State) (t : TableId) (f : TableRec → TableRec) :
    (s.modTab t f).work = s.work := rfl
@[simp] theorem State.modTab_pending (s : State) (t : TableId) (f : TableRec → TableRec) :
    (s.modTab t f).pending = s.pending := rfl

/-! ## modCrane -/

@[simp] theorem State.modCrane_hall (s : State) (c : CraneId) (f : CraneRec → CraneRec) :
    (s.modCrane c f).hall = s.hall := rfl
@[simp] theorem State.modCrane_stock (s : State) (c : CraneId) (f : CraneRec → CraneRec) :
    (s.modCrane c f).stock = s.stock := rfl
@[simp] theorem State.modCrane_alloc (s : State) (c : CraneId) (f : CraneRec → CraneRec) :
    (s.modCrane c f).alloc = s.alloc := rfl
@[simp] theorem State.modCrane_tables (s : State) (c : CraneId) (f : CraneRec → CraneRec) :
    (s.modCrane c f).tables = s.tables := rfl
@[simp] theorem State.modCrane_composer (s : State) (c : CraneId) (f : CraneRec → CraneRec) :
    (s.modCrane c f).composer = s.composer := rfl
@[simp] theorem State.modCrane_flags (s : State) (c : CraneId) (f : CraneRec → CraneRec) :
    (s.modCrane c f).flags = s.flags := rfl
@[simp] theorem State.modCrane_guards (s : State) (c : CraneId) (f : CraneRec → CraneRec) :
    (s.modCrane c f).guards = s.guards := rfl
@[simp] theorem State.modCrane_moves (s : State) (c : CraneId) (f : CraneRec → CraneRec) :
    (s.modCrane c f).moves = { s.moves with cranes := s.moves.cranes.set c.val (f (s.crane c)) c.isLt } := rfl
@[simp] theorem State.modCrane_line (s : State) (c : CraneId) (f : CraneRec → CraneRec) :
    (s.modCrane c f).line = s.line := rfl
@[simp] theorem State.modCrane_host (s : State) (c : CraneId) (f : CraneRec → CraneRec) :
    (s.modCrane c f).host = s.host := rfl
@[simp] theorem State.modCrane_now (s : State) (c : CraneId) (f : CraneRec → CraneRec) :
    (s.modCrane c f).now = s.now := rfl
@[simp] theorem State.modCrane_work (s : State) (c : CraneId) (f : CraneRec → CraneRec) :
    (s.modCrane c f).work = s.work := rfl
@[simp] theorem State.modCrane_pending (s : State) (c : CraneId) (f : CraneRec → CraneRec) :
    (s.modCrane c f).pending = s.pending := rfl

/-! ## modUnit -/

@[simp] theorem State.modUnit_hall (s : State) (u : UnitId) (f : UnitRec → UnitRec) :
    (s.modUnit u f).hall = s.hall := rfl
@[simp] theorem State.modUnit_stock (s : State) (u : UnitId) (f : UnitRec → UnitRec) :
    (s.modUnit u f).stock = s.stock := rfl
@[simp] theorem State.modUnit_alloc (s : State) (u : UnitId) (f : UnitRec → UnitRec) :
    (s.modUnit u f).alloc = s.alloc := rfl
@[simp] theorem State.modUnit_tables (s : State) (u : UnitId) (f : UnitRec → UnitRec) :
    (s.modUnit u f).tables = s.tables := rfl
@[simp] theorem State.modUnit_composer (s : State) (u : UnitId) (f : UnitRec → UnitRec) :
    (s.modUnit u f).composer = s.composer := rfl
@[simp] theorem State.modUnit_flags (s : State) (u : UnitId) (f : UnitRec → UnitRec) :
    (s.modUnit u f).flags = s.flags := rfl
@[simp] theorem State.modUnit_guards (s : State) (u : UnitId) (f : UnitRec → UnitRec) :
    (s.modUnit u f).guards = s.guards := rfl
@[simp] theorem State.modUnit_moves (s : State) (u : UnitId) (f : UnitRec → UnitRec) :
    (s.modUnit u f).moves = s.moves := rfl
@[simp] theorem State.modUnit_line (s : State) (u : UnitId) (f : UnitRec → UnitRec) :
    (s.modUnit u f).line = { s.line with units := s.line.units.set u.val (f (s.unit u)) u.isLt } := rfl
@[simp] theorem State.modUnit_host (s : State) (u : UnitId) (f : UnitRec → UnitRec) :
    (s.modUnit u f).host = s.host := rfl
@[simp] theorem State.modUnit_now (s : State) (u : UnitId) (f : UnitRec → UnitRec) : (s.modUnit u f).now = s.now := rfl
@[simp] theorem State.modUnit_work (s : State) (u : UnitId) (f : UnitRec → UnitRec) :
    (s.modUnit u f).work = s.work := rfl
@[simp] theorem State.modUnit_pending (s : State) (u : UnitId) (f : UnitRec → UnitRec) :
    (s.modUnit u f).pending = s.pending := rfl

/-! ## setGuard -/

@[simp] theorem State.setGuard_hall (s : State) (z : Zone) (g : GuardRec) : (s.setGuard z g).hall = s.hall := rfl
@[simp] theorem State.setGuard_stock (s : State) (z : Zone) (g : GuardRec) : (s.setGuard z g).stock = s.stock := rfl
@[simp] theorem State.setGuard_alloc (s : State) (z : Zone) (g : GuardRec) : (s.setGuard z g).alloc = s.alloc := rfl
@[simp] theorem State.setGuard_tables (s : State) (z : Zone) (g : GuardRec) : (s.setGuard z g).tables = s.tables := rfl
@[simp] theorem State.setGuard_composer (s : State) (z : Zone) (g : GuardRec) :
    (s.setGuard z g).composer = s.composer := rfl
@[simp] theorem State.setGuard_flags (s : State) (z : Zone) (g : GuardRec) : (s.setGuard z g).flags = s.flags := rfl
@[simp] theorem State.setGuard_guards (s : State) (z : Zone) (g : GuardRec) :
    (s.setGuard z g).guards = s.guards.set z.val g z.isLt := rfl
@[simp] theorem State.setGuard_moves (s : State) (z : Zone) (g : GuardRec) : (s.setGuard z g).moves = s.moves := rfl
@[simp] theorem State.setGuard_line (s : State) (z : Zone) (g : GuardRec) : (s.setGuard z g).line = s.line := rfl
@[simp] theorem State.setGuard_host (s : State) (z : Zone) (g : GuardRec) : (s.setGuard z g).host = s.host := rfl
@[simp] theorem State.setGuard_now (s : State) (z : Zone) (g : GuardRec) : (s.setGuard z g).now = s.now := rfl
@[simp] theorem State.setGuard_work (s : State) (z : Zone) (g : GuardRec) : (s.setGuard z g).work = s.work := rfl
@[simp] theorem State.setGuard_pending (s : State) (z : Zone) (g : GuardRec) :
    (s.setGuard z g).pending = s.pending := rfl

/-! ## setFlagRec -/

@[simp] theorem State.setFlagRec_hall (s : State) (f : FlagId) (r : FlagRec) : (s.setFlagRec f r).hall = s.hall := rfl
@[simp] theorem State.setFlagRec_stock (s : State) (f : FlagId) (r : FlagRec) :
    (s.setFlagRec f r).stock = s.stock := rfl
@[simp] theorem State.setFlagRec_alloc (s : State) (f : FlagId) (r : FlagRec) :
    (s.setFlagRec f r).alloc = s.alloc := rfl
@[simp] theorem State.setFlagRec_tables (s : State) (f : FlagId) (r : FlagRec) :
    (s.setFlagRec f r).tables = s.tables := rfl
@[simp] theorem State.setFlagRec_composer (s : State) (f : FlagId) (r : FlagRec) :
    (s.setFlagRec f r).composer = s.composer := rfl
@[simp] theorem State.setFlagRec_flags (s : State) (f : FlagId) (r : FlagRec) :
    (s.setFlagRec f r).flags = s.flags.set f.val r f.isLt := rfl
@[simp] theorem State.setFlagRec_guards (s : State) (f : FlagId) (r : FlagRec) :
    (s.setFlagRec f r).guards = s.guards := rfl
@[simp] theorem State.setFlagRec_moves (s : State) (f : FlagId) (r : FlagRec) :
    (s.setFlagRec f r).moves = s.moves := rfl
@[simp] theorem State.setFlagRec_line (s : State) (f : FlagId) (r : FlagRec) : (s.setFlagRec f r).line = s.line := rfl
@[simp] theorem State.setFlagRec_host (s : State) (f : FlagId) (r : FlagRec) : (s.setFlagRec f r).host = s.host := rfl
@[simp] theorem State.setFlagRec_now (s : State) (f : FlagId) (r : FlagRec) : (s.setFlagRec f r).now = s.now := rfl
@[simp] theorem State.setFlagRec_work (s : State) (f : FlagId) (r : FlagRec) : (s.setFlagRec f r).work = s.work := rfl
@[simp] theorem State.setFlagRec_pending (s : State) (f : FlagId) (r : FlagRec) :
    (s.setFlagRec f r).pending = s.pending := rfl

/-! ## setBeacon -/

@[simp] theorem State.setBeacon_hall (s : State) (n : OutputId) (b : Beacon) :
    (s.setBeacon n b).hall = { s.hall with beacons := s.hall.beacons.set n.val b n.isLt } := rfl
@[simp] theorem State.setBeacon_stock (s : State) (n : OutputId) (b : Beacon) : (s.setBeacon n b).stock = s.stock := rfl
@[simp] theorem State.setBeacon_alloc (s : State) (n : OutputId) (b : Beacon) : (s.setBeacon n b).alloc = s.alloc := rfl
@[simp] theorem State.setBeacon_tables (s : State) (n : OutputId) (b : Beacon) :
    (s.setBeacon n b).tables = s.tables := rfl
@[simp] theorem State.setBeacon_composer (s : State) (n : OutputId) (b : Beacon) :
    (s.setBeacon n b).composer = s.composer := rfl
@[simp] theorem State.setBeacon_flags (s : State) (n : OutputId) (b : Beacon) : (s.setBeacon n b).flags = s.flags := rfl
@[simp] theorem State.setBeacon_guards (s : State) (n : OutputId) (b : Beacon) :
    (s.setBeacon n b).guards = s.guards := rfl
@[simp] theorem State.setBeacon_moves (s : State) (n : OutputId) (b : Beacon) : (s.setBeacon n b).moves = s.moves := rfl
@[simp] theorem State.setBeacon_line (s : State) (n : OutputId) (b : Beacon) : (s.setBeacon n b).line = s.line := rfl
@[simp] theorem State.setBeacon_host (s : State) (n : OutputId) (b : Beacon) : (s.setBeacon n b).host = s.host := rfl
@[simp] theorem State.setBeacon_now (s : State) (n : OutputId) (b : Beacon) : (s.setBeacon n b).now = s.now := rfl
@[simp] theorem State.setBeacon_work (s : State) (n : OutputId) (b : Beacon) : (s.setBeacon n b).work = s.work := rfl
@[simp] theorem State.setBeacon_pending (s : State) (n : OutputId) (b : Beacon) :
    (s.setBeacon n b).pending = s.pending := rfl

/-! ## setRecs -/

@[simp] theorem State.setRecs_hall (s : State) (l : List StockRec) : (s.setRecs l).hall = s.hall := rfl
@[simp] theorem State.setRecs_stock (s : State) (l : List StockRec) :
    (s.setRecs l).stock = { s.stock with recs := l } := rfl
@[simp] theorem State.setRecs_alloc (s : State) (l : List StockRec) : (s.setRecs l).alloc = s.alloc := rfl
@[simp] theorem State.setRecs_tables (s : State) (l : List StockRec) : (s.setRecs l).tables = s.tables := rfl
@[simp] theorem State.setRecs_composer (s : State) (l : List StockRec) : (s.setRecs l).composer = s.composer := rfl
@[simp] theorem State.setRecs_flags (s : State) (l : List StockRec) : (s.setRecs l).flags = s.flags := rfl
@[simp] theorem State.setRecs_guards (s : State) (l : List StockRec) : (s.setRecs l).guards = s.guards := rfl
@[simp] theorem State.setRecs_moves (s : State) (l : List StockRec) : (s.setRecs l).moves = s.moves := rfl
@[simp] theorem State.setRecs_line (s : State) (l : List StockRec) : (s.setRecs l).line = s.line := rfl
@[simp] theorem State.setRecs_host (s : State) (l : List StockRec) : (s.setRecs l).host = s.host := rfl
@[simp] theorem State.setRecs_now (s : State) (l : List StockRec) : (s.setRecs l).now = s.now := rfl
@[simp] theorem State.setRecs_work (s : State) (l : List StockRec) : (s.setRecs l).work = s.work := rfl
@[simp] theorem State.setRecs_pending (s : State) (l : List StockRec) : (s.setRecs l).pending = s.pending := rfl

/-! ## stockChanged -/

@[simp] theorem State.stockChanged_hall (s : State) : (s.stockChanged).hall = s.hall := rfl
@[simp] theorem State.stockChanged_stock (s : State) : (s.stockChanged).stock = { s.stock with changed := true } := rfl
@[simp] theorem State.stockChanged_alloc (s : State) : (s.stockChanged).alloc = s.alloc := rfl
@[simp] theorem State.stockChanged_tables (s : State) : (s.stockChanged).tables = s.tables := rfl
@[simp] theorem State.stockChanged_composer (s : State) : (s.stockChanged).composer = s.composer := rfl
@[simp] theorem State.stockChanged_flags (s : State) : (s.stockChanged).flags = s.flags := rfl
@[simp] theorem State.stockChanged_guards (s : State) : (s.stockChanged).guards = s.guards := rfl
@[simp] theorem State.stockChanged_moves (s : State) : (s.stockChanged).moves = s.moves := rfl
@[simp] theorem State.stockChanged_line (s : State) : (s.stockChanged).line = s.line := rfl
@[simp] theorem State.stockChanged_host (s : State) : (s.stockChanged).host = s.host := rfl
@[simp] theorem State.stockChanged_now (s : State) : (s.stockChanged).now = s.now := rfl
@[simp] theorem State.stockChanged_work (s : State) : (s.stockChanged).work = s.work := rfl
@[simp] theorem State.stockChanged_pending (s : State) : (s.stockChanged).pending = s.pending := rfl

/-! ## setQueue -/

@[simp] theorem State.setQueue_hall (s : State) (q : List MoveRec) : (s.setQueue q).hall = s.hall := rfl
@[simp] theorem State.setQueue_stock (s : State) (q : List MoveRec) : (s.setQueue q).stock = s.stock := rfl
@[simp] theorem State.setQueue_alloc (s : State) (q : List MoveRec) : (s.setQueue q).alloc = s.alloc := rfl
@[simp] theorem State.setQueue_tables (s : State) (q : List MoveRec) : (s.setQueue q).tables = s.tables := rfl
@[simp] theorem State.setQueue_composer (s : State) (q : List MoveRec) : (s.setQueue q).composer = s.composer := rfl
@[simp] theorem State.setQueue_flags (s : State) (q : List MoveRec) : (s.setQueue q).flags = s.flags := rfl
@[simp] theorem State.setQueue_guards (s : State) (q : List MoveRec) : (s.setQueue q).guards = s.guards := rfl
@[simp] theorem State.setQueue_moves (s : State) (q : List MoveRec) :
    (s.setQueue q).moves = { s.moves with queue := q } := rfl
@[simp] theorem State.setQueue_line (s : State) (q : List MoveRec) : (s.setQueue q).line = s.line := rfl
@[simp] theorem State.setQueue_host (s : State) (q : List MoveRec) : (s.setQueue q).host = s.host := rfl
@[simp] theorem State.setQueue_now (s : State) (q : List MoveRec) : (s.setQueue q).now = s.now := rfl
@[simp] theorem State.setQueue_work (s : State) (q : List MoveRec) : (s.setQueue q).work = s.work := rfl
@[simp] theorem State.setQueue_pending (s : State) (q : List MoveRec) : (s.setQueue q).pending = s.pending := rfl

/-! ## wantAttempt -/

@[simp] theorem State.wantAttempt_hall (s : State) : (s.wantAttempt).hall = s.hall := rfl
@[simp] theorem State.wantAttempt_stock (s : State) : (s.wantAttempt).stock = s.stock := rfl
@[simp] theorem State.wantAttempt_alloc (s : State) : (s.wantAttempt).alloc = s.alloc := rfl
@[simp] theorem State.wantAttempt_tables (s : State) : (s.wantAttempt).tables = s.tables := rfl
@[simp] theorem State.wantAttempt_composer (s : State) : (s.wantAttempt).composer = s.composer := rfl
@[simp] theorem State.wantAttempt_flags (s : State) : (s.wantAttempt).flags = s.flags := rfl
@[simp] theorem State.wantAttempt_guards (s : State) : (s.wantAttempt).guards = s.guards := rfl
@[simp] theorem State.wantAttempt_moves (s : State) :
    (s.wantAttempt).moves = { s.moves with attempts := s.moves.attempts + 1 } := rfl
@[simp] theorem State.wantAttempt_line (s : State) : (s.wantAttempt).line = s.line := rfl
@[simp] theorem State.wantAttempt_host (s : State) : (s.wantAttempt).host = s.host := rfl
@[simp] theorem State.wantAttempt_now (s : State) : (s.wantAttempt).now = s.now := rfl
@[simp] theorem State.wantAttempt_work (s : State) : (s.wantAttempt).work = s.work := rfl
@[simp] theorem State.wantAttempt_pending (s : State) : (s.wantAttempt).pending = s.pending := rfl

/-! ## setSpaceWaits -/

@[simp] theorem State.setSpaceWaits_hall (s : State) (l : List TableId) : (s.setSpaceWaits l).hall = s.hall := rfl
@[simp] theorem State.setSpaceWaits_stock (s : State) (l : List TableId) : (s.setSpaceWaits l).stock = s.stock := rfl
@[simp] theorem State.setSpaceWaits_alloc (s : State) (l : List TableId) : (s.setSpaceWaits l).alloc = s.alloc := rfl
@[simp] theorem State.setSpaceWaits_tables (s : State) (l : List TableId) : (s.setSpaceWaits l).tables = s.tables := rfl
@[simp] theorem State.setSpaceWaits_composer (s : State) (l : List TableId) :
    (s.setSpaceWaits l).composer = s.composer := rfl
@[simp] theorem State.setSpaceWaits_flags (s : State) (l : List TableId) : (s.setSpaceWaits l).flags = s.flags := rfl
@[simp] theorem State.setSpaceWaits_guards (s : State) (l : List TableId) : (s.setSpaceWaits l).guards = s.guards := rfl
@[simp] theorem State.setSpaceWaits_moves (s : State) (l : List TableId) :
    (s.setSpaceWaits l).moves = { s.moves with spaceWaits := l } := rfl
@[simp] theorem State.setSpaceWaits_line (s : State) (l : List TableId) : (s.setSpaceWaits l).line = s.line := rfl
@[simp] theorem State.setSpaceWaits_host (s : State) (l : List TableId) : (s.setSpaceWaits l).host = s.host := rfl
@[simp] theorem State.setSpaceWaits_now (s : State) (l : List TableId) : (s.setSpaceWaits l).now = s.now := rfl
@[simp] theorem State.setSpaceWaits_work (s : State) (l : List TableId) : (s.setSpaceWaits l).work = s.work := rfl
@[simp] theorem State.setSpaceWaits_pending (s : State) (l : List TableId) :
    (s.setSpaceWaits l).pending = s.pending := rfl

/-! ## setWaits -/

@[simp] theorem State.setWaits_hall (s : State) (l : List WaitEntry) : (s.setWaits l).hall = s.hall := rfl
@[simp] theorem State.setWaits_stock (s : State) (l : List WaitEntry) : (s.setWaits l).stock = s.stock := rfl
@[simp] theorem State.setWaits_alloc (s : State) (l : List WaitEntry) :
    (s.setWaits l).alloc = { s.alloc with waits := l } := rfl
@[simp] theorem State.setWaits_tables (s : State) (l : List WaitEntry) : (s.setWaits l).tables = s.tables := rfl
@[simp] theorem State.setWaits_composer (s : State) (l : List WaitEntry) : (s.setWaits l).composer = s.composer := rfl
@[simp] theorem State.setWaits_flags (s : State) (l : List WaitEntry) : (s.setWaits l).flags = s.flags := rfl
@[simp] theorem State.setWaits_guards (s : State) (l : List WaitEntry) : (s.setWaits l).guards = s.guards := rfl
@[simp] theorem State.setWaits_moves (s : State) (l : List WaitEntry) : (s.setWaits l).moves = s.moves := rfl
@[simp] theorem State.setWaits_line (s : State) (l : List WaitEntry) : (s.setWaits l).line = s.line := rfl
@[simp] theorem State.setWaits_host (s : State) (l : List WaitEntry) : (s.setWaits l).host = s.host := rfl
@[simp] theorem State.setWaits_now (s : State) (l : List WaitEntry) : (s.setWaits l).now = s.now := rfl
@[simp] theorem State.setWaits_work (s : State) (l : List WaitEntry) : (s.setWaits l).work = s.work := rfl
@[simp] theorem State.setWaits_pending (s : State) (l : List WaitEntry) : (s.setWaits l).pending = s.pending := rfl

/-! ## setComposer -/

@[simp] theorem State.setComposer_hall (s : State) (c : Composer) : (s.setComposer c).hall = s.hall := rfl
@[simp] theorem State.setComposer_stock (s : State) (c : Composer) : (s.setComposer c).stock = s.stock := rfl
@[simp] theorem State.setComposer_alloc (s : State) (c : Composer) : (s.setComposer c).alloc = s.alloc := rfl
@[simp] theorem State.setComposer_tables (s : State) (c : Composer) : (s.setComposer c).tables = s.tables := rfl
@[simp] theorem State.setComposer_composer (s : State) (c : Composer) : (s.setComposer c).composer = c := rfl
@[simp] theorem State.setComposer_flags (s : State) (c : Composer) : (s.setComposer c).flags = s.flags := rfl
@[simp] theorem State.setComposer_guards (s : State) (c : Composer) : (s.setComposer c).guards = s.guards := rfl
@[simp] theorem State.setComposer_moves (s : State) (c : Composer) : (s.setComposer c).moves = s.moves := rfl
@[simp] theorem State.setComposer_line (s : State) (c : Composer) : (s.setComposer c).line = s.line := rfl
@[simp] theorem State.setComposer_host (s : State) (c : Composer) : (s.setComposer c).host = s.host := rfl
@[simp] theorem State.setComposer_now (s : State) (c : Composer) : (s.setComposer c).now = s.now := rfl
@[simp] theorem State.setComposer_work (s : State) (c : Composer) : (s.setComposer c).work = s.work := rfl
@[simp] theorem State.setComposer_pending (s : State) (c : Composer) : (s.setComposer c).pending = s.pending := rfl

/-! ## setHost -/

@[simp] theorem State.setHost_hall (s : State) (h : HostLine) : (s.setHost h).hall = s.hall := rfl
@[simp] theorem State.setHost_stock (s : State) (h : HostLine) : (s.setHost h).stock = s.stock := rfl
@[simp] theorem State.setHost_alloc (s : State) (h : HostLine) : (s.setHost h).alloc = s.alloc := rfl
@[simp] theorem State.setHost_tables (s : State) (h : HostLine) : (s.setHost h).tables = s.tables := rfl
@[simp] theorem State.setHost_composer (s : State) (h : HostLine) : (s.setHost h).composer = s.composer := rfl
@[simp] theorem State.setHost_flags (s : State) (h : HostLine) : (s.setHost h).flags = s.flags := rfl
@[simp] theorem State.setHost_guards (s : State) (h : HostLine) : (s.setHost h).guards = s.guards := rfl
@[simp] theorem State.setHost_moves (s : State) (h : HostLine) : (s.setHost h).moves = s.moves := rfl
@[simp] theorem State.setHost_line (s : State) (h : HostLine) : (s.setHost h).line = s.line := rfl
@[simp] theorem State.setHost_host (s : State) (h : HostLine) : (s.setHost h).host = h := rfl
@[simp] theorem State.setHost_now (s : State) (h : HostLine) : (s.setHost h).now = s.now := rfl
@[simp] theorem State.setHost_work (s : State) (h : HostLine) : (s.setHost h).work = s.work := rfl
@[simp] theorem State.setHost_pending (s : State) (h : HostLine) : (s.setHost h).pending = s.pending := rfl

/-! ## setHand -/

@[simp] theorem State.setHand_hall (s : State) (h : Hand) : (s.setHand h).hall = s.hall := rfl
@[simp] theorem State.setHand_stock (s : State) (h : Hand) : (s.setHand h).stock = s.stock := rfl
@[simp] theorem State.setHand_alloc (s : State) (h : Hand) : (s.setHand h).alloc = s.alloc := rfl
@[simp] theorem State.setHand_tables (s : State) (h : Hand) : (s.setHand h).tables = s.tables := rfl
@[simp] theorem State.setHand_composer (s : State) (h : Hand) : (s.setHand h).composer = s.composer := rfl
@[simp] theorem State.setHand_flags (s : State) (h : Hand) : (s.setHand h).flags = s.flags := rfl
@[simp] theorem State.setHand_guards (s : State) (h : Hand) : (s.setHand h).guards = s.guards := rfl
@[simp] theorem State.setHand_moves (s : State) (h : Hand) : (s.setHand h).moves = s.moves := rfl
@[simp] theorem State.setHand_line (s : State) (h : Hand) : (s.setHand h).line = s.line := rfl
@[simp] theorem State.setHand_host (s : State) (h : Hand) : (s.setHand h).host = { s.host with hand := h } := rfl
@[simp] theorem State.setHand_now (s : State) (h : Hand) : (s.setHand h).now = s.now := rfl
@[simp] theorem State.setHand_work (s : State) (h : Hand) : (s.setHand h).work = s.work := rfl
@[simp] theorem State.setHand_pending (s : State) (h : Hand) : (s.setHand h).pending = s.pending := rfl

/-! ## accept -/

@[simp] theorem State.accept_hall (s : State) (b : Accept) : (s.accept b).hall = s.hall := rfl
@[simp] theorem State.accept_stock (s : State) (b : Accept) : (s.accept b).stock = s.stock := rfl
@[simp] theorem State.accept_alloc (s : State) (b : Accept) : (s.accept b).alloc = s.alloc := rfl
@[simp] theorem State.accept_tables (s : State) (b : Accept) : (s.accept b).tables = s.tables := rfl
@[simp] theorem State.accept_composer (s : State) (b : Accept) : (s.accept b).composer = s.composer := rfl
@[simp] theorem State.accept_flags (s : State) (b : Accept) : (s.accept b).flags = s.flags := rfl
@[simp] theorem State.accept_guards (s : State) (b : Accept) : (s.accept b).guards = s.guards := rfl
@[simp] theorem State.accept_moves (s : State) (b : Accept) : (s.accept b).moves = s.moves := rfl
@[simp] theorem State.accept_line (s : State) (b : Accept) : (s.accept b).line = s.line := rfl
@[simp] theorem State.accept_host (s : State) (b : Accept) :
    (s.accept b).host = { s.host with hand := .ready (.accept b) } := rfl
@[simp] theorem State.accept_now (s : State) (b : Accept) : (s.accept b).now = s.now := rfl
@[simp] theorem State.accept_work (s : State) (b : Accept) : (s.accept b).work = s.work := rfl
@[simp] theorem State.accept_pending (s : State) (b : Accept) : (s.accept b).pending = s.pending := rfl

/-! ## refuse -/

@[simp] theorem State.refuse_hall (s : State) (c : Code) : (s.refuse c).hall = s.hall := rfl
@[simp] theorem State.refuse_stock (s : State) (c : Code) : (s.refuse c).stock = s.stock := rfl
@[simp] theorem State.refuse_alloc (s : State) (c : Code) : (s.refuse c).alloc = s.alloc := rfl
@[simp] theorem State.refuse_tables (s : State) (c : Code) : (s.refuse c).tables = s.tables := rfl
@[simp] theorem State.refuse_composer (s : State) (c : Code) : (s.refuse c).composer = s.composer := rfl
@[simp] theorem State.refuse_flags (s : State) (c : Code) : (s.refuse c).flags = s.flags := rfl
@[simp] theorem State.refuse_guards (s : State) (c : Code) : (s.refuse c).guards = s.guards := rfl
@[simp] theorem State.refuse_moves (s : State) (c : Code) : (s.refuse c).moves = s.moves := rfl
@[simp] theorem State.refuse_line (s : State) (c : Code) : (s.refuse c).line = s.line := rfl
@[simp] theorem State.refuse_host (s : State) (c : Code) :
    (s.refuse c).host = { s.host with hand := .ready (.refuse c .none) } := rfl
@[simp] theorem State.refuse_now (s : State) (c : Code) : (s.refuse c).now = s.now := rfl
@[simp] theorem State.refuse_work (s : State) (c : Code) : (s.refuse c).work = s.work := rfl
@[simp] theorem State.refuse_pending (s : State) (c : Code) : (s.refuse c).pending = s.pending := rfl

/-! ## raise -/

@[simp] theorem State.raise_hall (s : State) (r : Report) : (s.raise r).hall = s.hall := rfl
@[simp] theorem State.raise_stock (s : State) (r : Report) : (s.raise r).stock = s.stock := rfl
@[simp] theorem State.raise_alloc (s : State) (r : Report) : (s.raise r).alloc = s.alloc := rfl
@[simp] theorem State.raise_tables (s : State) (r : Report) : (s.raise r).tables = s.tables := rfl
@[simp] theorem State.raise_composer (s : State) (r : Report) : (s.raise r).composer = s.composer := rfl
@[simp] theorem State.raise_flags (s : State) (r : Report) : (s.raise r).flags = s.flags := rfl
@[simp] theorem State.raise_guards (s : State) (r : Report) : (s.raise r).guards = s.guards := rfl
@[simp] theorem State.raise_moves (s : State) (r : Report) : (s.raise r).moves = s.moves := rfl
@[simp] theorem State.raise_line (s : State) (r : Report) : (s.raise r).line = s.line := rfl
@[simp] theorem State.raise_host (s : State) (r : Report) : (s.raise r).host = s.host.report r := rfl
@[simp] theorem State.raise_now (s : State) (r : Report) : (s.raise r).now = s.now := rfl
@[simp] theorem State.raise_work (s : State) (r : Report) : (s.raise r).work = s.work := rfl
@[simp] theorem State.raise_pending (s : State) (r : Report) : (s.raise r).pending = s.pending := rfl

/-! ## closeWindow -/

@[simp] theorem State.closeWindow_hall (s : State) : (s.closeWindow).hall = s.hall := rfl
@[simp] theorem State.closeWindow_stock (s : State) : (s.closeWindow).stock = s.stock := rfl
@[simp] theorem State.closeWindow_alloc (s : State) : (s.closeWindow).alloc = s.alloc := rfl
@[simp] theorem State.closeWindow_tables (s : State) : (s.closeWindow).tables = s.tables := rfl
@[simp] theorem State.closeWindow_composer (s : State) : (s.closeWindow).composer = s.composer := rfl
@[simp] theorem State.closeWindow_flags (s : State) : (s.closeWindow).flags = s.flags := rfl
@[simp] theorem State.closeWindow_guards (s : State) : (s.closeWindow).guards = s.guards := rfl
@[simp] theorem State.closeWindow_moves (s : State) : (s.closeWindow).moves = s.moves := rfl
@[simp] theorem State.closeWindow_line (s : State) : (s.closeWindow).line = { s.line with window := none } := rfl
@[simp] theorem State.closeWindow_host (s : State) : (s.closeWindow).host = s.host := rfl
@[simp] theorem State.closeWindow_now (s : State) : (s.closeWindow).now = s.now := rfl
@[simp] theorem State.closeWindow_work (s : State) : (s.closeWindow).work = s.work := rfl
@[simp] theorem State.closeWindow_pending (s : State) : (s.closeWindow).pending = s.pending := rfl

end Sys2Proof.Machine
end

