-- ==== Sys2Proof/Laws/Handling.lean ====
section
/-! SUPPORT. What one handling can do: the end of the work it sets off, the stock-change event it owes, the beacons, and
how a request is taken. -/

namespace Sys2Proof.Machine

/-! ## The work of a handling -/

theorem drain_of_done (n : Nat) (s : State) (h : s.work = []) : drain n s = s := by
  cases n with
  | zero => cases s; cases h; rfl
  | succ n => simp [drain, h]

theorem drain_of_task (n : Nat) (s : State) (t : Task) (ts : List Task) (h : s.work = t :: ts) :
    drain (n + 1) s = drain n (runTask t { s with work := ts }) := by simp [drain, h]

/-- A drain leaves no work, whatever the work did. -/
theorem drain_work (n : Nat) (s : State) : (drain n s).work = [] := by
  induction n generalizing s with
  | zero => rfl
  | succ n ih =>
    cases h : s.work with
    | nil => rw [drain_of_done _ _ h, h]
    | cons t ts => rw [drain_of_task _ _ _ _ h]; exact ih _

/-! ## The stock-change event -/

theorem takeChanged_of_clean (s : State) (h : s.stock.changed = false) : s.takeChanged = s := by
  simp [State.takeChanged, h]

theorem takeChanged_of_changed (s : State) (h : s.stock.changed = true) :
    s.takeChanged = { s with stock := { s.stock with events := s.stock.events + 1, changed := false } } := by
  simp [State.takeChanged, h]

theorem takeChanged_clean (s : State) : s.takeChanged.stock.changed = false := by
  cases h : s.stock.changed with
  | false => rw [takeChanged_of_clean s h, h]
  | true => rw [takeChanged_of_changed s h]

/-! ## The beacons -/

/-- What the source conditions depend on (Table 11-7). -/
theorem sourceHolds_congr (s s' : State) (hm : s'.hall.mode = s.hall.mode) (hs : s'.hall.stop = s.hall.stop)
    (hf : s'.hall.fault.held = s.hall.fault.held) (hk : s'.stock.map = s.stock.map) (ht : s'.tables = s.tables)
    (hg : s'.guards = s.guards) (hc : s'.moves.cranes = s.moves.cranes) : s'.sourceHolds = s.sourceHolds := by
  have h1 : s'.tab = s.tab := by funext t; rw [State.tab, ht]; rfl
  have h2 : s'.guard = s.guard := by funext z; rw [State.guard, hg]; rfl
  have h3 : s'.crane = s.crane := by funext c; rw [State.crane, hc]; rfl
  have h4 : s'.kindOf = s.kindOf := by funext z; rw [State.kindOf, hk]; rfl
  have h5 : s'.tableZone = s.tableZone := by funext t; unfold State.tableZone; rw [h4]
  funext b
  unfold State.sourceHolds
  rw [h1, h2, h3, h5, hf, hm, hs]

theorem Beacon.follow_follow (b : Beacon) (now : Nat) (holds : Bool) :
    (b.follow now holds).follow now holds = b.follow now holds := by
  cases holds <;> cases h : b.running <;> simp [Beacon.follow, h]

@[simp] theorem followBeacons_work (s : State) : s.followBeacons.work = s.work := rfl

@[simp] theorem followBeacons_stock (s : State) : s.followBeacons.stock = s.stock := rfl

theorem followBeacons_sources (s : State) : s.followBeacons.sourceHolds = s.sourceHolds :=
  sourceHolds_congr s _ rfl rfl rfl rfl rfl rfl rfl

theorem followBeacons_idem (s : State) : s.followBeacons.followBeacons = s.followBeacons := by
  have h := followBeacons_sources s
  have hb (b : Beacon) : (b.follow s.now (s.sourceHolds b.source)).source = b.source := by
    cases h1 : s.sourceHolds b.source <;> cases h2 : b.running <;> simp [Beacon.follow, h2]
  have hv : (s.hall.beacons.map (fun b => b.follow s.now (s.sourceHolds b.source))).map
      (fun b => b.follow s.now (s.sourceHolds b.source))
      = s.hall.beacons.map (fun b => b.follow s.now (s.sourceHolds b.source)) := by
    simp only [Vector.map_map]
    congr 1
    funext b
    simp [hb, Beacon.follow_follow]
  have : s.followBeacons.followBeacons
      = { s.followBeacons with hall := { s.followBeacons.hall with
            beacons := s.followBeacons.hall.beacons.map (fun b => b.follow s.now (s.sourceHolds b.source)) } } := by
    rw [State.followBeacons, h]; rfl
  rw [this]
  unfold State.followBeacons
  rw [hv]

/-- The beacons do not see the host line, the clock, the queues or the work of a handling. -/
theorem followBeacons_host (s : State) (h : HostLine) :
    ({ s with host := h } : State).followBeacons = { s.followBeacons with host := h } := by
  have : ({ s with host := h } : State).sourceHolds = s.sourceHolds := sourceHolds_congr s _ rfl rfl rfl rfl rfl rfl rfl
  unfold State.followBeacons
  rw [this]

/-! ## The end of a handling -/

theorem settle_of_done (s : State) (hw : s.work = []) (hc : s.stock.changed = false) : s.settle = s.followBeacons := by
  rw [State.settle, drain_of_done _ _ hw, takeChanged_of_clean _ hc]

theorem settle_of_changed (s : State) (hw : s.work = []) (hc : s.stock.changed = true) :
    s.settle = ({ s with stock := { s.stock with events := s.stock.events + 1, changed := false } } : State).followBeacons := by
  rw [State.settle, drain_of_done _ _ hw, takeChanged_of_changed _ hc]

theorem settle_of_task (s : State) (t : Task) (ts : List Task) (h : s.work = t :: ts) :
    s.settle = ((drain 65535 (runTask t { s with work := ts })).takeChanged).followBeacons := by
  rw [State.settle, show Config.handlingBound = 65535 + 1 from rfl, drain_of_task _ _ _ _ h]

/-- A reply to a settled state needs no further work. -/
theorem settle_setHand (s : State) (h : s.settled) (r : Hand) : (s.setHand r).settle = s.setHand r := by
  obtain ⟨hw, hc, hb⟩ := h
  rw [settle_of_done (s.setHand r) hw hc]
  show ({ s with host := { s.host with hand := r } } : State).followBeacons = _
  rw [followBeacons_host, hb]
  rfl

/-! ## Taking a command -/

theorem handled_of_running (f : State → State) (s : State) (h : s.hall.inReset = false) :
    handled f s = .next (f s).settle := by simp [handled, h]

theorem plain_of_running (f : State → State) (s : State) (h : s.hall.inReset = false) : plain f s = .next (f s) := by
  simp [plain, h]

theorem handled_of_reset (f : State → State) (s : State) (h : s.hall.inReset = true) : handled f s = .next s := by
  simp [handled, h]

theorem plain_of_reset (f : State → State) (s : State) (h : s.hall.inReset = true) : plain f s = .next s := by
  simp [plain, h]

/-- A request in hand is handled by its owner. -/
theorem request_of_takes (i : Instr) (f : State → State) (s : State) (h : s.takes i) :
    request i f s = .next (f s).settle := by simp [request, handled, h.1, h.2]

theorem ask_of_takes (i : Instr) (f : State → State) (s : State) (h : s.takes i) : ask i f s = .next (f s) := by
  simp [ask, plain, h.1, h.2]

/-- A request that is not in hand has no effect. -/
theorem ask_of_not_asked (i : Instr) (f : State → State) (s : State) (h : s.asked i = false) : ask i f s = .next s := by
  simp [ask, plain, h]

/-- A handling always ends in a next state. -/
theorem handled_next (f : State → State) (s : State) : ∃ t, handled f s = .next t := by
  unfold handled; split <;> exact ⟨_, rfl⟩

theorem plain_next (f : State → State) (s : State) : ∃ t, plain f s = .next t := by
  unfold plain; split <;> exact ⟨_, rfl⟩

/-! ## Reports and captures -/

/-- Everything a report can do to the host line (R218, R219). -/
theorem HostLine.report_spec (h : HostLine) (r : Report) :
    h.report r = { h with
      status := h.status ||| r.cls.mask,
      reports := if h.mask &&& r.cls.mask = 0 ∧ h.reports.length < Config.maxReports then h.reports ++ [r] else h.reports,
      reportLost := if h.mask &&& r.cls.mask = 0 ∧ Config.maxReports ≤ h.reports.length then true else h.reportLost } := by
  unfold HostLine.report
  by_cases hm : h.mask &&& r.cls.mask = 0#8
  · by_cases hl : Config.maxReports ≤ h.reports.length
    · have : ¬ h.reports.length < Config.maxReports := by omega
      simp [hm, hl, this]
    · have : h.reports.length < Config.maxReports := by omega
      simp [hm, hl, this]
  · simp [hm]

/-- A capture writes the first-fault record and raises at most one report: nothing else changes (R211). -/
theorem capture_frame (s : State) (cls : FaultClass) (src : FaultSource) (code : FaultCode) (index : Option Nat) :
    ∃ f h, s.capture cls src code index = { s with hall := { s.hall with fault := f }, host := h } := by
  unfold State.capture
  cases s.hall.fault.held with
  | none => exact ⟨_, _, rfl⟩
  | some g =>
    dsimp only
    split
    · exact ⟨_, _, rfl⟩
    · exact ⟨_, s.host, rfl⟩

end Sys2Proof.Machine
end

