-- ==== Sys2Proof/Laws/Records.lean ====
section
/-! SUPPORT. Reading a numbered record after an update: the record updated, or the record as it was. -/

namespace Sys2Proof.Machine

/-- Reading a vector after one entry is set. -/
theorem vector_get_set {α : Type} {n : Nat} (v : Vector α n) (i j : Fin n) (x : α) :
    (v.set i.val x i.isLt).get j = if j = i then x else v.get j := by
  show (v.set i.val x i.isLt)[j.val] = if j = i then x else v[j.val]
  rw [Vector.getElem_set]
  by_cases h : j = i
  · simp [h]
  · rw [if_neg h, if_neg (fun e => h (Fin.ext e.symm))]

theorem State.tab_modTab (s : State) (t t' : TableId) (f : TableRec → TableRec) :
    (s.modTab t f).tab t' = if t' = t then f (s.tab t) else s.tab t' := vector_get_set _ _ _ _

@[simp] theorem State.tab_modTab_same (s : State) (t : TableId) (f : TableRec → TableRec) : (s.modTab t f).tab t = f (s.tab t) := by
  rw [State.tab_modTab, if_pos rfl]

theorem State.crane_modCrane (s : State) (c c' : CraneId) (f : CraneRec → CraneRec) :
    (s.modCrane c f).crane c' = if c' = c then f (s.crane c) else s.crane c' := vector_get_set _ _ _ _

@[simp] theorem State.crane_modCrane_same (s : State) (c : CraneId) (f : CraneRec → CraneRec) : (s.modCrane c f).crane c = f (s.crane c) := by
  rw [State.crane_modCrane, if_pos rfl]

theorem State.unit_modUnit (s : State) (u u' : UnitId) (f : UnitRec → UnitRec) :
    (s.modUnit u f).unit u' = if u' = u then f (s.unit u) else s.unit u' := vector_get_set _ _ _ _

@[simp] theorem State.unit_modUnit_same (s : State) (u : UnitId) (f : UnitRec → UnitRec) : (s.modUnit u f).unit u = f (s.unit u) := by
  rw [State.unit_modUnit, if_pos rfl]

theorem State.guard_setGuard (s : State) (z z' : Zone) (g : GuardRec) :
    (s.setGuard z g).guard z' = if z' = z then g else s.guard z' := vector_get_set _ _ _ _

@[simp] theorem State.guard_setGuard_same (s : State) (z : Zone) (g : GuardRec) : (s.setGuard z g).guard z = g := by
  rw [State.guard_setGuard, if_pos rfl]

theorem State.flag_setFlagRec (s : State) (f f' : FlagId) (r : FlagRec) :
    (s.setFlagRec f r).flag f' = if f' = f then r else s.flag f' := vector_get_set _ _ _ _

@[simp] theorem State.flag_setFlagRec_same (s : State) (f : FlagId) (r : FlagRec) : (s.setFlagRec f r).flag f = r := by
  rw [State.flag_setFlagRec, if_pos rfl]

theorem State.beacon_setBeacon (s : State) (n n' : OutputId) (b : Beacon) :
    (s.setBeacon n b).beacon n' = if n' = n then b else s.beacon n' := vector_get_set _ _ _ _

@[simp] theorem State.beacon_setBeacon_same (s : State) (n : OutputId) (b : Beacon) : (s.setBeacon n b).beacon n = b := by
  rw [State.beacon_setBeacon, if_pos rfl]

end Sys2Proof.Machine
end

