-- ==== Sys2Proof/Laws/Operations.lean ====
section
/-! SUPPORT. What the shared operations of the cranes and of the field line do: the ends of a move, a record laid down, and a
frame that is disregarded. -/

namespace Sys2Proof.Machine

/-- An ABSENT unit has no stray count (R201). -/
theorem State.strayFrame_of_absent (s : State) (u : UnitId) (h : (s.unit u).link = .absent) : s.strayFrame u = s := by
  simp [State.strayFrame, h]

theorem State.strayFrame_of_fitted (s : State) (u : UnitId) (h : (s.unit u).link ≠ .absent) : s.strayFrame u = s.stray u := by
  simp [State.strayFrame, h]

/-- A crane without a move in hand is left as it is; the crane of a move gives the move up (R173, R184). -/
theorem State.freeCrane_of_none (s : State) (m : MoveRec) (h : m.crane = none) : s.freeCrane m = s := by
  simp [State.freeCrane, h]

theorem State.crane_freeCrane (s : State) (m : MoveRec) (c k : CraneId) (h : m.crane = some c) :
    (s.freeCrane m).crane k = if k = c then { s.crane c with
      move := none, timer := none, hand := none, state := if (s.crane c).state = .busy then .idle else (s.crane c).state }
      else s.crane k := by
  simp only [State.freeCrane, h]
  exact State.crane_modCrane _ _ _ _

/-- A record that is laid down owes a stock-change event when it becomes AVAILABLE or comes to a STOCK zone (R13). -/
theorem State.layDown_changed (s : State) (id : Nat) (r : SlotRef) (st : StockState) :
    (s.layDown id r st).stock.changed = (s.stock.changed || decide (st = .available ∨ s.kindOf r.zone = .stock)) := by
  unfold State.layDown
  by_cases h : st = .available ∨ s.kindOf r.zone = .stock
  · rw [if_pos h, decide_eq_true h, Bool.or_true]; rfl
  · rw [if_neg h, decide_eq_false h, Bool.or_false]; rfl

/-- Every intact frame spells a frame of its kind (R191), whatever value its body holds. -/
theorem fieldMsgOf_of_intact (kind : Byte) (body : List Byte) (h : fieldIntact kind body = true) :
    (fieldMsgOf (kind.toNat % 128) body).isSome = true := by
  unfold fieldIntact at h
  generalize kind.toNat % 128 = n at h
  unfold fieldLengths at h
  split at h <;> rcases body with _ | ⟨_, _ | ⟨_, _ | ⟨_, _ | ⟨_, _ | ⟨_, _⟩⟩⟩⟩⟩ <;> first | rfl | simp at h

/-- Reading back what a number in an ACK or NAK names gives the number. -/
theorem namedNumber_namedCmdOf (n : Nat) : namedNumber (namedCmdOf n) = n := by
  unfold namedCmdOf cmdKindOf
  split <;> rfl

end Sys2Proof.Machine
end

