-- ==== Sys2Proof/Tests/Slice0.lean ====
section
/-! SUPPORT. Tests on figures the spec works out, ill-formed commands that are refused, and for every obligation with
hypotheses concrete states and operands that meet them. -/

open Sys2Proof Sys2Proof.Machine

namespace Sys2Proof.Tests

/- One test is checked after another: checked side by side, each waiting one takes a thread and the memory of its stack. -/
set_option Elab.async false

/-! ## Ill-formed commands -/

theorem test_ill_formed_bytes :
    wellFormed (.flagSet 256) = false ∧ wellFormed (.stockRemove 65536) = false ∧ wellFormed (.slotQuery 3 256) = false
      ∧ wellFormed (.stockList 0 0 256) = false ∧ wellFormed (.moveRecover 1 0 0 256) = false
      ∧ wellFormed (.progRead 1 1 256 1) = false ∧ wellFormed (.beaconSet 0 256 0 0) = false
      ∧ wellFormed (.picked 5 false 65536) = false ∧ wellFormed (.ack 256 false (.cmd .stop)) = false ∧ wellFormed (.nak 1 false (.other 9)) = false
      ∧ wellFormed (.status 5 false (.other (some 3) 1)) = false ∧ wellFormed (.status 5 false (.crane 256 true)) = false
      ∧ wellFormed (.contourDone 1 false 65536 0) = false ∧ wellFormed (.frameReject 1 true 256 0) = false := by decide

theorem test_ill_formed_lists :
    wellFormed (.hallMap (List.replicate 15 (0, 0))) = false ∧ wellFormed (.hallMap (List.replicate 16 (256, 0))) = false
      ∧ wellFormed (.progSteps 1 0 2 (List.replicate 19 0)) = false ∧ wellFormed (.markSerialSet 1 [0, 0, 1]) = false
      ∧ wellFormed (.frameEcho 1 true 0 0 2 [1, 2]) = false ∧ wellFormed (.passThroughAnswer 1 0 (List.replicate 256 0)) = false
      ∧ wellFormed (.requestUnknownKind ⟨7, 0, 0, List.replicate 248 0⟩) = false
      ∧ wellFormed (.passThroughFrame ⟨7, 0, 0, []⟩) = false ∧ wellFormed (.passThroughFrame ⟨0, 0, 0, []⟩) = false := by
  decide +kernel

theorem test_ill_formed_bodies :
    wellFormed (.stockRegister ⟨1, 0, 1, 1, 1, 1, 0, [0, 0, 0, 0, 0, 0, 0, 16], 0, 0, 0, 0⟩) = false
      ∧ wellFormed (.stockRegister ⟨1, 0, 1, 1, 1, 1, 0, [0, 0, 0, 0, 0, 0, 0], 0, 0, 0, 0⟩) = false
      ∧ wellFormed (.allocProbe ⟨12, 150, 65536, 1, 0⟩) = false
      ∧ wellFormed (.tableConfig 1 ⟨some 65536, none, none, none, none, none, none⟩) = false
      ∧ wellFormed (.craneConfig 1 ⟨none, none, some 65536⟩) = false
      ∧ wellFormed (.movePost ⟨0, 65536, 0, 0, 0, 0, 0⟩) = false
      ∧ wellFormed (.markDefine ⟨1, 2, [1], none, 0⟩) = false
      ∧ wellFormed (.markDefine ⟨1, 1, [1], some [255, 0, 0, 0], 0⟩) = false
      ∧ wellFormed (.markDefine ⟨1, 1, [1], some [1, 2, 3], 0⟩) = false := by decide

/-! ## Figures of the spec -/

/-- The check value of CRC-16 with polynomial 1021 hex and start value FFFF hex over the digits 1 to 9 (the host line's
CRC, R215; the value is the one published for that CRC). -/
theorem test_crc_check_value : crc16 [0x31, 0x32, 0x33, 0x34, 0x35, 0x36, 0x37, 0x38, 0x39] = 0x29B1#16 := by
  decide +kernel

/-- The masses of Table 2-9, and the expected mass of 9.4. -/
theorem test_masses_of_table_2_9 :
    massOf 5400000000 = 4239 ∧ massOf 3334500000 = 2618 ∧ massOf 2053800000 = 1612 ∧ massOf 11700000 = 9 := by decide

/-- Plate 118 of the worked examples of chapter 2. -/
def plate118 : StockRec :=
  { id := 118, kind := .plate, grade := 12, thick := 150, len := 12000, wid := 3000, heat := none, parent := none,
    gen := 0, age := 40, loc := .slot ⟨0, 1⟩ 0, state := .available, table := none, before := none, move := none }

/-- The configuration of the worked examples of chapter 2. -/
def cfgEx : TableCfg :=
  { kerf := 6, trim := 20, minLen := 500, minArea := 50, settle := 5, contourLimit := 900, wearLimit := 20000 }

/-- The kept remnant of chapter 2. -/
theorem test_derivation_kept : derive cfgEx plate118 7410 =
    { used := 7410, clamped := false, rem := 4564, reason := .none, vp := 5400000000, vn := 3334500000,
      vr := 2053800000, vs := 11700000 } := by decide +kernel

/-- The cases of Table 2-10. -/
theorem test_derivation_limits :
    let a := derive cfgEx plate118 12500
    let b := derive cfgEx { plate118 with len := 4000, wid := 500, thick := 120, gen := 1 } 3100
    let c := derive cfgEx { plate118 with len := 6000, wid := 2000, thick := 200, gen := 7 } 3000
    let d := derive cfgEx { plate118 with len := 6000, wid := 2000, thick := 200, gen := 6 } 3000
    (a.clamped = true ∧ a.rem = 0 ∧ a.reason = .short ∧ a.vn = 5400000000 ∧ a.vs = 0)
      ∧ (b.rem = 874 ∧ b.reason = .small ∧ b.vn = 186000000 ∧ b.vs = 54000000)
      ∧ (c.rem = 2974 ∧ c.reason = .generation ∧ c.vs = 1200000000)
      ∧ (d.reason = .none ∧ d.vr = 1189600000 ∧ d.vs = 10400000) := by
  decide +kernel

/-- The pierce costs of Table 5-4 for T = 150 and the contour of 5.7. -/
theorem test_wear_of_5_7 :
    pierceCost 1 150 = 8 ∧ pierceCost 1 100 = 5 ∧ pierceCost 1 101 = 8 ∧ warnThreshold 20000 = 17500
      ∧ wearStateOf 17499 20000 = .ok ∧ wearStateOf 17500 20000 = .warn ∧ wearStateOf 20000 20000 = .due := by decide

/-- A hall with every kind of zone. -/
def hallZones : Vector ZoneKind 16 :=
  #v[.stock, .park, .table 0, .park, .rack, .park, .table 1, .park, .output, .park, .table 2, .park, .table 3, .park,
    .stock, .park]

/-- The hall in RUN with that map, crane C1 in zone 1, C2 in zone 14, and no report waiting. -/
def base : State :=
  let s := State.reset
  ({ s with
    hall := { s.hall with mode := .run }
    stock := { s.stock with map := hallZones }
    host := { s.host with reports := [] } } : State).modCrane 0 (fun r => { r with pos := some 1 })
    |>.modCrane 1 (fun r => { r with pos := some 14 })

def setup : State := { base with hall := { base.hall with mode := .setup } }

/-- The hall stopped by an asserted or a released stop. -/
def stopped (asserted : Bool) : State :=
  ({ base with hall := { base.hall with mode := .stopped, stop := asserted } } : State).followBeacons

/-- The reset pin held. -/
def held : State := { base with hall := { base.hall with inReset := true } }

/-- The state with a frame as the request in hand. -/
def holding (f : HostFrame) (s : State) : State := { s with host := { s.host with buffer := [f], hand := .untaken } }

/-- The state with a request in hand. -/
def asking (i : Instr) (s : State) : State :=
  { s with host := { s.host with buffer := ((encodeFrame i 7).map (fun f => [f])).getD [], hand := .untaken } }

/-- A request in hand in a state where nothing of a handling is left over. -/
def inHand (i : Instr) (s : State) : Prop := s.takes i ∧ s.settled

/-- A program that waits for flag 3 before, between and after its work. -/
def waitSteps : List NestStep :=
  [.waitFlag 3, .plate .adopt ⟨0, 0, 0, 0, 0⟩, .waitFlag 3, .contour 7 2, .waitFlag 3, .finish]

/-- Table T1 with that program at a step, in a state. -/
def running (st : TableState) (index : Nat) (loaded : Option Nat) (s : State) : State :=
  s.modTab 0 (fun r => { r with
    state := st, active := some { steps := waitSteps, index := index, loaded := loaded, remnantRan := false } })

/-- An answer window of a unit, open until 50 ms. -/
def windowed (u : UnitId) (k : WindowKind) (s : State) : State :=
  { s with line := { s.line with window := some { unit := u, kind := k, expiry := 50 } } }

/-- A command as unit records hold it outstanding. -/
def outOf (cmd : FieldCmd) (who : Sender) (hand : Nat) (inFlight : Bool) : Outstanding :=
  { cmd := { cmd := cmd, sender := who, hand := hand }, attempt := 1, inFlight := inFlight }

/-- A unit with a command in flight and its window open. -/
def flying (u : UnitId) (cmd : FieldCmd) (who : Sender) (hand : Nat) (s : State) : State :=
  (windowed u .command s).modUnit u (fun r => { r with out := some (outOf cmd who hand true) })

/-- Record 5, the top of stack (0, 1). -/
def plate : StockRec :=
  { id := 5, kind := .plate, grade := 3, thick := 250, len := 6000, wid := 2000, heat := none, parent := none, gen := 0,
    age := 1, loc := .slot ⟨0, 1⟩ 0, state := .available, table := none, before := none, move := none }

/-- A QUEUED move of the host. -/
def queuedMove (id : Nat) (l : Load) (src : Src) (dst : Dst) : MoveRec :=
  { id := id, origin := .host, load := l, src := src, srcZone := none, dst := dst, urgent := false, flag := none,
    quarantine := false, state := .queued, phase := none, returning := false, crane := none, span := none, holds := [],
    age := 3, mass := none }

/-- Move 4, of record 5 from stack (0, 1) to rack slot (4, 7), on its way with crane C1. -/
def onWay (ph : Phase) : MoveRec :=
  { queuedMove 4 (.stock 5) (.slot ⟨0, 1⟩) (.slot ⟨4, 7⟩) with
    srcZone := some 0, state := .dispatched, phase := some ph, crane := some 0, span := some ⟨0, 4⟩ }

/-- Crane C1 BUSY with a move, its phase timer due, and an offer window of its unit open. -/
def movedBy (m : MoveRec) (s : State) : State :=
  windowed 4 .offer ((s.setQueue [m]).modCrane 0 (fun r => { r with state := .busy, move := some m.id, timer := some 0 }))

/-- The same, its beacons following. -/
def busyWith (m : MoveRec) (s : State) : State := (movedBy m s).followBeacons

/-- Record 5 as move 4 carries it. -/
def carried (loc : Loc) : StockRec :=
  { plate with state := .moving, before := some .available, move := some 4, loc := loc }

/-- The selection of 2.3: remnant 61452 has the least waste; under PLATE_ONLY plate 118 wins; for Lr = 4300 remnant 61450
wins. -/
theorem test_selection_of_2_3 :
    let rec1 := { plate118 with id := 61450, kind := .remnant, len := 4564, loc := .slot ⟨0, 2⟩ 0 }
    let rec2 := { plate118 with id := 61452, kind := .remnant, len := 4200, wid := 2600, loc := .slot ⟨0, 3⟩ 0 }
    let s := base.setRecs [rec1, rec2, plate118]
    ((s.winner ⟨12, 150, 4000, 2500, false⟩).map StockRec.id, (s.winner ⟨12, 150, 4000, 2500, true⟩).map StockRec.id,
      (s.winner ⟨12, 150, 4300, 2500, false⟩).map StockRec.id) = (some 61452, some 118, some 61450) := by decide +kernel

/-- The commit of 3.10: the BED_STOCK move to an OUTPUT zone at position 6 fails with DESTINATION. -/
theorem test_commit_of_3_10 :
    let steps (zone slot : Nat) : List (Option NestStep) :=
      [.plate .allocate ⟨12, 150, 4000, 2500, 0⟩, .mark 21 150 200 .halt, .contour 1 2, .contour 2 1, .remnant 4100,
        .move .batch 7 8 0 (some 3) .noWait, .move .bedStock 0 zone slot none .wait, .setFlag 5, .finish].map some
    (match base.commitWalk [] (steps 8 1) with
      | .ok _ => none
      | .error e => some e) = some (6, .destination)
      ∧ (match base.commitWalk [] (steps 4 4) with
        | .ok l => l.length
        | .error _ => 0) = 9 := by decide +kernel

/-- The mark of 6.9: the serial goes from 0386 to 0387, and one of 9999 makes the record SPENT. -/
theorem test_serial_increase :
    let m : MarkRec := { id := 21, text := [], serial := some [0, 3, 8, 6], heat := false, spent := false }
    m.increase = { m with serial := some [0, 3, 8, 7] }
      ∧ { m with serial := some [9, 9, 9, 9] : MarkRec }.increase = { m with serial := some [9, 9, 9, 9], spent := true } := by
  decide

/-- The frames of Table 6-7. -/
theorem test_frames_of_table_6_7 :
    let m : MarkRec := { id := 21, text := [11, 1, 2, 36, 4, 4, 7, 1], serial := some [0, 3, 8, 6], heat := true, spent := false }
    let str := composedString m (some [4, 0, 7, 1, 6, 2, 2, 3])
    str.length = 22 ∧ frameCount str = 4
      ∧ (List.range 4).map (fun n => (markFrameOf 58 str n).check) = [0, 14, 15, 4]
      ∧ (markFrameOf 58 str 1).chars = [7, 1, 36, 0, 3, 8] ∧ (markFrameOf 58 str 3).chars = [6, 2, 2, 3] := by decide


/-! ## States that meet the hypotheses of the obligations, in their order -/

theorem test_hyps_IdleStepPassesAMillisecond :
    (base.pending = [] ∧ base.hall.inReset = false) ∧ held.pending = [] ∧ held.hall.inReset = true := by decide

theorem test_hyps_ResetPinHoldsThePart :
    held.hall.inReset = true ∧ Instr.hallRun ≠ .resetPinAsserted ∧ ∀ a b c d e, Instr.hallRun ≠ .powerOnReset a b c d e :=
  ⟨rfl, nofun, nofun⟩

theorem test_hyps_RequestsReadBack :
    (wellFormed (.flagSet 255) = true ∧ (encodeFrame (.flagSet 255) 7).isSome = true)
      ∧ (wellFormed (.markDefine ⟨255, 2, [0, 255], some [254, 255, 0, 0], 0⟩) = true
        ∧ (encodeFrame (.markDefine ⟨255, 2, [0, 255], some [254, 255, 0, 0], 0⟩) 7).isSome = true)
      ∧ wellFormed (.tableConfig 1 ⟨some 65535, none, some 0, none, none, none, some 1⟩) = true
      ∧ (encodeFrame (.tableConfig 1 ⟨some 65535, none, some 0, none, none, none, some 1⟩) 7).isSome = true := by decide

theorem test_hyps_RefusedRequestsChangeNothing :
    inHand (.progBegin 5 1) (asking (.progBegin 5 1) base)
      ∧ (∀ n, Instr.progBegin 5 1 ≠ .craneResume n) ∧ (∀ n, Instr.progBegin 5 1 ≠ .unitRestore n)
      ∧ exec (.progBegin 5 1) (asking (.progBegin 5 1) base) = .next ((asking (.progBegin 5 1) base).refuse .range) :=
  ⟨by unfold inHand State.takes State.settled; decide +kernel, nofun, nofun, rfl⟩

/-- A busy hall: table T1 CUTTING, T2 waiting for its plate, T3 for flag 3, T4 OFFLINE, crane C1 on its way. -/
def busyHall : State :=
  let s := base.setRecs [plate,
    { plate with id := 6, age := 2, state := .reserved, table := some 1, loc := .slot ⟨0, 2⟩ 0 },
    { plate with
      id := 7, age := 3, state := .moving, before := some .reserved, move := some 8, loc := .slot ⟨0, 3⟩ 0 }]
  let s : State := { s with stock := { s.stock with seq := 4 } }
  let s := s.setQueue [{ queuedMove 4 .none .none (.zone 9) with
      crane := some 0, state := .dispatched, phase := some .toDest },
    queuedMove 8 (.stock 7) (.slot ⟨0, 3⟩) (.slot ⟨6, 0⟩)]
  let s := s.modCrane 0 (fun r => { r with state := .busy, move := some 4, timer := some 90 })
  let s := (s.setPick ⟨0, 3⟩ (some 8)).beginDelivery ⟨6, 0⟩
  let s := (running .cutting 3 (some 5) s).modTab 0 (fun r =>
    { r with contour := some ⟨3, 2, true, false, 1⟩, timer := some 300 })
  let s := s.setGuard 2 { state := .arc, pending := some ⟨4, 0⟩, waiter := none }
  let s := s.modTab 1 (fun r =>
    { r with state := .plateWait, active := some ⟨waitSteps, 1, none, false⟩, claim := .move 8 (some 7) .open })
  let s := s.modTab 2 (fun r => { r with state := .flagWait, active := some ⟨waitSteps, 0, none, false⟩ })
  let s := s.setFlagRec 3 ⟨false, false, [2]⟩
  let s := s.modTab 3 (fun r => { r with state := .offline })
  let s := s.modUnit 3 (fun r => { r with link := .offline, fails := 3 })
  s.followBeacons

/-- The busy hall, in which the hall stop is asserted next. -/
def busyStep : State := { busyHall with pending := [.hallStopAsserted 10] }

/-- The states of the step invariants: the busy hall meets them, and its step answers a next state. -/
theorem test_hyps_step_invariants :
    (busyStep.guardsOk ∧ busyStep.flagsOk ∧ busyStep.wearOk ∧ busyStep.withinBounds ∧ busyStep.between)
      ∧ (match step busyStep with
        | .next t => t.hall.mode
        | _ => .setup) = .stopped := by
  unfold State.guardsOk State.flagsOk State.wearOk TableRec.wearOk State.withinBounds State.between
  decide +kernel

/-- StepsKeepBounds and StockRegisterCreatesARecord: the stock table of the busy hall is sound. -/
theorem test_hyps_stock_invariants : busyStep.stockSound ∧ busyStep.stockNumbersOk := by
  unfold State.stockSound State.stockNumbersOk
  decide +kernel

/-- A pass-through frame to unit 1. -/
def passFrame : HostFrame := { unit := 1, kind := 9, tag := 3, body := [1, 2] }

/-- ReceiverTakesIntactFrames: an intact frame, with a buffer that has room and one that has none. -/
theorem test_hyps_ReceiverTakesIntactFrames :
    passFrame.wf = true ∧ base.hall.inReset = false ∧ base.host.collected = [] ∧ base.host.buffer.length = 0
      ∧ ({ base with host := { base.host with buffer := List.replicate 4 passFrame } } : State).host.collected = [] := by
  decide +kernel

theorem test_hyps_TransmitterSendsReplyThenReports :
    (let s := (holding passFrame base).refuse .range;
      s.hall.inReset = false ∧ s.host.hand = .ready (.refuse .range .none) ∧ s.host.buffer = passFrame :: [])
      ∧ (let s := base.raise (.test .wear);
        s.hall.inReset = false ∧ (∀ y, s.host.hand ≠ .ready y) ∧ s.host.reports = Report.test .wear :: [])
      ∧ (base.hall.inReset = false ∧ (∀ y, base.host.hand ≠ .ready y) ∧ base.host.reports = []) :=
  have untaken {s : State} (h : s.host.hand = .untaken) (y) : s.host.hand ≠ .ready y := by rw [h]; exact nofun
  ⟨by decide +kernel, ⟨by decide +kernel, untaken (by decide +kernel), by decide +kernel⟩,
    by decide +kernel, untaken (by decide +kernel), by decide +kernel⟩

theorem test_hyps_ReportRequestsAnswer :
    (asking (.reportStatus 255) base).takes (.reportStatus 255) ∧ (asking (.reportMask 128) base).takes (.reportMask 128)
      ∧ (asking (.reportForce 1) base).takes (.reportForce (ReportClass.table.bit + 1))
      ∧ (asking (.reportForce 8) base).takes (.reportForce (ReportClass.hall.bit + 1))
      ∧ (asking (.reportForce 0) base).takes (.reportForce 0) ∧ (asking (.reportForce 9) base).takes (.reportForce 9) := by
  unfold State.takes; decide +kernel

theorem test_hyps_HallStatusAnswers : (asking .hallStatus base).takes .hallStatus := by
  unfold State.takes; decide +kernel

/-- Frames of units 0, 7 and 14, of kinds 0 and 58, and of kinds 1 and 57 with a body of the wrong length. -/
theorem test_hyps_UnreadableRequestsAreRefused :
    ∀ f ∈ [HostFrame.mk 0 1 0 [], .mk 7 1 0 [], .mk 14 1 0 [], .mk 15 0 0 [], .mk 15 58 0 [], .mk 15 1 0 [], .mk 15 57 0 []],
      (holding f base).takes (.requestUnknownKind f) := by
  unfold State.takes; decide +kernel

theorem test_hyps_HallClockCountsSeconds :
    (let s : State := { base with now := 1000 };
      s.hall.inReset = false ∧ s.hall.nextSecond ≤ s.now)
      ∧ (let s : State := { base with now := 1000, hall := { base.hall with clock := 4294967295 } };
        s.hall.inReset = false ∧ s.hall.nextSecond ≤ s.now ∧ s.hall.clock.toNat = 4294967295)
      ∧ (let s : State := { base with now := 999 };
        s.hall.inReset = false ∧ s.now < s.hall.nextSecond) := by decide

theorem test_hyps_HallStopInputIsFiltered :
    (base.hall.inReset = false ∧ base.settled ∧ (9 < 10 ∧ 10 ≤ 10))
      ∧ (setup.settled ∧ setup.hall.stop = false ∧ setup.hall.mode = .setup)
      ∧ ((stopped true).settled ∧ (stopped true).hall.stop = true ∧ (stopped true).composer.queue = []
        ∧ (stopped true).hall.mode ≠ .setup)
      ∧ (let s : State := { setup with hall := { setup.hall with stop := true } };
        s.settled ∧ s.hall.stop = true ∧ s.composer.queue = [] ∧ s.hall.mode = .setup) := by
  unfold State.settled; decide +kernel

/-- HallStopHaltsTheHall, in the busy hall and with a crane unit OFFLINE. -/
theorem test_hyps_HallStopHaltsTheHall :
    busyHall.hall.inReset = false ∧ busyHall.settled ∧ busyHall.hall.stop = false ∧ busyHall.hall.mode ≠ .setup
      ∧ (∀ k, 0 < (busyHall.tab k).cfg.settle) ∧ (∀ u, (busyHall.unit u).waiting = [])
      ∧ busyHall.hall.fault.held = none ∧ (busyHall.tab 0).state.runs = true ∧ (busyHall.tab 3).state.runs = false
      ∧ (busyHall.crane 0).state = .busy ∧ (busyHall.crane 1).state = .idle := by
  unfold State.settled; decide +kernel

theorem test_hyps_HallRunStartsTheHall :
    (inHand .hallRun (asking .hallRun base) ∧ base.hall.mode ≠ .setup)
      ∧ (inHand .hallRun (asking .hallRun { setup with hall := { setup.hall with stop := true } }))
      ∧ (inHand .hallRun (asking .hallRun State.reset) ∧ State.reset.mapTest ≠ .valid ∧ State.reset.hall.mode = .setup
        ∧ State.reset.hall.stop = false)
      ∧ (inHand .hallRun (asking .hallRun setup) ∧ setup.hall.mode = .setup ∧ setup.hall.stop = false
        ∧ setup.mapTest = .valid ∧ (∀ c, (setup.unit (craneUnit c)).out = none)
        ∧ (setup.unit (craneUnit 0)).link = .online ∧ (setup.crane 0).state ≠ .absent) := by
  unfold inHand State.takes State.settled; decide +kernel

theorem test_hyps_HallContinueReturnsToRun :
    (inHand .hallContinue (asking .hallContinue base) ∧ base.hall.mode ≠ .stopped)
      ∧ (inHand .hallContinue (asking .hallContinue (stopped true)) ∧ (stopped true).hall.mode = .stopped)
      ∧ (inHand .hallContinue (asking .hallContinue (stopped false)) ∧ (stopped false).hall.stop = false) := by
  unfold inHand State.takes State.settled; decide +kernel

theorem test_hyps_HallResetClearsTheWork :
    inHand .hallReset (asking .hallReset setup)
      ∧ (let s := asking .hallReset (base.modCrane 1 (fun r => { r with hook := .batch 3 }));
        inHand .hallReset s ∧ s.hall.mode ≠ .setup ∧ ∃ c, (s.crane c).hook ≠ .empty)
      ∧ (let s := asking .hallReset busyHall;
        inHand .hallReset s ∧ s.hall.mode ≠ .setup ∧ ∀ c, (s.crane c).hook = .empty) := by
  unfold inHand State.takes State.settled; decide +kernel

/-- A fault of a class. -/
def faultOf (cls : FaultClass) : HallFault := { cls := cls, src := .hall, code := .mismark, clock := 0, index := none }

/-- The hall with a fault of a class locked. -/
def lockedBy (cls : FaultClass) (s : State) : State :=
  ({ s with hall := { s.hall with fault := { held := some (faultOf cls), later := 0 } } } : State).followBeacons

/-- FirstFaultRecordKeepsTheMostSerious: an EMPTY record, a lower class held, an equal one and a higher one. -/
theorem test_hyps_FirstFaultRecordKeepsTheMostSerious :
    base.hall.fault.held = none ∧ (lockedBy .note base).hall.fault.held = some (faultOf .note)
      ∧ FaultClass.note.rank < FaultClass.unit.rank ∧ FaultClass.unit.rank ≤ FaultClass.unit.rank
      ∧ FaultClass.unit.rank ≤ FaultClass.hall.rank := by decide +kernel

theorem test_hyps_FaultReadAnswers :
    let s (n : Nat) : State := asking (.faultRead n) (lockedBy .unit base)
    inHand (.faultRead 0) (s 0) ∧ inHand (.faultRead 1) (s 1) ∧ inHand (.faultRead 2) (s 2) := by
  unfold inHand State.takes State.settled; decide +kernel

theorem test_hyps_BeaconsFollowTheirSources :
    inHand (.beaconSet 8 1 0 0) (asking (.beaconSet 8 1 0 0) base)
      ∧ (inHand (.beaconSet 0 9 0 0) (asking (.beaconSet 0 9 0 0) base) ∧ beaconSourceOf 9 0 = none)
      ∧ (inHand (.beaconSet 0 1 0 3) (asking (.beaconSet 0 1 0 3) base) ∧ patternOf 3 = none)
      ∧ (inHand (.beaconSet 7 3 1 2) (asking (.beaconSet 7 3 1 2) base) ∧ beaconSourceOf 3 1 = some (.tableHalted 0)
        ∧ patternOf 2 = some .fast ∧ (asking (.beaconSet 7 3 1 2) base).sourceAbsent (.tableHalted 0) = false)
      ∧ (let s := asking (.beaconSet 7 3 1 2) (base.modTab 0 (fun r => { r with state := .absent }));
        inHand (.beaconSet 7 3 1 2) s ∧ s.sourceAbsent (.tableHalted 0) = true)
      ∧ (∀ p ∈ [Pattern.slow, .fast],
        let s := base.setBeacon 0 { source := .on, pattern := p, running := true, lit := true, toggle := some 0 }
        s.hall.inReset = false ∧ (s.beacon 0).running = true ∧ (s.beacon 0).toggle = some 0 ∧ 0 ≤ s.now
          ∧ (s.beacon 0).pattern = p)
      ∧ (asking .beaconQuery base).takes .beaconQuery := by
  unfold inHand State.takes State.settled; decide +kernel

/-- Entries that make zone 0 STOCK, zones 1 and 3 TABLE 1 and 4, and every other zone PARK. -/
def entries : List (Nat × Nat) := (1, 0) :: (3, 1) :: (0, 0) :: (3, 4) :: List.replicate 12 (0, 0)

def entriesMap : Vector ZoneKind 16 :=
  #v[.stock, .table 0, .park, .table 3, .park, .park, .park, .park, .park, .park, .park, .park, .park, .park, .park, .park]

/-- HallMapReplacesTheMap: out of SETUP, with kind 5, with table 0 and 5, with a record in a changed zone, and accepted. -/
theorem test_hyps_HallMapReplacesTheMap :
    (entries.length = 16 ∧ inHand (.hallMap entries) (asking (.hallMap entries) base) ∧ base.hall.mode ≠ .setup)
      ∧ (∀ e ∈ [(5, 0), (3, 0), (3, 5)], ∃ es ∈ [e :: List.replicate 15 (0, 0)], es.length = 16
        ∧ (asking (.hallMap es) setup).takes (.hallMap es) ∧ ∃ x ∈ es, 4 < x.1 ∨ (x.1 = 3 ∧ (x.2 < 1 ∨ 4 < x.2)))
      ∧ entries.map zoneKindOf = entriesMap.toList.map some
      ∧ (let s := asking (.hallMap entries) (setup.setRecs [{ plate with loc := .slot ⟨4, 0⟩ 0 }]);
        inHand (.hallMap entries) s ∧ s.hall.mode = .setup ∧ ∃ z, entriesMap.get z ≠ s.kindOf z ∧ s.zoneHolds z = true)
      ∧ (let s := asking (.hallMap entries) setup;
        inHand (.hallMap entries) s ∧ s.hall.mode = .setup ∧ ∀ z, entriesMap.get z ≠ s.kindOf z → s.zoneHolds z = false)
      ∧ (asking .mapQuery base).takes .mapQuery := by
  unfold inHand State.takes State.settled; decide +kernel

/-- A remnant of the greatest host id, to rack slot (4, 0). -/
def rackBody : StockBody :=
  { id := 61439, kind := 1, grade := 3, thick := 250, len := 6000, wid := 2000, presence := 1,
    heat := [1, 2, 3, 4, 5, 6, 7, 8], parent := 0, gen := 1, zone := 4, slot := 0 }

/-- A plate of the smallest id, to stack (0, 1). -/
def stackBody : StockBody := { rackBody with id := 1, kind := 0, gen := 0, zone := 0, slot := 1 }

theorem test_hyps_StockRegisterCreatesARecord :
    (let b := { stackBody with id := 0 };
      inHand (.stockRegister b) (asking (.stockRegister b) base) ∧ stockBodyOk b = false)
      ∧ (let b := { stackBody with zone := 1 };
        inHand (.stockRegister b) (asking (.stockRegister b) base) ∧ base.slotRef b.zone b.slot = none)
      ∧ (let b := { stackBody with zone := 8, slot := 0 };
        inHand (.stockRegister b) (asking (.stockRegister b) base) ∧ base.slotRef b.zone b.slot = some ⟨8, 0⟩
          ∧ base.kindOf 8 ≠ .stock ∧ base.kindOf 8 ≠ .rack)
      ∧ stockBodyOk stackBody = true ∧ stockBodyOk rackBody = true ∧ base.slotRef 0 1 = some ⟨0, 1⟩
      ∧ base.slotRef 4 0 = some ⟨4, 0⟩ ∧ base.kindOf 0 = .stock ∧ base.kindOf 4 = .rack
      ∧ (let s := asking (.stockRegister stackBody) (base.setRecs [{ plate with id := 1 }]);
        inHand (.stockRegister stackBody) s ∧ s.idUsed 1 = true)
      ∧ (let s := asking (.stockRegister stackBody) (base.setRecs (List.replicate 192 plate));
        inHand (.stockRegister stackBody) s ∧ s.idUsed 1 = false ∧ 192 ≤ s.stock.recs.length) := by
  unfold inHand State.takes State.settled; decide +kernel

/-- StockRegisterCreatesARecord: locked slots, a stack and a rack slot that take the record, and the counters at their ends. -/
theorem test_hyps_StockRegisterCreatesARecord_slots :
    (let s := asking (.stockRegister stackBody) (base.setPick ⟨0, 1⟩ (some 4));
        inHand (.stockRegister stackBody) s ∧ s.idUsed 1 = false ∧ (s.lock ⟨0, 1⟩).pick ≠ none)
      ∧ (let s := asking (.stockRegister rackBody) (base.beginDelivery ⟨4, 0⟩);
        inHand (.stockRegister rackBody) s ∧ s.idUsed 61439 = false ∧ (s.lock ⟨4, 0⟩).pick = none
          ∧ (s.lock ⟨4, 0⟩).deliveries ≠ 0)
      ∧ (let s := asking (.stockRegister stackBody) (base.setRecs [plate]);
        inHand (.stockRegister stackBody) s ∧ s.idUsed 1 = false ∧ s.stock.recs.length < 192
          ∧ s.deliveryTest ⟨0, 1⟩ = none ∧ (s.lock ⟨0, 1⟩).deliveries = 0)
      ∧ (let s := asking (.stockRegister rackBody) base;
        inHand (.stockRegister rackBody) s ∧ s.deliveryTest ⟨4, 0⟩ = none ∧ (s.lock ⟨4, 0⟩).deliveries = 0)
      ∧ (let s : State := { base with stock := { base.stock with seq := 4294967295, idCursor := 65535 } };
        s.stock.recs.length ≤ 192 ∧ 1 ≤ s.stock.seq ∧ s.stock.seq ≤ 4294967295 ∧ 61440 ≤ s.stock.idCursor
          ∧ s.stock.idCursor ≤ 65535 ∧ ∀ x ∈ s.stock.recs, x.id ≠ s.stock.idCursor)
      ∧ (let s := base.setRecs [plate];
        1 ≤ s.stock.seq ∧ s.stock.seq < 4294967295 ∧ ∀ x ∈ s.stock.recs, x.age ≠ s.stock.seq + 1) := by
  unfold inHand State.takes State.settled; decide +kernel

theorem test_hyps_StockRequestsChangeOneRecord :
    (inHand (.stockQuarantine 9) (asking (.stockQuarantine 9) base)
        ∧ inHand (.stockRelease 9) (asking (.stockRelease 9) base)
        ∧ inHand (.stockRemove 9) (asking (.stockRemove 9) base) ∧ base.stockRec 9 = none)
      ∧ (let s := asking (.stockQuarantine 5) (base.setRecs [carried (.hook 0)]);
        inHand (.stockQuarantine 5) s ∧ s.stockRec 5 = some (carried (.hook 0)) ∧ (carried (.hook 0)).state ≠ .available)
      ∧ (let s := asking (.stockQuarantine 5) (base.setRecs [plate]);
        inHand (.stockQuarantine 5) s ∧ s.stockRec 5 = some plate ∧ plate.state = .available)
      ∧ (let s := asking (.stockRelease 5) (base.setRecs [plate]);
        inHand (.stockRelease 5) s ∧ s.stockRec 5 = some plate ∧ plate.state ≠ .quarantined)
      ∧ (let x := { plate with state := .quarantined, loc := .slot ⟨2, 0⟩ 0 };
        let s := asking (.stockRelease 5) (base.setRecs [x]);
        inHand (.stockRelease 5) s ∧ s.stockRec 5 = some x ∧ s.onBed x = true)
      ∧ (let x := { plate with state := .quarantined };
        let s := asking (.stockRelease 5) (base.setRecs [x]);
        inHand (.stockRelease 5) s ∧ s.stockRec 5 = some x ∧ s.onBed x = false) := by
  unfold inHand State.takes State.settled; decide +kernel

/-- StockRequestsChangeOneRecord: STOCK_REMOVE of a MOVING, a buried, a locked, an AVAILABLE and a HELD record. -/
theorem test_hyps_StockRequestsChangeOneRecord_removed :
    (let s := asking (.stockRemove 5) (base.setRecs [carried (.slot ⟨0, 1⟩ 0)]);
        inHand (.stockRemove 5) s ∧ s.stockRec 5 = some (carried (.slot ⟨0, 1⟩ 0)))
      ∧ (let s := asking (.stockRemove 5) (base.setRecs [plate, { plate with id := 6, loc := .slot ⟨0, 1⟩ 1 }]);
        inHand (.stockRemove 5) s ∧ s.stockRec 5 = some plate ∧ 0 + 1 ≠ (s.slotRecs ⟨0, 1⟩).length)
      ∧ (let s := asking (.stockRemove 5) ((base.setRecs [plate]).setPick ⟨0, 1⟩ (some 4));
        inHand (.stockRemove 5) s ∧ 0 + 1 = (s.slotRecs ⟨0, 1⟩).length ∧ (s.lock ⟨0, 1⟩).pick ≠ none)
      ∧ (let s := asking (.stockRemove 5) (base.setRecs [plate]);
        inHand (.stockRemove 5) s ∧ s.stockRec 5 = some plate ∧ 0 + 1 = (s.slotRecs ⟨0, 1⟩).length
          ∧ (s.lock ⟨0, 1⟩).pick = none ∧ s.bedTable ⟨0, 1⟩ = none)
      ∧ (let x := { plate with state := .held, loc := .hook 1 };
        let s := asking (.stockRemove 5) (base.setRecs [x]);
        inHand (.stockRemove 5) s ∧ s.stockRec 5 = some x ∧ x.move = none) := by
  unfold inHand State.takes State.settled; decide +kernel

theorem test_hyps_StockQueriesAnswer :
    ((asking (.stockQuery 9) base).takes (.stockQuery 9) ∧ base.stockRec 9 = none)
      ∧ (let s := asking (.stockQuery 5) (base.setRecs [plate]);
        s.takes (.stockQuery 5) ∧ s.stockRec 5 = some plate)
      ∧ ((asking (.stockList 3 0 0) base).takes (.stockList 3 0 0) ∧ (listFilter 3 0).isNone)
      ∧ (asking (.stockList 0 0 192) base).takes (.stockList 0 0 192)
      ∧ ((asking (.stockList 0 0 191) base).takes (.stockList 0 0 191) ∧ (listFilter 0 0).isSome)
      ∧ ((asking (.slotQuery 1 0) base).takes (.slotQuery 1 0) ∧ base.slotRef 1 0 = none)
      ∧ ((asking (.slotQuery 8 0) base).takes (.slotQuery 8 0) ∧ base.slotRef 8 0 = some ⟨8, 0⟩ ∧ base.kindOf 8 = .output)
      ∧ ((asking (.slotQuery 0 1) base).takes (.slotQuery 0 1) ∧ base.slotRef 0 1 = some ⟨0, 1⟩
        ∧ base.kindOf 0 ≠ .output) := by
  unfold State.takes; decide +kernel

/-- A requirement that record 5 meets. -/
def need : Requirement := ⟨3, 250, 3000, 1000, false⟩

theorem test_hyps_WinnerIsTheBestCandidate :
    (base.setRecs [plate]).winner need = some plate
      ∧ (∃ y ∈ (base.setRecs [plate]).stock.recs, (base.setRecs [plate]).candidate need y = true) := by decide +kernel

/-- Table T1 on the stock wait list, with two stock-change events due. -/
def waiting (recs : List StockRec) : State :=
  let s := (running .allocWait 1 none base).setRecs recs
  { s with alloc := { s.alloc with waits := [⟨0, need, 0⟩] }, stock := { s.stock with events := 2 } }

theorem test_hyps_WaitListWalkServesTheTables :
    (base.hall.inReset = false ∧ base.settled ∧ base.stock.events = 0)
      ∧ ((waiting []).settled ∧ 0 < (waiting []).stock.events ∧ ∀ e ∈ (waiting []).alloc.waits, (waiting []).winner e.req = none)
      ∧ (let s := waiting [plate];
        s.hall.inReset = false ∧ s.settled ∧ 0 < s.stock.events ∧ s.alloc.waits = [⟨0, need, 0⟩] ∧ s.winner need = some plate
          ∧ (s.stock.recs.map StockRec.id).Nodup ∧ s.bedRef 0 = some ⟨2, 0⟩ ∧ s.slotRecs ⟨2, 0⟩ = []
          ∧ s.lock ⟨2, 0⟩ = { pick := none, deliveries := 0 } ∧ s.moves.queue.length < 16
          ∧ (s.tab 0).state = .allocWait) := by
  unfold State.settled; decide +kernel

theorem test_hyps_AllocationRequestsAnswer :
    (asking .allocQuery base).takes .allocQuery ∧ (asking .accountRead base).takes .accountRead
      ∧ (asking .accountClear base).takes .accountClear
      ∧ ((asking (.allocProbe ⟨3, 250, 0, 1000, 0⟩) base).takes (.allocProbe ⟨3, 250, 0, 1000, 0⟩)
        ∧ reqOk ⟨3, 250, 0, 1000, 0⟩ = false)
      ∧ ((asking (.allocProbe ⟨3, 250, 3000, 1000, 1⟩) base).takes (.allocProbe ⟨3, 250, 3000, 1000, 1⟩)
        ∧ reqOk ⟨3, 250, 3000, 1000, 1⟩ = true) := by
  unfold State.takes; decide +kernel

/-- DerivationAccountsForThePlate: a plate of the last generation, a remnant that is kept and none that is left; an account
that takes a plate, one that would pass its range, and a FROZEN one. -/
theorem test_hyps_DerivationAccountsForThePlate :
    let d := derive cfgEx plate118 7410
    let a : Account := { plate := 2 ^ 64 - 1, nest := 2 ^ 64 - 1, remnant := 0, scrap := 0, count := 0, frozen := false }
    ({ plate118 with gen := 7 } : StockRec).gen ≤ 7 ∧ 7410 + cfgEx.kerf + cfgEx.trim < plate118.len
      ∧ plate118.len ≤ 11974 + cfgEx.kerf + cfgEx.trim
      ∧ Account.initial.frozen = false ∧ Account.initial.plate + d.vp < 2 ^ 64 ∧ Account.initial.nest + d.vn < 2 ^ 64
      ∧ Account.initial.remnant + d.vr < 2 ^ 64 ∧ Account.initial.scrap + d.vs < 2 ^ 64 ∧ Account.initial.count + 1 < 2 ^ 32
      ∧ a.frozen = false ∧ 2 ^ 64 ≤ a.plate + d.vp ∧ a.plate = a.nest + a.remnant + a.scrap
      ∧ ({ a with frozen := true } : Account).frozen = true := by decide +kernel

/-- A state with a STAGED slot of table T1. -/
def staging (st : Staged) (s : State) : State := s.modTab 0 (fun r => { r with staged := st })

/-- Two steps of the nest program, as PROG_STEPS carries them. -/
def twoSteps : List Byte := stepImage (some (.waitFlag 3)) ++ stepImage (some .finish)

theorem test_hyps_ProgramsAreLoaded :
    (∀ k ∈ [0, 5], ∀ i ∈ [Instr.progBegin k 1, .progSteps k 0 2 twoSteps, .progCommit k, .progDiscard k, .progStart k,
        .progAbort k], inHand i (asking i base))
      ∧ (∀ i ∈ [Instr.progBegin 1 1, .progSteps 1 0 2 twoSteps, .progCommit 1, .progDiscard 1, .progStart 1, .progAbort 1],
        inHand i (asking i (base.modTab 0 (fun r => { r with state := .absent }))) ∧ inHand i (asking i setup))
      ∧ ((base.tab 0).state ≠ .absent ∧ base.hall.mode ≠ .setup)
      ∧ (∀ n ∈ [0, 65], inHand (.progBegin 1 n) (asking (.progBegin 1 n) base))
      ∧ (∀ st ∈ [Staged.ready waitSteps, .loading [none], .empty],
        inHand (.progBegin 1 64) (asking (.progBegin 1 64) (staging st base)) ∧ ((staging st base).tab 0).staged = st)
      ∧ (∀ p ∈ [(0, 2, twoSteps), (1, 2, twoSteps), (2, 2, twoSteps), (64, 2, twoSteps), (0, 0, []), (0, 9, List.replicate 90 99)],
        let i := Instr.progSteps 1 p.1 p.2.1 p.2.2
        inHand i (asking i (staging (.loading [none, none, none]) base)))
      ∧ (let i := Instr.progSteps 1 1 2 (List.replicate 20 99);
        inHand i (asking i (staging (.loading [none, none, none]) base)) ∧ parseSteps 2 (List.replicate 20 99) = none)
      ∧ parseSteps 2 twoSteps = some [.waitFlag 3, .finish]
      ∧ (∀ st ∈ [Staged.ready waitSteps, .empty], inHand (.progDiscard 1) (asking (.progDiscard 1) (staging st base))) := by
  unfold inHand State.takes State.settled; decide +kernel

/-- PROG_STEPS with no slot that is LOADING. -/
theorem test_hyps_ProgramsAreLoaded_not_loading :
    (asking (.progSteps 1 0 2 twoSteps) base).takes (.progSteps 1 0 2 twoSteps)
      ∧ ∀ ps, ((asking (.progSteps 1 0 2 twoSteps) base).tab 0).staged ≠ .loading ps := by
  refine ⟨by unfold State.takes; decide +kernel, fun ps => ?_⟩
  rw [show ((asking (.progSteps 1 0 2 twoSteps) base).tab 0).staged = .empty by decide +kernel]
  exact nofun

/-- The result of a commit walk: the reason it fails for, if it does. -/
def walkFails (ps : List (Option NestStep)) : Option (Nat × CommitReason) :=
  match base.commitWalk [] ps with
  | .ok _ => none
  | .error e => some e

/-- CommitAcceptsTheProgramRules: a program that passes, and one for each reason of Table 3-3 that a walk can give. -/
theorem test_hyps_CommitAcceptsTheProgramRules :
    let plateStep : NestStep := .plate .adopt ⟨0, 0, 0, 0, 0⟩
    let ok (l : List NestStep) : List (Option NestStep) := l.map some
    waitSteps.map some ≠ [] ∧ walkFails (ok waitSteps) = none
      ∧ walkFails [none] = some (0, .emptyStep) ∧ walkFails (ok [.waitFlag 16]) = some (0, .parameter)
      ∧ walkFails (ok [plateStep, .setFlag 15]) = some (1, .endPlace)
      ∧ walkFails (ok [plateStep, plateStep, .finish]) = some (1, .plateCount)
      ∧ walkFails (ok [.contour 1 1, plateStep, .finish]) = some (0, .plateOrder)
      ∧ walkFails (ok [plateStep, .remnant 100, .remnant 100, .finish]) = some (2, .remnantCount)
      ∧ walkFails (ok [plateStep, .remnant 100, .contour 1 1, .finish]) = some (2, .remnantOrder)
      ∧ walkFails (ok [.move .batch 1 1 0 none .wait, plateStep, .finish]) = some (0, .destination)
      ∧ walkFails (ok [.setFlag 0, .finish]) = some (1, .plateMissing) := by decide +kernel

/-- A program that passes the commit walk in the hall, and whose first step waits for flag 3. -/
theorem test_hyps_commit_walk : base.commitWalk [] (waitSteps.map some) = .ok waitSteps := by rfl

theorem test_hyps_ProgramsStart :
    (base.settled ∧ (base.tab 0).state ≠ .absent ∧ base.hall.mode ≠ .setup)
      ∧ (let s := asking (.progCommit 1) (staging (.loading [none]) base);
        s.takes (.progCommit 1) ∧ (s.tab 0).staged = .loading [none])
      ∧ (let s := asking (.progCommit 1) (staging (.loading (waitSteps.map some)) (running .flagWait 0 none base));
        inHand (.progCommit 1) s ∧ (s.tab 0).active ≠ none)
      ∧ (let s := asking (.progCommit 1) (staging (.loading (waitSteps.map some)) (base.modTab 0 (fun r =>
          { r with state := .offline })));
        inHand (.progCommit 1) s ∧ (s.tab 0).active = none ∧ (s.tab 0).state ≠ .idle)
      ∧ (let s := asking (.progStart 1) (staging (.ready waitSteps) (running .flagWait 0 none base));
        inHand (.progStart 1) s ∧ (s.tab 0).staged = .ready waitSteps ∧ (s.tab 0).state ≠ .idle)
      ∧ (let s := asking (.progStart 1) (staging (.ready waitSteps) (stopped true));
        inHand (.progStart 1) s ∧ (s.tab 0).state = .idle ∧ s.hall.stop = true)
      ∧ (let s := asking (.progStart 1) (staging (.ready waitSteps) (base.modTab 0 (fun r => { r with killAwaited := true })));
        inHand (.progStart 1) s ∧ (s.tab 0).state = .idle ∧ s.hall.stop = false ∧ (s.tab 0).killAwaited = true)
      ∧ (∀ p ∈ [(Instr.progCommit 1, Staged.loading (waitSteps.map some)), (.progStart 1, .ready waitSteps)],
        let s := asking p.1 (staging p.2 base)
        inHand p.1 s ∧ (s.tab 0).active = none ∧ (s.tab 0).staged = p.2 ∧ (s.tab 0).state = .idle ∧ s.hall.stop = false
          ∧ (s.tab 0).killAwaited = false ∧ waitSteps[0]? = some (.waitFlag (3 : FlagId).val) ∧ (s.flag 3).value = false) := by
  unfold inHand State.takes State.settled; decide +kernel

/-- PROG_COMMIT and PROG_START with an EMPTY slot, and a walk that fails. -/
theorem test_hyps_ProgramsStart_refused :
    (inHand (.progCommit 1) (asking (.progCommit 1) base) ∧ inHand (.progStart 1) (asking (.progStart 1) base))
      ∧ (∀ ps, (base.tab 0).staged ≠ .loading ps) ∧ (∀ steps, (base.tab 0).staged ≠ .ready steps)
      ∧ base.commitWalk [] [none] = .error (0, .emptyStep) := by
  refine ⟨by unfold inHand State.takes State.settled; decide +kernel, fun ps => ?_, fun ps => ?_, rfl⟩ <;>
    (rw [show (base.tab 0).staged = .empty by decide +kernel]; exact nofun)

theorem test_hyps_ProgramsAreReadBack :
    ((base.tab 0).state ≠ .absent ∧ (asking (.progQuery 1) base).takes (.progQuery 1))
      ∧ ((asking (.progRead 1 2 0 1) base).takes (.progRead 1 2 0 1))
      ∧ ((asking (.progRead 1 0 0 1) base).takes (.progRead 1 0 0 1) ∧ (base.tab 0).active = none)
      ∧ ((asking (.progRead 1 1 0 1) base).takes (.progRead 1 1 0 1) ∧ (base.tab 0).staged = .empty)
      ∧ (∀ p ∈ [(0, 0), (0, 9), (5, 2)], (asking (.progRead 1 0 p.1 p.2) (running .flagWait 0 none base)).takes
        (.progRead 1 0 p.1 p.2))
      ∧ (∀ p ∈ [(0, 1), (0, 6), (4, 2)],
        let s := asking (.progRead 1 1 p.1 p.2) (staging (.loading (waitSteps.map some)) base)
        s.takes (.progRead 1 1 p.1 p.2) ∧ (s.tab 0).staged = .loading (waitSteps.map some) ∧ 1 ≤ p.2 ∧ p.2 ≤ 8
          ∧ p.1 + p.2 ≤ (waitSteps.map some).length) := by
  unfold State.takes; decide +kernel

theorem test_hyps_ProgramsAreAbortedOrResumed :
    (let s := asking (.progAbort 1) base;
      inHand (.progAbort 1) s ∧ (s.tab 0).state ≠ .absent ∧ s.hall.mode ≠ .setup ∧ (s.tab 0).active = none)
      ∧ (let s := asking (.progAbort 1) (running .offline 0 none base);
        inHand (.progAbort 1) s ∧ (s.tab 0).active ≠ none ∧ (s.tab 0).state = .offline)
      ∧ (let s := asking (.progAbort 1) ((running .flagWait 0 none base).modTab 0 (fun r => { r with killAwaited := true }));
        inHand (.progAbort 1) s ∧ (s.tab 0).state ≠ .offline ∧ (s.tab 0).killAwaited = true)
      ∧ (∀ st ∈ [TableState.halted, .bedWait, .flagWait], ∀ cl ∈ [Claim.none, .move 4 none .done],
        let s := asking (.progAbort 1) ((running st 0 none base).modTab 0 (fun r => { r with claim := cl })).followBeacons
        inHand (.progAbort 1) s ∧ (s.tab 0).active ≠ none ∧ (s.tab 0).killAwaited = false ∧ (s.tab 0).state = st
          ∧ (s.tab 0).claim = cl) := by
  unfold inHand State.takes State.settled; decide +kernel

/-- ProgramsAreAbortedOrResumed: the refusals of TABLE_RESUME in order, RETRY at the first and SKIP at a later step. -/
theorem test_hyps_ProgramsAreAbortedOrResumed_resumed :
    (∀ p ∈ [(0, 0), (5, 0), (1, 2)], inHand (.tableResume p.1 p.2) (asking (.tableResume p.1 p.2) base))
      ∧ (let s := asking (.tableResume 1 1) (base.modTab 0 (fun r => { r with state := .absent }));
        inHand (.tableResume 1 1) s)
      ∧ (inHand (.tableResume 1 1) (asking (.tableResume 1 1) base) ∧ (base.tab 0).state ≠ .halted)
      ∧ (let s := asking (.tableResume 1 0) (running .halted 0 none (stopped true)).followBeacons;
        inHand (.tableResume 1 0) s ∧ s.hall.mode ≠ .setup ∧ (s.tab 0).state = .halted ∧ s.hall.stop = true)
      ∧ (let s := asking (.tableResume 1 0) ((running .halted 0 none base).modTab 0 (fun r =>
          { r with killAwaited := true })).followBeacons;
        inHand (.tableResume 1 0) s ∧ (s.tab 0).state = .halted ∧ s.hall.stop = false ∧ (s.tab 0).killAwaited = true)
      ∧ (∀ p ∈ [(0, 0), (1, 1), (3, 1), (4, 0)],
        let s := asking (.tableResume 1 p.2) (running .halted p.1 none base).followBeacons
        inHand (.tableResume 1 p.2) s ∧ (s.tab 0).state = .halted ∧ s.hall.stop = false ∧ (s.tab 0).killAwaited = false
          ∧ ((s.tab 0).active.map Active.index) = some p.1 ∧ (s.flag 3).value = false)
      ∧ waitSteps[1]?.map NestStep.isPlate = some true ∧ waitSteps[3]?.map NestStep.isPlate = some false
      ∧ waitSteps[3 + 1]? = some (.waitFlag (3 : FlagId).val) ∧ waitSteps[0 + 0]? = some (.waitFlag (3 : FlagId).val) := by
  unfold inHand State.takes State.settled; decide +kernel

/-- WearIsChargedAndRead, with the pierce cost at both ends of a step of thickness. -/
theorem test_hyps_WearIsChargedAndRead :
    (100 * 2 < 101 + 100 ∧ 101 ≤ 100 * 2) ∧ (100 * 2 < 200 + 100 ∧ 200 ≤ 100 * 2)
      ∧ (base.settled ∧ (base.tab 0).state ≠ .absent)
      ∧ (∀ q ∈ [(TableParams.mk none none none none none none (some 0), false), (⟨some 7, none, none, none, none, none, none⟩, true),
          (⟨none, none, none, none, none, none, some 600⟩, true)],
        (asking (.tableConfig 1 q.1) base).takes (.tableConfig 1 q.1) ∧ tableParamsOk q.1 = q.2)
      ∧ ((base.tab 0).state ≠ .pierceWait ∧ (base.tab 0).state ≠ .due)
      ∧ (let s := asking (.wearReset 1) ((running .cutting 3 none base).modTab 0 (fun r =>
          { r with contour := some ⟨7, 2, true, false, 0⟩ }));
        s.takes (.wearReset 1) ∧ (s.tab 0).contour.map Contour.arcHeld = some true)
      ∧ (let s := asking (.wearReset 1) base;
        inHand (.wearReset 1) s ∧ (s.tab 0).contour = none ∧ (s.tab 0).state ≠ .due ∧ 2 ≤ (s.tab 0).cfg.wearLimit)
      ∧ (asking (.wearQuery 1) base).takes (.wearQuery 1) := by
  unfold inHand State.takes State.settled; decide +kernel

/-- Table T1 in PIERCE_WAIT at its contour, its zone's guard ARC. -/
def piercing (c : Contour) : State :=
  (((running .pierceWait 3 (some 5) (base.setRecs [{ plate with loc := .slot ⟨2, 0⟩ 0, state := .onBed }])).modTab 0 (fun r =>
    { r with contour := some c })).setGuard 2 { state := .arc, pending := none, waiter := none }).followBeacons

theorem test_hyps_ContoursStartWithTheArc :
    (let c : Contour := ⟨7, 2, false, false, 0⟩;
      let s := piercing c;
      (s.tab 0).contour = some c ∧ c.arcHeld = false ∧ (s.tab 0).state = .pierceWait ∧ (s.unit (tableUnit 0)).link = .online
        ∧ (s.unit (tableUnit 0)).out = none ∧ (s.tab 0).active.bind Active.loaded = some 5
        ∧ (s.stockRec 5).isSome = true)
      ∧ (let c : Contour := ⟨7, 2, true, true, 9⟩;
        let s := flying 0 (.runContour 7 2) .sequencer 9 (piercing c);
        s.hall.inReset = false ∧ s.settled ∧ (s.tab 0).contour = some c ∧ (s.tab 0).state = .pierceWait
          ∧ s.line.window = some { unit := tableUnit 0, kind := .command, expiry := 50 }
          ∧ (s.unit (tableUnit 0)).out = some (outOf (.runContour 7 2) .sequencer 9 true)
          ∧ (s.unit (tableUnit 0)).waiting = [] ∧ s.tableZone 0 = some 2 ∧ (s.guard 2).state = .arc
          ∧ 0 < (s.tab 0).cfg.settle ∧ s.hall.fault.held = none) := by
  unfold State.settled; decide +kernel

/-- Table T1 CUTTING with its contour timer due. -/
def cutting (k : WindowKind) : State :=
  windowed 0 k (((running .cutting 3 (some 5) base).modTab 0 (fun r =>
    { r with contour := some ⟨7, 2, true, false, 9⟩, timer := some 0 })).setGuard 2
      { state := .arc, pending := some ⟨3, 0⟩, waiter := none }).followBeacons

theorem test_hyps_ContoursEnd :
    (let s := windowed 0 .offer base;
      s.hall.inReset = false ∧ s.settled ∧ s.line.window = some { unit := tableUnit 0, kind := .offer, expiry := 50 }
        ∧ (s.tab 0).state ≠ .cutting)
      ∧ (let s := cutting .offer;
        s.hall.inReset = false ∧ s.settled ∧ (s.tab 0).state = .cutting ∧ (s.tab 0).contour = some ⟨7, 2, true, false, 9⟩
          ∧ s.tableZone 0 = some 2 ∧ (s.guard 2).state = .arc ∧ 0 < (s.tab 0).cfg.settle
          ∧ s.line.window = some { unit := tableUnit 0, kind := .offer, expiry := 50 }
          ∧ (s.tab 0).active = some ⟨waitSteps, 3, some 5, false⟩ ∧ waitSteps[3 + 1]? = some (.waitFlag (3 : FlagId).val)
          ∧ (s.flag 3).value = false ∧ (s.unit (tableUnit 0)).link = .online ∧ (s.unit (tableUnit 0)).out = none
          ∧ s.hall.fault.held = none ∧ ((s.tab 0).timer = some 0 ∧ 0 ≤ s.now)) := by
  unfold State.settled; decide +kernel

/-- Mark 12, with a serial. -/
def mark12 : MarkRec := { id := 12, text := List.range 20, serial := some [0, 0, 0, 1], heat := false, spent := false }

/-- The mark in progress: mark 12 of table T1 with token 3, its second frame in hand. -/
def ctx12 : MarkCtx :=
  { entry := ⟨0, 12, 5, 6, .halt⟩, token := 3, str := List.range 20, frame := 1, resend := 0, sticky := true, used := none,
    noHeat := false, timer := some 0, hand := 4, resends := 1 }

/-- The composer with its marks and, in a state of its own, the mark in progress. -/
def composing (marks : List MarkRec) (st : ComposerState) (c : Option MarkCtx) : State :=
  (running .marking 3 (some 5) base).setComposer { base.composer with marks := marks, state := st, ctx := c }

/-- MARK_DEFINE of mark 12 with one code. -/
def define12 (code : Nat) : MarkBody := { id := 12, count := 1, codes := [code], serial := none, heat := 1 }

theorem test_hyps_MarkRequestsAnswer_defined :
    ((asking (.markDefine (define12 64)) base).takes (.markDefine (define12 64)) ∧ markBodyOk (define12 64) = false)
      ∧ markBodyOk (define12 37) = true
      ∧ (let s := asking (.markDefine (define12 37)) (composing [mark12] .sending (some ctx12));
        s.takes (.markDefine (define12 37)) ∧ s.composer.ctx = some ctx12 ∧ ctx12.entry.id = (define12 37).id)
      ∧ (let s := asking (.markDefine (define12 37)) (composing [mark12] .idle none);
        s.takes (.markDefine (define12 37)) ∧ s.composer.ctx = none ∧ ∃ k ∈ s.composer.marks, k.id = (define12 37).id)
      ∧ (let s := asking (.markDefine (define12 37)) (composing (List.replicate 48 { mark12 with id := 1 }) .idle none);
        s.takes (.markDefine (define12 37)) ∧ (∀ k ∈ s.composer.marks, k.id ≠ 12) ∧ 48 ≤ s.composer.marks.length)
      ∧ (let s := asking (.markDefine (define12 37)) (composing [] .idle none);
        s.takes (.markDefine (define12 37)) ∧ (∀ k ∈ s.composer.marks, k.id ≠ 12) ∧ s.composer.marks.length < 48)
      ∧ (asking .composerQuery base).takes .composerQuery := by
  unfold State.takes; decide +kernel

/-- MarkRequestsAnswer: no record, a record being composed, a record that is not, and one without serial. -/
theorem test_hyps_MarkRequestsAnswer :
    (∀ i ∈ [Instr.markDelete 12, .markQuery 12, .markSerialSet 12 [0, 0, 0, 9]],
      ((asking i base).takes i ∧ base.mark 12 = none)
        ∧ (let s := asking i (composing [mark12] .sending (some ctx12));
          s.takes i ∧ s.mark 12 = some mark12 ∧ s.composer.ctx = some ctx12 ∧ ctx12.entry.id = 12)
        ∧ (let s := asking i (composing [mark12] .idle none);
          s.takes i ∧ s.mark 12 = some mark12 ∧ s.composer.ctx = none ∧ mark12.serial ≠ none))
      ∧ (let i := Instr.markSerialSet 12 [0, 0, 0, 10];
        (asking i (composing [mark12] .idle none)).takes i ∧ ∃ d ∈ [0, 0, 0, 10], 9 < d)
      ∧ (let i := Instr.markSerialSet 12 [9, 9, 9, 9];
        let m := { mark12 with serial := none };
        (asking i (composing [m] .idle none)).takes i ∧ (composing [m] .idle none).mark 12 = some m
          ∧ ∀ d ∈ [9, 9, 9, 9], d ≤ 9) := by
  unfold State.takes; decide +kernel

theorem test_hyps_MarksAreExchanged :
    ({ mark12 with serial := some [9, 9, 9, 9] : MarkRec }.serial = some [9, 9, 9, 9]
        ∧ 1000 * 9 + 100 * 9 + 10 * 9 + 9 = 9999)
      ∧ (mark12.serial = some [0, 0, 0, 1] ∧ 1000 * 0 + 100 * 0 + 10 * 0 + 1 < 9999)
      ∧ (frameCount (List.range 20) = 4 ∧ ({ mark12 with serial := none } : MarkRec).serial = none)
      ∧ (∀ st ∈ [ComposerState.sending, .echoWait],
        let s := windowed 0 .offer (composing [mark12] st (some ctx12))
        s.hall.inReset = false ∧ s.settled ∧ s.composer.ctx = some ctx12 ∧ ctx12.entry.table = 0
          ∧ (s.unit (tableUnit 0)).link = .online ∧ (s.unit (tableUnit 0)).out = none
          ∧ s.line.window = some { unit := tableUnit 0, kind := .offer, expiry := 50 } ∧ s.composer.state = st
          ∧ ctx12.frame + 1 < frameCount ctx12.str ∧ ctx12.resend = 0)
      ∧ (4 ≠ ctx12.token ∧ 0 ≠ ctx12.frame)
      ∧ (let s := composing [mark12] .echoWait (some ctx12);
        s.settled ∧ s.composer.state = .echoWait ∧ ctx12.timer = some 0 ∧ 0 ≤ s.now) := by
  unfold State.settled; decide +kernel

theorem test_hyps_FlagsAreSetAndRead :
    ((base.flag 3).value = false ∧ (base.flag 3).waiters = [])
      ∧ (∀ i ∈ [Instr.flagSet 16, .flagClear 16, .flagQuery 16, .flagQuery 255], inHand i (asking i base))
      ∧ (inHand (.flagSet 15) (asking (.flagSet 15) base) ∧ (base.flag 15).value = false ∧ (base.flag 15).waiters = [])
      ∧ (let s := asking (.flagSet 15) (base.setFlagRec 15 ⟨true, true, []⟩);
        inHand (.flagSet 15) s ∧ (s.flag 15).value = true)
      ∧ (let steps : List NestStep := [.waitFlag 3, .waitFlag 3];
        let s := asking (.flagSet 3) (((running .flagWait 0 none base).setFlagRec 3 ⟨false, true, [0, 2]⟩).modTab 0
          (fun r => { r with active := some ⟨steps, 0, none, false⟩ }));
        inHand (.flagSet 3) s ∧ (s.flag 3).value = false ∧ (s.flag 3).waiters = 0 :: [2] ∧ (s.tab 0).state = .flagWait
          ∧ (s.tab 0).cause = none ∧ (s.tab 0).active = some ⟨steps, 0, none, false⟩
          ∧ steps[0 + 1]? = some (.waitFlag (3 : FlagId).val))
      ∧ (∀ i ∈ [Instr.flagClear 0, .flagQuery 0], inHand i (asking i base)) := by
  unfold inHand State.takes State.settled; decide +kernel

/-- A move in HOLD_WAIT that still lacks its hold of zone 6. -/
def holdWaiting : MoveRec :=
  { queuedMove 4 .none .none (.zone 9) with
    crane := some 0, state := .dispatched, phase := some .holdWait, holds := [⟨2, false⟩, ⟨6, false⟩] }

theorem test_hyps_GuardsArbitrate :
    (∀ st ∈ [GuardState.free, .settling 9, .transit ⟨4, 0⟩], (GuardRec.mk st none none).state = st)
      ∧ (GuardRec.mk (.settling 9) (some ⟨4, 0⟩) none).pending = some ⟨4, 0⟩
      ∧ ((base.setGuard 2 ⟨.settling 0, none, some 0⟩).guard 2).waiter = some 0
      ∧ ((base.guard 2).pending = none ∧ (base.guard 2).waiter = none)
      ∧ (let s := (base.setGuard 2 ⟨.settling 1, none, none⟩).followBeacons;
        s.hall.inReset = false ∧ s.settled ∧ (s.guard 2).state = .settling 1 ∧ s.now < 1)
      ∧ (let s := (base.setGuard 2 ⟨.settling 0, none, none⟩).followBeacons;
        s.settled ∧ (s.guard 2).state = .settling 0 ∧ 0 ≤ s.now ∧ (s.guard 2).pending = none ∧ (s.guard 2).waiter = none)
      ∧ (let s := ((base.setQueue [holdWaiting]).setGuard 2 ⟨.settling 0, some ⟨4, 0⟩, some 0⟩).followBeacons;
        s.settled ∧ (s.guard 2).state = .settling 0 ∧ (s.guard 2).pending = some ⟨4, 0⟩
          ∧ s.move 4 = some holdWaiting ∧ ∃ k ∈ holdWaiting.holds, k.zone ≠ 2 ∧ k.granted = false) := by
  unfold State.settled; decide +kernel

theorem test_hyps_GuardQueryAnswers :
    (asking (.guardQuery 16) base).takes (.guardQuery 16) ∧ (asking (.guardQuery 254) base).takes (.guardQuery 254)
      ∧ ((asking (.guardQuery 15) base).takes (.guardQuery (15 : Zone).val) ∧ base.kindOf 15 = .park)
      ∧ ((asking (.guardQuery 2) base).takes (.guardQuery (2 : Zone).val) ∧ base.kindOf 2 = .table 0)
      ∧ (asking (.guardQuery 255) base).takes (.guardQuery 255) := by
  unfold State.takes; decide +kernel

/-- MOVE_POST of record 5 to rack slot (4, 7), URGENT, with flag 15. -/
def postStock : PostBody := ⟨0, 5, 0, 4, 7, 1, 15⟩

/-- MOVE_POST without a load to zone 15. -/
def postNone : PostBody := ⟨2, 0, 0, 15, 0, 0, 255⟩

theorem test_hyps_MovesArePosted :
    (inHand (.movePost postNone) (asking (.movePost postNone) setup) ∧ setup.hall.mode = .setup)
      ∧ (∀ b ∈ [PostBody.mk 3 0 0 0 0 0 255, ⟨1, 0, 8, 8, 0, 0, 255⟩, ⟨1, 256, 8, 8, 0, 0, 255⟩, ⟨2, 0, 0, 0, 0, 0, 16⟩,
          ⟨2, 0, 0, 0, 0, 0, 254⟩, ⟨2, 0, 0, 0, 0, 2, 255⟩, ⟨2, 0, 0, 16, 0, 0, 255⟩],
        inHand (.movePost b) (asking (.movePost b) base)
          ∧ (2 < b.load ∨ (b.load = 1 ∧ (b.ref < 1 ∨ 255 < b.ref)) ∨ (15 < b.flag ∧ b.flag ≠ 255) ∨ 1 < b.priority
            ∨ 15 < b.dstZone))
      ∧ (let s := asking (.movePost postNone) (base.setQueue (List.replicate 16 holdWaiting));
        inHand (.movePost postNone) s ∧ s.hall.mode ≠ .setup ∧ postNone.dstZone = (15 : Zone).val
          ∧ 16 ≤ s.moves.queue.length)
      ∧ (let s := asking (.movePost postNone) (base.setQueue (List.replicate 15 holdWaiting));
        inHand (.movePost postNone) s ∧ s.moves.queue.length < 16)
      ∧ (let s := asking (.movePost postStock) (base.setRecs [plate]);
        inHand (.movePost postStock) s ∧ postStock.flag = (15 : FlagId).val ∧ s.stockRec postStock.ref = some plate
          ∧ plate.state = .available ∧ 0 + 1 = (s.slotRecs ⟨0, 1⟩).length ∧ s.bedTable ⟨0, 1⟩ = none
          ∧ s.lock ⟨0, 1⟩ = { pick := none, deliveries := 0 } ∧ s.slotRef 4 7 = some ⟨4, 7⟩ ∧ s.kindOf 4 = .rack
          ∧ s.deliveryTest ⟨4, 7⟩ = none ∧ s.moves.queue.length < 16) := by
  unfold inHand State.takes State.settled; decide +kernel

/-- Move 4 of record 5, QUEUED, with its locks. -/
def queuedHall (recs : List StockRec) (m : MoveRec) : State :=
  (((base.setRecs recs).setQueue [m]).setPick ⟨0, 1⟩ (some 4)).beginDelivery ⟨4, 7⟩

theorem test_hyps_MoveRequestsAnswer_cancelled :
    (inHand (.moveCancel 4) (asking (.moveCancel 4) base) ∧ base.hall.mode ≠ .setup ∧ base.move 4 = none)
      ∧ (∀ m ∈ [{ onWay .toSource with origin := .table 0 }, onWay .toSource],
        let s := asking (.moveCancel 4) (base.setQueue [m])
        inHand (.moveCancel 4) s ∧ s.move 4 = some m ∧ m.state ≠ .queued)
      ∧ (let m := queuedMove 4 (.stock 5) (.slot ⟨0, 1⟩) (.slot ⟨4, 7⟩);
        let x := carried (.slot ⟨0, 1⟩ 0);
        let s := asking (.moveCancel 4) (queuedHall [x] m);
        inHand (.moveCancel 4) s ∧ s.move 4 = some m ∧ m.origin = .host ∧ m.state = .queued ∧ s.moves.spaceWaits = []
          ∧ m.load = .stock x.id ∧ s.stockRec x.id = some x ∧ x.before = some .available ∧ s.bedTable ⟨4, 7⟩ = none
          ∧ (s.lock ⟨4, 7⟩).deliveries ≠ 0) := by
  unfold inHand State.takes State.settled; decide +kernel

/-- MOVE_CANCEL of a QUEUED move without a stock record. -/
theorem test_hyps_MoveRequestsAnswer_unloaded :
    inHand (.moveCancel 4) (asking (.moveCancel 4) (base.setQueue [queuedMove 4 .none .none (.zone 15)]))
      ∧ ∀ r, (queuedMove 4 .none .none (.zone 15)).load ≠ .stock r :=
  ⟨by unfold inHand State.takes State.settled; decide +kernel, nofun⟩

theorem test_hyps_MoveRequestsAnswer :
    (∀ i ∈ [Instr.moveQuery 0, .moveQuery 9, .craneStatus 0, .craneStatus 3, .craneStatus 2, .craneConfig 0 ⟨none, none, none⟩,
        .craneConfig 3 ⟨none, none, none⟩, .craneConfig 2 ⟨some 0, none, none⟩, .craneConfig 2 ⟨some 30, none, some 90⟩],
      inHand i (asking i base))
      ∧ base.move 9 = none ∧ (base.crane 1).state ≠ .absent
      ∧ craneParamsOk ⟨some 0, none, none⟩ = false ∧ craneParamsOk ⟨some 30, none, some 90⟩ = true
      ∧ (let s := asking (.moveQuery 4) (base.setQueue [onWay .toDest]);
        inHand (.moveQuery 4) s ∧ s.move 4 = some (onWay .toDest))
      ∧ (∀ i ∈ [Instr.craneStatus 2, .craneConfig 2 ⟨none, none, none⟩],
        let s := asking i (base.modCrane 1 (fun r => { r with state := .absent }))
        inHand i s ∧ (s.crane 1).state = .absent) := by
  unfold inHand State.takes State.settled; decide +kernel

/-- A move without a load to zone 0, QUEUED, with three attempts due. -/
def dispatching (q : List MoveRec) : State :=
  let s := base.setQueue q
  { s with moves := { s.moves with attempts := 3 } }

theorem test_hyps_MovesAreDispatched :
    (base.settled ∧ base.moves.attempts = 0)
      ∧ (let s := dispatching [holdWaiting];
        s.hall.inReset = false ∧ s.settled ∧ 0 < s.moves.attempts ∧ ∀ m ∈ s.moves.queue, m.state ≠ .queued)
      ∧ (let m := queuedMove 4 .none .none (.zone 0);
        let s := dispatching [m];
        s.settled ∧ s.moves.queue = [m] ∧ m.state = .queued ∧ s.cranesFor m = 0 :: [1] ∧ (s.crane 0).pos = some 1
          ∧ s.spanClear 0 (spanFor 1 m) = true ∧ s.holdSet (spanFor 1 m) = [] ∧ (s.unit (craneUnit 0)).link = .online
          ∧ (s.unit (craneUnit 0)).out = none)
      ∧ (let m := { onWay .toSource with holds := [⟨2, true⟩] };
        let s := busyWith m base;
        s.hall.inReset = false ∧ s.settled ∧ s.line.window = some { unit := craneUnit 0, kind := .offer, expiry := 50 }
          ∧ (s.unit (craneUnit 0)).link = .online ∧ (s.unit (craneUnit 0)).out = none ∧ (s.crane 0).move = some m.id
          ∧ s.move m.id = some m ∧ m.span = some ⟨0, 4⟩ ∧ (Span.mk 0 4).has 0 = true ∧ m.srcZone = some 0
          ∧ (∀ h ∈ m.holds, ((Span.at 0).join m.dst.zoneOf).has h.zone = true)
          ∧ (Span.mk 0 4).has 1 = true ∧ m.srcZone ≠ some 1 ∧ (s.crane 0).hook = .empty) := by
  unfold State.settled; decide +kernel

/-- LoadsArePickedAndPlaced: a pick whose mass is at the tolerance and one 1 kg beyond, and a placement. -/
theorem test_hyps_LoadsArePickedAndPlaced :
    (let m := onWay .picking;
      let x := carried (.slot ⟨0, 1⟩ 0);
      let s := busyWith m (((base.setRecs [x]).setPick ⟨0, 1⟩ (some 4)).beginDelivery ⟨4, 7⟩);
      let expected := massOf (x.len * x.wid * x.thick);
      s.hall.inReset = false ∧ s.settled ∧ s.line.window = some { unit := craneUnit 0, kind := .offer, expiry := 50 }
        ∧ (s.unit (craneUnit 0)).link = .online ∧ (s.unit (craneUnit 0)).out = none ∧ (s.crane 0).move = some m.id
        ∧ s.move m.id = some m ∧ m.crane = some 0 ∧ m.state = .dispatched ∧ m.origin = .host ∧ m.load = .stock x.id
        ∧ s.stockRec x.id = some x ∧ s.bedTable ⟨4, 7⟩ = none ∧ m.phase = some .picking ∧ s.bedTable ⟨0, 1⟩ = none
        ∧ (expected = 2355 ∧ expected / 16 + 20 = 167) ∧ (2522 - expected) + (expected - 2522) ≤ expected / 16 + 20
        ∧ expected / 16 + 20 < (2523 - expected) + (expected - 2523) ∧ s.hall.fault.held = none)
      ∧ (let m := onWay .placing;
        let x := carried (.hook 0);
        let s := (busyWith m ((base.setRecs [x]).beginDelivery ⟨4, 7⟩)).modCrane 0 (fun r => { r with hook := .stock 5 });
        s.hall.inReset = false ∧ s.settled ∧ s.move m.id = some m ∧ s.stockRec x.id = some x ∧ m.phase = some .placing
          ∧ m.returning = false ∧ m.holds = [] ∧ m.flag = none ∧ s.moves.spaceWaits = [] ∧ (s.crane 0).state = .busy) := by
  unfold State.settled; decide +kernel

/-- CraneFaultsFaultTheMove: with an empty hook and with a record on it, and a crane without a move. -/
theorem test_hyps_CraneFaultsFaultTheMove :
    (∀ h ∈ [Hook.empty, .stock 5],
      let m := onWay .toDest
      let s := (busyWith m (base.setRecs [carried (.hook 0)])).modCrane 0 (fun r => { r with hook := h })
      s.hall.inReset = false ∧ s.settled ∧ s.line.window = some { unit := craneUnit 0, kind := .offer, expiry := 50 }
        ∧ (s.crane 0).timer = some 0 ∧ 0 ≤ s.now ∧ (s.unit (craneUnit 0)).link = .online
        ∧ (s.unit (craneUnit 0)).out = none ∧ (s.crane 0).move = some m.id ∧ s.move m.id = some m ∧ m.crane = some 0
        ∧ m.state = .dispatched ∧ m.origin = .host ∧ (s.crane 0).hook = h ∧ s.hall.fault.held = none)
      ∧ (let s := windowed 4 .offer base;
        s.settled ∧ s.line.window = some { unit := craneUnit 0, kind := .offer, expiry := 50 } ∧ (s.crane 0).move = none) := by
  unfold State.settled; decide +kernel

/-- A request about move 4 in hand, crane C1 in a state of its own. -/
def aboutMove (i : Instr) (m : MoveRec) (st : CraneState) (s : State) : State :=
  asking i ((movedBy m s).modCrane 0 (fun r => { r with state := st })).followBeacons

theorem test_hyps_HeldMovesAreTakenUp :
    (∀ i ∈ [Instr.moveAcceptWeight 4, .moveAbort 4, .moveRetry 4, .moveRecover 4 2 0 0],
      inHand i (asking i base) ∧ base.hall.mode ≠ .setup ∧ base.move 4 = none
        ∧ inHand i (asking i (base.setQueue [holdWaiting])) ∧ holdWaiting.state ≠ .weightHold ∧ holdWaiting.state ≠ .faulted)
      ∧ (let m := { onWay .toDest with state := .weightHold };
        let s := aboutMove (.moveAcceptWeight 4) m .busy base;
        inHand (.moveAcceptWeight 4) s ∧ s.move 4 = some m ∧ m.crane = some 0 ∧ (s.unit (craneUnit 0)).link = .online
          ∧ (s.unit (craneUnit 0)).out = none ∧ (s.crane 0).state = .busy ∧ m.srcZone ≠ some m.dst.zoneOf)
      ∧ (let m := { onWay .toDest with state := .weightHold };
        let s := aboutMove (.moveAbort 4) m .busy (base.beginDelivery ⟨4, 7⟩);
        inHand (.moveAbort 4) s ∧ s.move 4 = some m ∧ (s.crane 0).state = .busy ∧ s.bedTable ⟨0, 1⟩ = none
          ∧ s.bedTable ⟨4, 7⟩ = none ∧ s.deliveryTest ⟨0, 1⟩ = none ∧ (s.lock ⟨4, 7⟩).deliveries ≠ 0)
      ∧ (let m := { onWay .toSource with state := .faulted };
        let s := aboutMove (.moveRetry 4) m .idle base;
        inHand (.moveRetry 4) s ∧ s.move 4 = some m ∧ (s.crane 0).state = .idle ∧ m.phase = some .toSource
          ∧ phaseCmd m .toSource = some (.goto 0)) := by
  unfold inHand State.takes State.settled; decide +kernel

/-- MOVE_RECOVER with location NONE of a FAULTED move that carries a batch. -/
theorem test_hyps_HeldMovesAreTakenUp_recovered :
    let m := { onWay .toSource with state := .faulted, load := .batch 4 }
    let s := aboutMove (.moveRecover 4 2 0 0) m .halted base
    (inHand (.moveRecover 4 2 0 0) s ∧ s.move 4 = some m ∧ m.crane = some 0 ∧ m.holds = [] ∧ s.moves.spaceWaits = []
      ∧ m.origin = .host) ∧ ∀ k, m.load ≠ .stock k :=
  ⟨by unfold inHand State.takes State.settled; decide +kernel, nofun⟩

theorem test_hyps_CraneResumeAsksTheCrane :
    inHand (.craneResume 1) (asking (.craneResume 1) setup)
      ∧ (∀ n ∈ [0, 3, 2], inHand (.craneResume n) (asking (.craneResume n) base))
      ∧ (inHand (.craneResume 2) (asking (.craneResume 2) (base.modCrane 1 (fun r => { r with state := .absent }))))
      ∧ (base.hall.mode ≠ .setup ∧ (base.crane 1).state ≠ .absent ∧ (base.crane 1).state ≠ .halted)
      ∧ (let s := asking (.craneResume 2) ((stopped true).modCrane 1 (fun r => { r with state := .halted }));
        inHand (.craneResume 2) s ∧ s.hall.mode ≠ .setup ∧ (s.crane 1).state = .halted ∧ s.hall.stop = true)
      ∧ (let s := asking (.craneResume 2) (base.modCrane 1 (fun r => { r with state := .halted }));
        inHand (.craneResume 2) s ∧ (s.crane 1).state = .halted ∧ s.hall.stop = false
          ∧ (s.unit (craneUnit 1)).link = .online ∧ (s.unit (craneUnit 1)).out = none)
      ∧ (let s := (flying 4 .statusQuery .cranes 6 (base.modCrane 0 (fun r =>
          { r with state := .halted, cause := some .stop, awaited := true }))).setHand (.waiting (.craneResume 0));
        s.settled ∧ s.hall.inReset = false ∧ s.host.hand = .waiting (.craneResume 0) ∧ (s.crane 0).awaited = true
          ∧ (s.crane 0).move = none ∧ s.line.window = some { unit := craneUnit 0, kind := .command, expiry := 50 }
          ∧ (s.unit (craneUnit 0)).out = some (outOf .statusQuery .cranes 6 true) ∧ (s.unit (craneUnit 0)).waiting = []) := by
  unfold inHand State.takes State.settled; decide +kernel

theorem test_hyps_UnitsAreMaintainedAndRestored_restored :
    (∀ n ∈ [0, 7, 6], inHand (.unitRestore n) (asking (.unitRestore n) base)) ∧ (base.unit 5).link = .online
      ∧ (inHand (.unitRestore 6) (asking (.unitRestore 6) (base.modUnit 5 (fun r => { r with link := .absent }))))
      ∧ (∀ l ∈ [Link.offline, .maintenance], ∀ b ∈ [false, true],
        let s := asking (.unitRestore 6) (base.modUnit 5 (fun r => { r with link := l, restoring := b }))
        inHand (.unitRestore 6) s ∧ (s.unit 5).link = l ∧ (s.unit 5).restoring = b ∧ (s.unit 5).out = none)
      ∧ (∀ st ∈ [TableState.offline, .maintenance],
        let s := (flying 0 .statusQuery .restore 6 ((base.modTab 0 (fun r => { r with state := st })).modUnit 0 (fun r =>
          { r with link := .offline, fails := 2, restoring := true }))).setHand (.waiting (.unitRestore 0))
        s.hall.inReset = false ∧ s.settled ∧ s.host.hand = .waiting (.unitRestore (tableUnit 0))
          ∧ s.line.window = some { unit := tableUnit 0, kind := .command, expiry := 50 }
          ∧ (s.unit (tableUnit 0)).out = some (outOf .statusQuery .restore 6 true) ∧ (s.unit (tableUnit 0)).waiting = []
          ∧ (s.tab 0).active = none ∧ (s.tab 0).contour = none ∧ (s.tab 0).state = st) := by
  unfold inHand State.takes State.settled; decide +kernel

theorem test_hyps_UnitsAreMaintainedAndRestored :
    (∀ n ∈ [0, 7, 1, 6], inHand (.unitMaintain n) (asking (.unitMaintain n) base))
      ∧ (inHand (.unitMaintain 1) (asking (.unitMaintain 1) setup))
      ∧ (inHand (.unitMaintain 6) (asking (.unitMaintain 6) (base.modUnit 5 (fun r => { r with link := .absent }))))
      ∧ (let s := asking (.unitMaintain 6) (base.modUnit 5 (fun r => { r with out := some (outOf .stop .cranes 1 false) }));
        inHand (.unitMaintain 6) s ∧ (s.unit 5).out ≠ none)
      ∧ (inHand (.unitMaintain 1) (asking (.unitMaintain 1) (running .flagWait 0 none base)))
      ∧ (inHand (.unitMaintain 6) (asking (.unitMaintain 6) (base.modCrane 1 (fun r => { r with hook := .batch 1 }))))
      ∧ ((base.tab 0).state = .idle ∧ (base.tab 0).killAwaited = false ∧ (base.tab 0).active = none
        ∧ base.tableZone 0 = some 2 ∧ (base.guard 2).state ≠ .arc ∧ (base.unit 0).out = none ∧ (base.unit 0).waiting = [])
      ∧ ((base.crane 1).state = .idle ∧ (base.crane 1).move = none ∧ (base.crane 1).hook = .empty
        ∧ (base.crane 1).awaited = false)
      ∧ (∀ n ∈ [255, 0, 7, 254, 1, 6], inHand (.unitQuery n) (asking (.unitQuery n) base)) := by
  unfold inHand State.takes State.settled; decide +kernel

/-- The state with unit 1 in a link state. -/
def linked (l : Link) (restoring : Bool) : State :=
  base.modUnit 0 (fun r => { r with link := l, restoring := restoring })

theorem test_hyps_PassThroughFramesAreAnswered :
    (∀ p ∈ [(Link.absent, false), (.online, false), (.offline, false), (.maintenance, true), (.maintenance, false)],
      let s := holding passFrame (linked p.1 p.2)
      s.takes (.passThroughFrame passFrame) ∧ passFrame.unit.toNat = (0 : UnitId).val + 1 ∧ (s.unit 0).link = p.1
        ∧ (s.unit 0).restoring = p.2)
      ∧ (∀ now ∈ [49, 50],
        let s := windowed 0 .pass { base with now := now }
        s.hall.inReset = false ∧ s.line.window = some { unit := 0, kind := .pass, expiry := 50 } ∧ s.now = now) := by
  unfold State.takes; decide +kernel

/-- TheLineTakesTurns: a window open, nothing to send, a command DUE, a pass-through frame, and an offer. -/
theorem test_hyps_TheLineTakesTurns :
    ((windowed 0 .offer base).hall.inReset = false ∧ (windowed 0 .offer base).line.window ≠ none)
      ∧ (base.line.window = none ∧ ∀ v, base.cmdReady v = false)
      ∧ (let s := (List.finRange 6).foldl (fun s v => s.modUnit v (fun r => { r with link := .offline })) base;
        s.line.window = none ∧ ∀ v, s.offerReady v = false)
      ∧ (let s := base.modUnit 1 (fun r => { r with out := some (outOf .arcKill .sequencer 3 false) });
        s.line.window = none ∧ (1 : UnitId) = (1 : Fin 6) + s.line.cmdNext ∧ s.cmdReady 1 = true
          ∧ (∀ i : Fin 6, i < 1 → s.cmdReady (i + s.line.cmdNext) = false) ∧ s.line.turn = .command
          ∧ (s.unit 1).out = some (outOf .arcKill .sequencer 3 false))
      ∧ (let s0 := linked .maintenance false;
        let s : State := { s0 with line := { s0.line with pass := some ⟨0, 3, [4]⟩ } };
        s.line.window = none ∧ (0 : UnitId) = (0 : Fin 6) + s.line.cmdNext ∧ s.cmdReady 0 = true ∧ (s.unit 0).out = none
          ∧ s.line.pass = some ⟨0, 3, [4]⟩)
      ∧ (let s : State := { base with line := { base.line with offerNext := 5, turn := .offer } };
        s.line.window = none ∧ (5 : UnitId) = (0 : Fin 6) + s.line.offerNext ∧ s.offerReady 5 = true
          ∧ s.line.turn = .offer) := by decide +kernel

/-- Unit 1 with a command in flight whose window has ended, after so many failures. -/
def failing (n : Nat) : State :=
  { flying 0 .arcKill .sequencer 6 (base.modUnit 0 (fun r => { r with fails := n })) with now := 50 }

theorem test_hyps_FailuresTakeAUnitOffline :
    (∀ n ∈ [1, 2], ∀ f ∈ [none, some FaultClass.unit],
      let s := match f with
        | none => failing n
        | some c => lockedBy c (failing n)
      s.hall.inReset = false ∧ s.settled ∧ (s.unit 0).link = .online
        ∧ s.line.window = some { unit := 0, kind := .command, expiry := 50 }
        ∧ (s.unit 0).out = some (outOf .arcKill .sequencer 6 true) ∧ 50 ≤ s.now ∧ (s.unit 0).fails = n
        ∧ (s.tab 0).state = .idle ∧ s.alloc.waits = [] ∧ s.composer.queue = [] ∧ s.composer.ctx = none
        ∧ (s.tab 0).claim = .none ∧ (s.tab 0).active = none ∧ s.hall.fault.held = f.map faultOf)
      ∧ 2 ≤ FaultClass.unit.rank
      ∧ (∀ now ∈ [49, 50],
        let s := windowed 5 .offer { base with now := now }
        s.settled ∧ (s.unit 5).link = .online ∧ s.line.window = some { unit := 5, kind := .offer, expiry := 50 }
          ∧ (s.unit 5).fails < 2 ∧ s.now = now) := by
  unfold State.settled; decide +kernel


/-! ## The clauses that turn on a moment, a list or a record -/

/-- IdleStepPassesAMillisecond: a hall in which every timer is due at the millisecond that comes, an answer window with it,
and a stock-change event, a dispatch attempt and a report wait. -/
def dueHall (k : WindowKind) : State :=
  let s := { base with hall := { base.hall with nextSecond := 1 } }
  let s := s.setBeacon 7 { source := .on, pattern := .slow, running := true, lit := true, toggle := some 1 }
  let s := (s.modTab 3 (fun r => { r with timer := some 1 })).modCrane 1 (fun r => { r with timer := some 1 })
  let s := (s.setComposer { s.composer with ctx := some { ctx12 with timer := some 1 } }).setGuard 15 ⟨.settling 1, none, none⟩
  { s with
    stock := { s.stock with events := 1 }, moves := { s.moves with attempts := 1 }
    line := { s.line with window := some { unit := 5, kind := k, expiry := 1 } }
    host := { s.host with reports := [.test .hall] } }

theorem test_hyps_IdleStepPassesAMillisecond_due :
    ∀ k ∈ [WindowKind.command, .offer, .pass],
      let s := dueHall k
      s.pending = [] ∧ s.hall.inReset = false ∧ s.now + 1 = 1 ∧ s.hall.nextSecond = 1 ∧ (s.beacon 7).toggle = some 1
        ∧ (s.tab 3).timer = some 1 ∧ (s.crane 1).timer = some 1 ∧ s.composer.ctx = some { ctx12 with timer := some 1 }
        ∧ (s.guard 15).state = .settling 1 ∧ 0 < s.stock.events ∧ 0 < s.moves.attempts
        ∧ s.line.window = some { unit := 5, kind := k, expiry := 1 } ∧ s.host.reports ≠ [] := by decide +kernel

/-- The turns of the free line, a request not taken, and a reply that is ready. -/
theorem test_hyps_IdleStepPassesAMillisecond_turns :
    (let s := base.modUnit 1 (fun r => { r with out := some (outOf .arcKill .sequencer 3 false) });
      s.pending = [] ∧ s.line.window = none ∧ s.cmdReady 1 = true ∧ s.line.turn = .command)
      ∧ (base.pending = [] ∧ base.line.window = none ∧ base.offerReady 0 = true ∧ ∀ v, base.cmdReady v = false)
      ∧ (let s : State := { base with line := { base.line with turn := .offer } };
        s.line.window = none ∧ s.offerReady 5 = true ∧ s.line.turn = .offer)
      ∧ ((holding passFrame base).host.hand = .untaken ∧ (holding passFrame base).host.buffer = passFrame :: [])
      ∧ (let s := (holding passFrame base).refuse .range;
        s.pending = [] ∧ s.host.hand = .ready (.refuse .range .none)) := by decide +kernel

/-- A crane of the hall with a move of a state, its unit with commands of its own. -/
def craneBusy (c : CraneId) (id : Nat) (st : MoveState) (out : Option Outstanding) (waiting : List Handed) (s : State) : State :=
  let s := s.setQueue (s.moves.queue ++ [{ onWay .toDest with id := id, load := .none, crane := some c, state := st }])
  (s.modCrane c (fun r => { r with state := .busy, move := some id })).modUnit (craneUnit c) (fun r =>
    { r with out := out, waiting := waiting })

/-- HallStopHaltsTheHall: a DISPATCHED and a FAULTED move of BUSY cranes, one unit with a command outstanding, and a table
that holds the arc. -/
theorem test_hyps_HallStopHaltsTheHall_moves :
    let s := (craneBusy 0 4 .dispatched (some (outOf (.goto 3) .cranes 2 true)) []
      (craneBusy 1 9 .faulted none [] busyHall)).followBeacons
    s.hall.inReset = false ∧ s.settled ∧ s.hall.stop = false ∧ s.hall.mode ≠ .setup
      ∧ (∀ k, 0 < (s.tab k).cfg.settle) ∧ (∀ u, (s.unit u).waiting = [])
      ∧ s.host.mask.getLsbD 7 = false ∧ s.host.reports.length < 47
      ∧ ((s.tab 0).state = .cutting ∧ (s.unit 0).link = .online ∧ (s.unit 0).out = none
        ∧ (s.tab 0).contour.map Contour.arcHeld = some true)
      ∧ ((s.unit 4).link = .online ∧ (s.unit 4).out ≠ none ∧ (s.unit 5).link = .online ∧ (s.unit 5).out = none)
      ∧ (s.crane 1).move = some 9 ∧ (s.crane 1).state = .busy := by
  unfold State.settled; decide +kernel

/-- The moves of that hall bear ids of their own, one of a crane that is BUSY and one of none. -/
theorem test_hyps_HallStopHaltsTheHall_queue :
    (busyHall.moves.queue.map MoveRec.id).Nodup ∧ (busyHall.crane 0).move = some 4 ∧ (busyHall.crane 0).state = .busy
      ∧ ((busyHall.move 4).map MoveRec.state) = some .dispatched
      ∧ ((busyHall.move 8).isSome = true ∧ ∀ c, (busyHall.crane c).move ≠ some 8) := by decide +kernel

/-- A command in the hands of a unit record. -/
def handed (cmd : FieldCmd) (who : Sender) : Handed := { cmd := cmd, sender := who, hand := 1 }

/-- HallResetClearsTheWork: records of each state, an ARC_KILL that three kept commands wait before, and a STOP behind one
that is outstanding. -/
theorem test_hyps_HallResetClearsTheWork_work :
    let kept : List Handed := [handed .arcKill .sequencer, handed .stop .cranes, handed .statusQuery .restore]
    let s := asking .hallReset ((craneBusy 0 9 .dispatched (some (outOf (.goto 3) .cranes 2 true)) [handed (.goto 4) .cranes]
      (busyHall.modUnit 0 (fun r => { r with
        out := some (outOf (.runContour 3 2) .sequencer 1 true), waiting := kept ++ [handed (.runContour 3 1) .sequencer] }))))
    inHand .hallReset s ∧ s.hall.mode ≠ .setup ∧ (∀ c, (s.crane c).hook = .empty)
      ∧ (s.stock.recs.map StockRec.state, s.stock.recs.map StockRec.before)
        = ([.available, .reserved, .moving], [none, none, some .reserved])
      ∧ (∀ x ∈ s.stock.recs, x.state = .moving → x.before ≠ none)
      ∧ ((s.tab 0).state ≠ .absent ∧ (s.unit 0).link = .online ∧ (s.tab 0).contour.map Contour.arcHeld = some true
        ∧ (s.unit 0).out ≠ none ∧ ((s.unit 0).waiting.filter (fun h =>
            h.cmd = .arcKill || h.cmd = .stop || h.cmd = .statusQuery)).length < 4)
      ∧ ((s.unit 4).link = .online ∧ ((s.crane 0).move.bind s.move).map MoveRec.state = some .dispatched)
      ∧ s.host.mask.getLsbD 7 = false ∧ s.host.reports.length < 48 := by
  unfold inHand State.takes State.settled; decide +kernel

/-- Records in a slot, from the bottom up, the last in a state of its own. -/
def pile (r : SlotRef) (n : Nat) (st : StockState) : List StockRec :=
  (List.range n).map (fun i =>
    { plate with id := i + 11, age := i + 11, loc := .slot r i, state := if i + 1 = n then st else .available })

/-- StockRegisterCreatesARecord: a stack whose top is RESERVED or MOVING, a stack of eight, one of seven that takes an
eighth, and a rack slot that is occupied or empty. -/
theorem test_hyps_StockRegisterCreatesARecord_tops :
    (∀ p ∈ [(1, StockState.reserved), (8, .moving), (8, .available), (7, .quarantined)],
      let s := asking (.stockRegister stackBody) (base.setRecs (pile ⟨0, 1⟩ p.1 p.2))
      inHand (.stockRegister stackBody) s ∧ s.idUsed 1 = false ∧ s.stock.recs.length < 192
        ∧ s.lock ⟨0, 1⟩ = { pick := none, deliveries := 0 } ∧ s.kindOf 0 = .stock
        ∧ (s.slotTop ⟨0, 1⟩).map StockRec.state = some p.2 ∧ (s.slotRecs ⟨0, 1⟩).length = p.1)
      ∧ (∀ n ∈ [0, 1],
        let s := asking (.stockRegister rackBody) (base.setRecs (pile ⟨4, 0⟩ n .quarantined))
        inHand (.stockRegister rackBody) s ∧ s.idUsed 61439 = false
          ∧ s.lock ⟨4, 0⟩ = { pick := none, deliveries := 0 } ∧ s.kindOf 4 = .rack ∧ (s.slotRecs ⟨4, 0⟩).length = n) := by
  unfold inHand State.takes State.settled; decide +kernel

/-- The stamp after 4,294,967,295 is 1, or the first unused one from there; the part-assigned id after 65535 is 61440. -/
theorem test_counters_wrap :
    let s (recs : List StockRec) : State :=
      let s := base.setRecs recs
      { s with stock := { s.stock with seq := 4294967295, idCursor := 65535 } }
    ((s []).countAge.stock.seq, (s []).partId) = (1, 65535)
      ∧ ((s [{ plate with id := 65535, age := 1 }]).countAge.stock.seq, (s [{ plate with id := 65535, age := 1 }]).partId)
        = (2, 61440) := by decide +kernel

/-- StockQueriesAnswer: values at their greatest, in a slot and on a hook, and records whose order is not that of the
table. -/
theorem test_hyps_StockQueriesAnswer_image :
    let x : StockRec := { plate with
      id := 65535, grade := 255, thick := 65535, len := 65535, wid := 65535, gen := 255, age := 4294967295,
      heat := some [9, 8, 7, 6, 5, 4, 3, 2], parent := some 65535, move := some 255, loc := .slot ⟨15, 15⟩ 255 }
    (x.id < 65536 ∧ x.len < 65536 ∧ x.age < 4294967296 ∧ x.depth < 256 ∧ ∀ h, x.heat = some h → h.length = 8 ∧ ∀ d ∈ h, d ≤ 9)
      ∧ ({ x with loc := .hook 1 } : StockRec).depth < 256
      ∧ (base.setRecs ([{ plate with id := 3, loc := .hook 1 }, { plate with id := 4, loc := .hook 0 }]
          ++ pile ⟨14, 1⟩ 2 .available ++ pile ⟨4, 15⟩ 1 .available)).locationOrder.map StockRec.loc
        = [.slot ⟨4, 15⟩ 0, .slot ⟨14, 1⟩ 0, .slot ⟨14, 1⟩ 1, .hook 0, .hook 1] := by
  refine ⟨⟨by decide, by decide, by decide, by decide, fun h e => ?_⟩, by decide, by decide +kernel⟩
  obtain rfl : [9, 8, 7, 6, 5, 4, 3, 2] = h := Option.some.inj e
  exact ⟨rfl, by decide⟩

/-- The image of a plate of 4.2 m by 1.5 m in stack (0, 1), with a pick lock (Table 12-8; the code of its state is log entry 19). -/
theorem test_stock_image :
    (base.setPick ⟨0, 1⟩ (some 4)).stockImage { plate with len := 4200, wid := 1500, heat := some [4, 0, 7, 1, 6, 2, 2, 3] }
      = [0, 5, 0, 3, 0, 250, 0x10, 0x68, 0x05, 0xDC, 1, 0x40, 0x71, 0x62, 0x23, 0, 0, 0, 0, 1, 0, 0, 0, 1, 0, 0, 0xFF, 0xFF,
        0, 4, 0, 0] := by decide +kernel

/-- DerivationAccountsForThePlate: a table that a set of flag 3 releases to a step. -/
def released (steps : List NestStep) (loaded : Option Nat) (recs : List StockRec) (f : TableRec → TableRec) : State :=
  let s := (base.setRecs recs).setFlagRec 3 ⟨false, true, [0, 2]⟩
  asking (.flagSet 3) (s.modTab 0 (fun r =>
    f { r with state := .flagWait, active := some ⟨steps, 0, loaded, false⟩ })).followBeacons

/-- Record 5 on the bed of table T1. -/
def onBed : StockRec := { plate with loc := .slot ⟨2, 0⟩ 0, state := .onBed }

/-- A REMNANT step that leaves a remnant, one that leaves none, and one that finds no plate. -/
theorem test_hyps_DerivationAccountsForThePlate_remnant :
    (∀ used ∈ [3000, 5900],
      let steps : List NestStep := [.waitFlag 3, .remnant used, .waitFlag 3]
      let s := released steps (some 5) [onBed] id
      inHand (.flagSet 3) s ∧ (s.flag 3).value = false ∧ (s.flag 3).waiters = 0 :: [2] ∧ (s.tab 0).state = .flagWait
        ∧ (s.tab 0).cause = none ∧ (s.tab 0).active = some ⟨steps, 0, some 5, false⟩
        ∧ steps[0 + 1]? = some (.remnant used) ∧ steps[0 + 2]? = some (.waitFlag (3 : FlagId).val)
        ∧ s.bedRec 0 = some onBed ∧ onBed.state = .onBed
        ∧ ((derive (s.tab 0).cfg onBed used).reason = .none ↔ used = 3000))
      ∧ (released [.waitFlag 3, .remnant 9] (some 5) [] id).loadedOnBed 0 = none
      ∧ inHand (.flagSet 3) (released [.waitFlag 3, .remnant 9] (some 5) [] id) := by
  unfold inHand State.takes State.settled; decide +kernel

/-- An END step with and without a plate to consume, and with a READY program that follows it. -/
theorem test_hyps_DerivationAccountsForThePlate_end :
    ∀ recs ∈ [[onBed], []], ∀ swap ∈ [false, true],
      let steps : List NestStep := [.waitFlag 3, .finish]
      let s := released steps (some 5) recs (fun r => { r with swap := swap, staged := .ready steps })
      inHand (.flagSet 3) s ∧ (s.flag 3).waiters = 0 :: [2] ∧ (s.tab 0).active = some ⟨steps, 0, some 5, false⟩
        ∧ steps[0 + 1]? = some .finish ∧ (recs = [] → s.loadedOnBed 0 = none)
        ∧ (recs ≠ [] → s.bedRec 0 = some onBed ∧ s.stockRec 5 = some onBed) ∧ 0 < (s.tab 0).cfg.minLen
        ∧ (s.tab 0).swap = swap ∧ (s.tab 0).staged = .ready steps
        ∧ steps[0]? = some (.waitFlag (3 : FlagId).val) := by
  unfold inHand State.takes State.settled; decide +kernel

/-- MarksAreExchanged: table T1 MARKING with mark 12, its last frame in hand, after so many resends of it. -/
def lastFrame (st : ComposerState) (onMis : OnMismark) (resend : Nat) (w : Bool) : State :=
  let s := base.modTab 0 (fun r =>
    { r with state := .marking, active := some ⟨[.mark 12 5 6 onMis, .waitFlag 3], 0, some 5, false⟩ })
  let s := s.setComposer { s.composer with
    marks := [mark12], state := st, ctx := some { ctx12 with frame := 3, resend := resend, used := mark12.serial } }
  (if w then windowed 0 .offer s else s).followBeacons

/-- The echo of the last frame, and a rejection after the frame was sent twice, with an EMPTY and a full fault record. -/
theorem test_hyps_MarksAreExchanged_ended :
    (∀ st ∈ [ComposerState.sending, .echoWait], ∀ onMis ∈ [OnMismark.go, .halt],
      let s := lastFrame st onMis 1 true
      s.hall.inReset = false ∧ s.settled ∧ s.composer.ctx.map (fun c => (c.entry.table, c.frame, c.resend)) = some (0, 3, 1)
        ∧ frameCount ctx12.str ≤ 3 + 1 ∧ s.composer.queue = [] ∧ (s.tab 0).state = .marking ∧ s.composer.state = st
        ∧ ((s.tab 0).active.map (fun a => (a.steps[a.index]?, a.steps[a.index + 1]?)))
          = some (some (.mark 12 5 6 onMis), some (.waitFlag (3 : FlagId).val))
        ∧ (s.flag 3).value = false ∧ s.line.window = some { unit := tableUnit 0, kind := .offer, expiry := 50 }
        ∧ s.hall.fault.held = none)
      ∧ (lastFrame .echoWait .halt 1 false).settled ∧ (ctx12.timer = some 0 ∧ 0 ≤ (lastFrame .echoWait .halt 1 false).now)
      ∧ (lockedBy .unit (lastFrame .echoWait .halt 1 false)).settled ∧ 2 ≤ FaultClass.unit.rank
      ∧ ((lockedBy .unit (lastFrame .echoWait .halt 1 false)).hall.fault.held = some (faultOf .unit)) := by
  unfold State.settled; decide +kernel

/-- Characters that match the last frame of mark 12, and characters that do not. -/
theorem test_last_frame_of_mark12 :
    frameChars ctx12.str 3 = [18, 19] ∧ (frameChars ctx12.str 3).length = 2 ∧ [18, 18].take 2 ≠ frameChars ctx12.str 3 := by
  decide

/-- MarksAreExchanged: the idle composer with table T1 at the head of its queue, under an asserted hall stop. -/
def served (marks : List MarkRec) (rest : List MarkEntry) : State :=
  let s : State := { base with hall := { base.hall with mode := .stopped, stop := true } }
  let s := s.modTab 0 (fun r =>
    { r with state := .markWait, active := some ⟨[.mark 12 5 6 .halt], 0, none, false⟩ })
  (s.setComposer { s.composer with marks := marks, queue := ⟨0, 12, 5, 6, .halt⟩ :: rest }).followBeacons

theorem test_hyps_MarksAreExchanged_served :
    ∀ marks ∈ [[], [mark12], [{ mark12 with spent := true }]], ∀ rest ∈ [[], [(⟨1, 3, 4, 5, .go⟩ : MarkEntry)]],
      let s := served marks rest
      s.hall.inReset = false ∧ s.settled ∧ s.hall.stop = true ∧ s.composer.state = .idle
        ∧ s.composer.queue = { table := 0, id := 12, x := 5, y := 6, onMis := .halt } :: rest
        ∧ (s.tab 0).state = .markWait ∧ s.mark 12 = marks.head? ∧ (s.unit (tableUnit 0)).link = .online
        ∧ (s.unit (tableUnit 0)).out = none
        ∧ (s.tab 0).active.map (fun a => a.steps[a.index]?) = some (some (.mark 12 5 6 .halt)) := by
  unfold State.settled; decide +kernel

/-- MOVE_RECOVER of move 4, FAULTED, with record 5 where it lies. -/
def recovering (loc : Loc) (ph : Phase) (st : StockState) (sensed : Sensed) (i : Instr) : State :=
  let x : StockRec := { carried loc with state := st, before := if st = .held then none else some .available }
  let s := (base.setRecs [x]).beginDelivery ⟨4, 7⟩
  let s := if st = .held then s else s.setPick ⟨0, 1⟩ (some 4)
  let s := s.modCrane 0 (fun r => { r with sensed := sensed, hook := if st = .held then .stock 5 else .empty })
  aboutMove i { onWay ph with state := .faulted } .halted s

/-- HeldMovesAreTakenUp: a record that was not picked, and every location. -/
theorem test_hyps_HeldMovesAreTakenUp_unpicked :
    ∀ p ∈ [(0, 0, 1), (0, 4, 0), (1, 0, 0), (2, 0, 0)],
      let i := Instr.moveRecover 4 p.1 p.2.1 p.2.2
      let m := { onWay .toSource with state := .faulted }
      let s := recovering (.slot ⟨0, 1⟩ 0) .toSource .moving .no i
      inHand i s ∧ s.hall.mode ≠ .setup ∧ s.move 4 = some m ∧ m.crane = some 0 ∧ m.load = .stock 5
        ∧ (s.stockRec 5).map StockRec.loc = some (.slot ⟨0, 1⟩ 0) ∧ m.dst = .slot ⟨4, 7⟩ ∧ s.bedTable ⟨4, 7⟩ = none
        ∧ m.holds = [] ∧ s.moves.spaceWaits = [] ∧ m.origin = .host ∧ (s.lock ⟨4, 7⟩).deliveries = 1 := by
  unfold inHand State.takes State.settled; decide +kernel

/-- A record HELD on the hook: NONE, HOOK with the load sensed or not, no slot, an OUTPUT zone, and slots. -/
theorem test_hyps_HeldMovesAreTakenUp_held :
    ∀ i ∈ [Instr.moveRecover 4 2 0 0, .moveRecover 4 1 0 0, .moveRecover 4 0 1 0, .moveRecover 4 0 8 0,
        .moveRecover 4 0 4 7, .moveRecover 4 0 0 2], ∀ v ∈ [Sensed.no, .yes],
      let s := recovering (.hook 0) .toDest .held v i
      inHand i s ∧ s.move 4 = some { onWay .toDest with state := .faulted } ∧ (s.crane 0).sensed = v
        ∧ (s.stockRec 5).map StockRec.loc = some (.hook 0) ∧ (s.stockRec 5).map StockRec.state = some .held := by
  unfold inHand State.takes State.settled; decide +kernel

/-- No slot, an OUTPUT zone, two slots that pass the delivery test with the move's delivery released, and one that does
not. -/
theorem test_hyps_HeldMovesAreTakenUp_slots :
    let s := recovering (.hook 0) .toDest .held .yes (.moveRecover 4 0 4 7)
    let r := s.setLock ⟨4, 7⟩ { s.lock ⟨4, 7⟩ with deliveries := (s.lock ⟨4, 7⟩).deliveries - 1 }
    s.slotRef 1 0 = none ∧ s.slotRef 8 0 = some ⟨8, 0⟩ ∧ s.kindOf 8 = .output ∧ s.slotRef 4 7 = some ⟨4, 7⟩
      ∧ s.slotRef 0 2 = some ⟨0, 2⟩ ∧ s.kindOf 4 ≠ .output ∧ s.kindOf 0 ≠ .output
      ∧ r.deliveryTest ⟨4, 7⟩ = none ∧ r.deliveryTest ⟨0, 2⟩ = none
      ∧ (r.setPick ⟨0, 2⟩ (some 9)).deliveryTest ⟨0, 2⟩ = some .slotLocked := by decide +kernel

/-- A BATCH, and no load, with a location other than NONE. -/
theorem test_hyps_HeldMovesAreTakenUp_others :
    ∀ i ∈ [Instr.moveRecover 4 0 4 7, .moveRecover 4 1 4 7, .moveRecover 4 3 4 7], ∀ l ∈ [Load.batch 4, .none],
      let s := aboutMove i { onWay .toSource with state := .faulted, load := l } .halted base
      inHand i s ∧ s.move 4 = some { onWay .toSource with state := .faulted, load := l } := by
  unfold inHand State.takes State.settled; decide +kernel

/-- MOVE_RETRY of a move whose record is HELD, and of one whose record is still MOVING. -/
theorem test_hyps_HeldMovesAreTakenUp_retried :
    ∀ st ∈ [StockState.held, .moving],
      let s := aboutMove (.moveRetry 4) { onWay .toDest with state := .faulted } .idle
        (base.setRecs [{ carried (.hook 0) with state := st }])
      inHand (.moveRetry 4) s ∧ s.move 4 = some { onWay .toDest with state := .faulted }
        ∧ (s.stockRec 5).map StockRec.state = some st
        ∧ phaseCmd { onWay .toDest with state := .faulted } .toDest = some (.goto 4) := by
  unfold inHand State.takes State.settled; decide +kernel

/-- The STATUS of a restore in flight, the request that waits for it in hand. -/
def restoring (u : UnitId) (l : Link) (attempt : Nat) (s : State) : State :=
  let s := flying u .statusQuery .restore 6 (s.modUnit u (fun r => { r with link := l, restoring := true, fails := 2 }))
  ((s.modUnit u (fun r => { r with out := r.out.map (fun o => { o with attempt := attempt }) })).setHand
    (.waiting (.unitRestore u))).followBeacons

/-- UnitsAreMaintainedAndRestored: a table with a program and a contour, with the arc held or not, its zone's guard ARC. -/
theorem test_hyps_UnitsAreMaintainedAndRestored_table :
    ∀ arc ∈ [false, true], ∀ a ∈ [none, some (Active.mk waitSteps 3 (some 5) false)],
      let c : Contour := ⟨7, 2, arc, false, 9⟩
      let s := restoring 0 .offline 1 ((base.modTab 0 (fun r =>
        { r with state := .offline, active := a, contour := some c })).setGuard 2 ⟨.arc, some ⟨4, 0⟩, none⟩)
      s.hall.inReset = false ∧ s.settled ∧ s.host.hand = .waiting (.unitRestore (tableUnit 0))
        ∧ s.line.window = some { unit := tableUnit 0, kind := .command, expiry := 50 }
        ∧ (s.unit 0).out = some (outOf .statusQuery .restore 6 true) ∧ (s.unit 0).waiting = []
        ∧ (s.tab 0).state = .offline ∧ (s.tab 0).active = a ∧ (s.tab 0).contour = some c ∧ c.arcHeld = arc
        ∧ s.tableZone 0 = some 2 ∧ (s.guard 2).state = .arc ∧ 0 < (s.tab 0).cfg.settle := by
  unfold State.settled; decide +kernel

/-- A crane with no move, with a STOPPED and with a FAULTED one, under a released and an asserted stop. -/
theorem test_hyps_UnitsAreMaintainedAndRestored_crane :
    ∀ stop ∈ [false, true], ∀ q ∈ [[], [{ onWay .toDest with state := .stopped }], [{ onWay .toDest with state := .faulted }]],
      let s := restoring 4 .offline 1 ((({ base with hall := { base.hall with stop := stop } } : State).setQueue q).modCrane 0
        (fun r => { r with state := .offline, move := q.head?.map MoveRec.id }))
      s.hall.inReset = false ∧ s.settled ∧ s.host.hand = .waiting (.unitRestore (craneUnit 0))
        ∧ s.line.window = some { unit := craneUnit 0, kind := .command, expiry := 50 }
        ∧ (s.unit 4).out = some (outOf .statusQuery .restore 6 true) ∧ (s.unit 4).waiting = []
        ∧ (s.crane 0).move.bind s.move = q.head? ∧ s.hall.stop = stop
        ∧ (∀ m ∈ q, m.span = some ⟨0, 4⟩) ∧ (Span.mk 0 4).has 3 = true := by
  unfold State.settled; decide +kernel

/-- PassThroughFramesAreAnswered: kinds and lengths at the ends of the table of answers, one with the channel bit, and frames
of no kind or of another length. -/
theorem test_hyps_PassThroughFramesAreAnswered_kinds :
    let table : List (Nat × Nat) := [(11, 1), (12, 1), (13, 1), (13, 2), (14, 0), (15, 4), (16, 3), (17, 9), (18, 2), (19, 1),
      (20, 2), (21, 0), (22, 1)]
    (∀ p ∈ [(11, 1), (13, 2), (13 + 128, 1), (17, 9), (22, 1)],
        ((BitVec.ofNat 8 p.1).toNat % 128, (List.replicate p.2 (0 : Byte)).length) ∈ table)
      ∧ (∀ p ∈ [(10, 0), (11, 0), (13, 0), (13, 3), (17, 8), (23, 0), (0, 0), (127, 1), (255, 1)],
        ((BitVec.ofNat 8 p.1).toNat % 128, (List.replicate p.2 (0 : Byte)).length) ∉ table)
      ∧ (let s := windowed 0 .pass base;
        s.line.window = some { unit := 0, kind := .pass, expiry := 50 } ∧ (5 : UnitId) ≠ 0 ∧ (s.unit 5).link ≠ .absent) := by
  decide +kernel

/-- FailuresTakeAUnitOffline: the attempts of a restore of an OFFLINE unit and of one in MAINTENANCE. -/
theorem test_hyps_FailuresTakeAUnitOffline_restore :
    ∀ l ∈ [Link.offline, .maintenance], ∀ n ∈ [2, 3],
      let u : UnitId := 5
      let s : State := { restoring u l n base with now := 50 }
      s.hall.inReset = false ∧ s.settled ∧ (s.unit u).link = l ∧ (s.unit u).restoring = true
        ∧ s.line.window = some { unit := u, kind := .command, expiry := 50 } ∧ 50 ≤ s.now
        ∧ (s.unit u).out.map Outstanding.attempt = some n ∧ (s.unit u).waiting = []
        ∧ s.host.hand = .waiting (.unitRestore u) := by
  unfold State.settled; decide +kernel

/-- In MAINTENANCE a failure of the restore's STATUS_QUERY is not counted (R195). -/
theorem test_maintenance_counts_no_failure :
    (match exec .damagedFieldFrame (restoring 5 .maintenance 1 base) with
      | .next t => ((t.unit 5).fails, (t.unit 5).out.map Outstanding.attempt)
      | _ => (9, none)) = (2, some 2) := by decide +kernel

/-- The characters of a field frame (Table 12-11). -/
def fieldChars (l : List Byte) : List Byte := 0x7E :: l ++ [(crc16 l).extractLsb' 8 8, (crc16 l).setWidth 8]

/-- The kinds are numbered from 1 in the order of Table 10-3: EMPTY is the 14th, STATUS the 13th with OFF 1, and FRAME_REJECT
the 18th, on the marker channel. A body that names no command, or neither value of a STATUS, is intact (R191). Another length, a kind of the part's own and a wrong character make a damaged frame. -/
theorem test_field_frames_are_read :
    fieldCommandOf false (fieldChars [3, 14, 0]) = .empty 3 false
      ∧ fieldCommandOf false (fieldChars [1, 13, 1, 1]) = .status 1 false (.arc false)
      ∧ fieldCommandOf false (fieldChars [2, 0x92, 2, 58, 5]) = .frameReject 2 true 58 5
      ∧ fieldCommandOf true (fieldChars [1, 13, 1, 1]) = .passThroughAnswer 1 13 [1]
      ∧ fieldCommandOf false (fieldChars [5, 11, 1, 6]) = .ack 5 false (.cmd .pick)
      ∧ fieldCommandOf false (fieldChars [5, 12, 1, 10]) = .nak 5 false (.other 10)
      ∧ fieldCommandOf false (fieldChars [5, 13, 2, 7, 2]) = .status 5 false (.other (some 7) 2)
      ∧ fieldCommandOf false (fieldChars [3, 14, 1, 0]) = .damagedFieldFrame
      ∧ fieldCommandOf false (fieldChars [3, 10, 0]) = .damagedFieldFrame
      ∧ fieldCommandOf true ((fieldChars [3, 14, 0]).map (fun c => if c = 14 then 15 else c)) = .passThroughTimeout true := by
  decide +kernel

/-- The reply that returns a pass-through answer: the request's unit, tag and kind, then the answer's kind and body (R200,
R217). -/
theorem test_frame_of_a_pass_through_reply :
    (HostTx.reply passFrame (.accept (.answer 13 [1]))).frame = { unit := 1, kind := 0xE0, tag := 3, body := [9, 13, 1] } := by
  decide

/-- An intact frame of no use in an offer window is a stray report and no failure (R191, R196); in a command window it is a bad
answer (R194). -/
theorem test_frames_without_a_value :
    (match exec (.nak 1 false (.other 10)) (windowed 0 .offer base) with
      | .next t => ((t.unit 0).strays, (t.unit 0).fails)
      | _ => (9, 9)) = (1, 0)
      ∧ (match exec (.status 1 false (.other none 2)) (flying 0 .statusQuery .cranes 6 base) with
        | .next t => ((t.unit 0).strays, (t.unit 0).fails)
        | _ => (9, 9)) = (0, 1) := by decide +kernel

/-- FailuresTakeAUnitOffline: an ACK that names no command, and one that names another. -/
theorem test_hyps_FailuresTakeAUnitOffline_ack :
    (failing 1).settled ∧ (failing 1).line.window = some { unit := 0, kind := .command, expiry := 50 }
      ∧ (failing 1).unit 0 = { (failing 1).unit 0 with out := some (outOf .arcKill .sequencer 6 true), fails := 1 }
      ∧ (∀ k ∈ [NamedCmd.other 0, .other 255, .cmd .stop], k ≠ .cmd (FieldCmd.arcKill).kind) := by
  unfold State.settled; decide +kernel
end Sys2Proof.Tests
end

/-! The requests that read the stock wait list, the candidates of a requirement and the account, and the one that
clears the account (R35, R36, R47, R48): what each answers when it is the request in hand. -/

namespace Sys2Proof.Machine

/-! ## The arms of the allocation and account requests -/

theorem exec_allocQuery (s : State) : exec .allocQuery s = execAllocQuery s := by rfl

theorem exec_allocProbe (r : ReqFields) (s : State) : exec (.allocProbe r) s = execAllocProbe r s := by rfl

theorem exec_accountRead (s : State) : exec .accountRead s = execAccountRead s := by rfl

theorem exec_accountClear (s : State) : exec .accountClear s = execAccountClear s := by rfl

/-! ## What each answers when it is the request in hand -/

/-- ALLOC_QUERY returns the stock wait list (R35). -/
theorem exec_allocQuery_of_takes (s : State) (h : s.takes .allocQuery) :
    exec .allocQuery s = .next (s.accept (.waits s.alloc.waits)) := by
  rw [exec_allocQuery, execAllocQuery, ask_of_takes _ _ s h]

/-- ACCOUNT_READ returns the account (R47). -/
theorem exec_accountRead_of_takes (s : State) (h : s.takes .accountRead) :
    exec .accountRead s = .next (s.accept (.account s.alloc.account)) := by
  rw [exec_accountRead, execAccountRead, ask_of_takes _ _ s h]

/-- ACCOUNT_CLEAR returns the account as it stood and leaves it as after power-on: all 0 and not FROZEN (R48). -/
theorem exec_accountClear_of_takes (s : State) (h : s.takes .accountClear) :
    exec .accountClear s = .next
      (({ s with alloc := { s.alloc with account := .initial } } : State).accept (.account s.alloc.account)) := by
  rw [exec_accountClear, execAccountClear, ask_of_takes _ _ s h]

/-- ALLOC_PROBE of a requirement out of range is refused (R36). -/
theorem exec_allocProbe_of_bad (r : ReqFields) (s : State) (h : s.takes (.allocProbe r)) (hr : reqOk r = false) :
    exec (.allocProbe r) s = .next (s.refuse .range) := by
  rw [exec_allocProbe, execAllocProbe, ask_of_takes _ _ s h]
  simp [hr]

/-- ALLOC_PROBE of a requirement in range returns its winner with the winner's waste, and the numbers of its candidate
remnants and plates; it reserves nothing (R36). -/
theorem exec_allocProbe_of_ok (r : ReqFields) (s : State) (h : s.takes (.allocProbe r)) (hr : reqOk r = true) :
    exec (.allocProbe r) s = .next
      (s.accept (.probe ((s.winner (toReq r)).map (fun x => (x.id, waste (toReq r) x)))
        (s.candidates (toReq r) .remnant).length (s.candidates (toReq r) .plate).length)) := by
  rw [exec_allocProbe, execAllocProbe, ask_of_takes _ _ s h]
  simp [hr]

/-- The waste of a record for the requirement that request fields give (R27). -/
theorem waste_toReq (r : ReqFields) (x : StockRec) : waste (toReq r) x = x.len * x.wid - r.len * r.wid := by rfl

/-- Settles O35, request by request; a probe by whether its requirement is in range. -/
theorem allocationRequestsAnswer : Obligations.AllocationRequestsAnswer := by
  intro s
  refine ⟨exec_allocQuery_of_takes s, exec_accountRead_of_takes s, exec_accountClear_of_takes s, fun r h => ⟨?_, ?_⟩⟩
  · exact exec_allocProbe_of_bad r s h
  · intro hr
    simpa only [waste_toReq] using exec_allocProbe_of_ok r s h hr

end Sys2Proof.Machine

/-! The requests about mark records and the composer (R111 to R114, R131): what each answers when it is the request in
hand. -/

namespace Sys2Proof.Machine

/-! ## The arms of the mark requests -/

theorem exec_markDefine (m : MarkBody) (s : State) : exec (.markDefine m) s = execMarkDefine m s := by rfl

theorem exec_markDelete (id : Nat) (s : State) : exec (.markDelete id) s = execMarkDelete id s := by rfl

theorem exec_markQuery (id : Nat) (s : State) : exec (.markQuery id) s = execMarkQuery id s := by rfl

theorem exec_markSerialSet (id : Nat) (ds : List Nat) (s : State) :
    exec (.markSerialSet id ds) s = execMarkSerialSet id ds s := by rfl

theorem exec_composerQuery (s : State) : exec .composerQuery s = execComposerQuery s := by rfl

/-! ## Finding a mark record, and whether it is being composed -/

theorem State.composed_iff (s : State) (id : Nat) :
    s.composed id = true ↔ ∃ c, s.composer.ctx = some c ∧ c.entry.id = id := by
  simp only [State.composed, Option.any_eq_true, decide_eq_true_eq]

theorem State.not_composed_iff (s : State) (id : Nat) :
    s.composed id = false ↔ ¬ ∃ c, s.composer.ctx = some c ∧ c.entry.id = id := by
  rw [← s.composed_iff id, Bool.not_eq_true]

theorem State.mark_isSome_iff (s : State) (id : Nat) :
    (s.mark id).isSome = true ↔ ∃ k ∈ s.composer.marks, k.id = id := by
  simp only [State.mark, List.find?_isSome, decide_eq_true_eq]

theorem State.mark_eq_none_iff (s : State) (id : Nat) :
    s.mark id = none ↔ ∀ k ∈ s.composer.marks, k.id ≠ id := by
  simp only [State.mark, List.find?_eq_none, decide_eq_true_eq, ne_eq]

theorem within_eq_false_iff (lo hi v : Nat) : within lo hi v = false ↔ v < lo ∨ hi < v := by
  simp only [within, Bool.and_eq_false_iff, decide_eq_false_iff_not, Nat.not_le]

/-- Test 1 of MARK_DEFINE fails exactly where one of the fields is out of its range (R111). -/
theorem markBodyOk_eq_false_iff (m : MarkBody) :
    markBodyOk m = false ↔ m.id < 1 ∨ 255 < m.id ∨ m.count < 1 ∨ 20 < m.count ∨ (∃ c ∈ m.codes, 39 < c)
      ∨ (∃ ds, m.serial = some ds ∧ ∃ d ∈ ds, 9 < d) ∨ 1 < m.heat := by
  have hcodes : m.codes.all (fun c => decide (c ≤ 39)) = false ↔ ∃ c ∈ m.codes, 39 < c := by
    simp only [List.all_eq_false, decide_eq_true_eq, Nat.not_le]
  have hserial : m.serial.all (fun ds => ds.all (fun d => decide (d ≤ 9))) = false
      ↔ ∃ ds, m.serial = some ds ∧ ∃ d ∈ ds, 9 < d := by
    cases m.serial with
    | none => simp only [Option.all_none, Bool.true_eq_false, reduceCtorEq, false_and, exists_false]
    | some ds =>
      simp only [Option.all_some, List.all_eq_false, decide_eq_true_eq, Nat.not_le, Option.some.injEq,
        exists_eq_left']
  have hheat : decide (m.heat ≤ 1) = false ↔ 1 < m.heat := by
    simp only [decide_eq_false_iff_not, Nat.not_le]
  simp only [markBodyOk, Bool.and_eq_false_iff, within_eq_false_iff, hcodes, hserial, hheat, or_assoc]

/-! ## MARK_DEFINE (R111) -/

section MarkDefine

variable {s : State} {m : MarkBody} (h : s.takes (.markDefine m))
include h

theorem exec_markDefine_of_bad (hm : markBodyOk m = false) : exec (.markDefine m) s = .next (s.refuse .range) := by
  rw [exec_markDefine, execMarkDefine, ask_of_takes _ _ s h]
  simp only [hm, Bool.not_false, if_true]

theorem exec_markDefine_of_composed (hm : markBodyOk m = true) (hc : s.composed m.id = true) :
    exec (.markDefine m) s = .next (s.refuse .busy) := by
  rw [exec_markDefine, execMarkDefine, ask_of_takes _ _ s h]
  simp only [hm, hc, Bool.not_true, Bool.false_eq_true, if_false, if_true]

/-- A record with the id is replaced in its place. -/
theorem exec_markDefine_of_defined (hm : markBodyOk m = true) (hc : s.composed m.id = false)
    (hk : (s.mark m.id).isSome = true) :
    exec (.markDefine m) s = .next ((s.modMark m.id (fun _ => markRecOf m)).accept (.defined true)) := by
  rw [exec_markDefine, execMarkDefine, ask_of_takes _ _ s h]
  simp only [hm, hc, hk, Bool.not_true, Bool.false_eq_true, if_false, if_true]

theorem exec_markDefine_of_full (hm : markBodyOk m = true) (hc : s.composed m.id = false) (hk : s.mark m.id = none)
    (hl : Config.maxMarks ≤ s.composer.marks.length) : exec (.markDefine m) s = .next (s.refuse .full) := by
  rw [exec_markDefine, execMarkDefine, ask_of_takes _ _ s h]
  simp only [hm, hc, hk, Option.isSome_none, Bool.not_true, Bool.false_eq_true, if_false, if_pos hl]

/-- A record of a new id joins the others at the end. -/
theorem exec_markDefine_of_room (hm : markBodyOk m = true) (hc : s.composed m.id = false) (hk : s.mark m.id = none)
    (hl : s.composer.marks.length < Config.maxMarks) :
    exec (.markDefine m) s = .next
      ((s.setComposer { s.composer with marks := s.composer.marks ++ [markRecOf m] }).accept (.defined false)) := by
  rw [exec_markDefine, execMarkDefine, ask_of_takes _ _ s h]
  simp only [hm, hc, hk, Option.isSome_none, Bool.not_true, Bool.false_eq_true, if_false, if_neg (Nat.not_le.2 hl)]

end MarkDefine

/-! ## MARK_DELETE, MARK_QUERY and MARK_SERIAL_SET of an id without a record -/

theorem exec_markDelete_of_none {s : State} {id : Nat} (h : s.takes (.markDelete id)) (hk : s.mark id = none) :
    exec (.markDelete id) s = .next (s.refuse .notFound) := by
  rw [exec_markDelete, execMarkDelete, ask_of_takes _ _ s h, hk]

theorem exec_markQuery_of_none {s : State} {id : Nat} (h : s.takes (.markQuery id)) (hk : s.mark id = none) :
    exec (.markQuery id) s = .next (s.refuse .notFound) := by
  rw [exec_markQuery, execMarkQuery, ask_of_takes _ _ s h, hk]

theorem exec_markSerialSet_of_none {s : State} {id : Nat} {ds : List Nat} (h : s.takes (.markSerialSet id ds))
    (hk : s.mark id = none) : exec (.markSerialSet id ds) s = .next (s.refuse .notFound) := by
  rw [exec_markSerialSet, execMarkSerialSet, ask_of_takes _ _ s h, hk]

/-! ## MARK_DELETE and MARK_QUERY of a record (R112, R114) -/

theorem exec_markDelete_of_composed {s : State} {id : Nat} {m : MarkRec} (h : s.takes (.markDelete id))
    (hk : s.mark id = some m) (hc : s.composed id = true) : exec (.markDelete id) s = .next (s.refuse .busy) := by
  rw [exec_markDelete, execMarkDelete, ask_of_takes _ _ s h]
  simp only [hk, hc, if_true]

theorem exec_markDelete_of_not_composed {s : State} {id : Nat} {m : MarkRec} (h : s.takes (.markDelete id))
    (hk : s.mark id = some m) (hc : s.composed id = false) :
    exec (.markDelete id) s = .next
      ((s.setComposer { s.composer with marks := s.composer.marks.filter (fun k => k.id ≠ id) }).accept
        (.markHeld m.serial m.spent)) := by
  rw [exec_markDelete, execMarkDelete, ask_of_takes _ _ s h]
  simp only [hk, hc, Bool.false_eq_true, if_false]

/-- MARK_QUERY returns the record, whether it is being composed, and how many entries of the mark queue name it. -/
theorem exec_markQuery_of_some {s : State} {id : Nat} {m : MarkRec} (h : s.takes (.markQuery id))
    (hk : s.mark id = some m) :
    exec (.markQuery id) s = .next
      (s.accept (.mark m (s.composed id) (s.composer.queue.filter (fun e => e.id = id)).length)) := by
  rw [exec_markQuery, execMarkQuery, ask_of_takes _ _ s h, hk]

/-! ## MARK_SERIAL_SET of a record (R113) -/

theorem any_digit_over_eq_false_iff (ds : List Nat) :
    ds.any (fun d => decide (9 < d)) = false ↔ ∀ d ∈ ds, d ≤ 9 := by
  simp only [List.any_eq_false, decide_eq_true_eq, Nat.not_lt]

section MarkSerialSet

variable {s : State} {id : Nat} {ds : List Nat} {m : MarkRec} (h : s.takes (.markSerialSet id ds))
  (hk : s.mark id = some m)
include h hk

theorem exec_markSerialSet_of_bad_digit (hd : ∃ d ∈ ds, 9 < d) :
    exec (.markSerialSet id ds) s = .next (s.refuse .range) := by
  have hany : ds.any (fun d => decide (9 < d)) = true := by
    simpa only [List.any_eq_true, decide_eq_true_eq] using hd
  rw [exec_markSerialSet, execMarkSerialSet, ask_of_takes _ _ s h]
  simp only [hk, hany, if_true]

theorem exec_markSerialSet_of_no_serial (hd : ∀ d ∈ ds, d ≤ 9) (hs : m.serial = none) :
    exec (.markSerialSet id ds) s = .next (s.refuse .badState) := by
  rw [exec_markSerialSet, execMarkSerialSet, ask_of_takes _ _ s h]
  simp only [hk, (any_digit_over_eq_false_iff ds).2 hd, hs, Option.isNone_none, Bool.false_eq_true, if_false, if_true]

theorem exec_markSerialSet_of_composed (hd : ∀ d ∈ ds, d ≤ 9) (hs : m.serial ≠ none) (hc : s.composed id = true) :
    exec (.markSerialSet id ds) s = .next (s.refuse .busy) := by
  have hserial : m.serial.isNone = false := Option.isNone_eq_false_iff.2 (Option.isSome_iff_ne_none.2 hs)
  rw [exec_markSerialSet, execMarkSerialSet, ask_of_takes _ _ s h]
  simp only [hk, (any_digit_over_eq_false_iff ds).2 hd, hserial, hc, Bool.false_eq_true, if_false, if_true]

/-- The record takes the digits and is READY again; the reply holds what it had. -/
theorem exec_markSerialSet_of_not_composed (hd : ∀ d ∈ ds, d ≤ 9) (hs : m.serial ≠ none) (hc : s.composed id = false) :
    exec (.markSerialSet id ds) s = .next
      ((s.modMark id (fun k => { k with serial := some ds, spent := false })).accept (.markHeld m.serial m.spent)) := by
  have hserial : m.serial.isNone = false := Option.isNone_eq_false_iff.2 (Option.isSome_iff_ne_none.2 hs)
  rw [exec_markSerialSet, execMarkSerialSet, ask_of_takes _ _ s h]
  simp only [hk, (any_digit_over_eq_false_iff ds).2 hd, hserial, hc, Bool.false_eq_true, if_false]

end MarkSerialSet

/-! ## COMPOSER_QUERY (R131) -/

/-- COMPOSER_QUERY returns the composer's state, its last token, the mark queue and the mark in progress. -/
theorem exec_composerQuery_of_takes {s : State} (h : s.takes .composerQuery) :
    exec .composerQuery s = .next (s.accept (.composer
      { state := s.composer.state, token := s.composer.token,
        queue := s.composer.queue.map (fun e => (e.table, e.id)), mark := s.composer.ctx.map MarkCtx.view })) := by
  rw [exec_composerQuery, execComposerQuery, ask_of_takes _ _ s h]

/-! ## The requests together -/

/-- Settles O45, request by request; MARK_DEFINE by its tests in order, the requests about a record by whether there is
one and whether it is being composed. -/
theorem markRequestsAnswer : Obligations.MarkRequestsAnswer := by
  intro s
  refine ⟨fun m h => ⟨markBodyOk_eq_false_iff m, ?_, ?_, ?_, ?_⟩, fun id => ⟨?_, ?_⟩, ?_⟩
  · exact exec_markDefine_of_bad h
  · intro hm busy
    exact exec_markDefine_of_composed h hm ((s.composed_iff m.id).2 busy)
  · intro hm free hk
    exact exec_markDefine_of_defined h hm ((s.not_composed_iff m.id).2 free) ((s.mark_isSome_iff m.id).2 hk)
  · intro hm free hk
    have hc := (s.not_composed_iff m.id).2 free
    have hnone := (s.mark_eq_none_iff m.id).2 hk
    exact ⟨exec_markDefine_of_full h hm hc hnone, exec_markDefine_of_room h hm hc hnone⟩
  · intro hk
    exact ⟨fun h => exec_markDelete_of_none h hk, fun h => exec_markQuery_of_none h hk,
      fun ds h => exec_markSerialSet_of_none h hk⟩
  · intro m hk
    refine ⟨fun h => ⟨?_, ?_⟩, fun h => ⟨s.composed id, s.composed_iff id, exec_markQuery_of_some h hk⟩,
      fun ds h => ⟨exec_markSerialSet_of_bad_digit h hk, exec_markSerialSet_of_no_serial h hk, ?_, ?_⟩⟩
    · intro busy
      exact exec_markDelete_of_composed h hk ((s.composed_iff id).2 busy)
    · intro free
      exact exec_markDelete_of_not_composed h hk ((s.not_composed_iff id).2 free)
    · intro hd hs busy
      exact exec_markSerialSet_of_composed h hk hd hs ((s.composed_iff id).2 busy)
    · intro hd hs free
      exact exec_markSerialSet_of_not_composed h hk hd hs ((s.not_composed_iff id).2 free)
  · exact exec_composerQuery_of_takes

end Sys2Proof.Machine

/-! HALL_CONTINUE and FAULT_READ (R209, R212): what each answers when it is the request in hand. -/

namespace Sys2Proof.Machine

/-! ## The arms of the two requests -/

theorem exec_hallContinue (s : State) : exec .hallContinue s = execHallContinue s := by rfl

theorem exec_faultRead (clear : Nat) (s : State) : exec (.faultRead clear) s = execFaultRead clear s := by rfl

/-! ## Replies to a settled state -/

/-- A handling that only refuses ends with the reply. -/
theorem settle_refuse (s : State) (h : s.settled) (c : Code) : (s.refuse c).settle = s.refuse c :=
  settle_setHand s h _

/-- A handling that only accepts ends with the reply. -/
theorem settle_accept (s : State) (h : s.settled) (b : Accept) : (s.accept b).settle = s.accept b :=
  settle_setHand s h _

/-- A handling that changes the hall's own fields and the host line, and no more, ends with the beacons. -/
theorem settle_of_hall_host (s : State) (h : s.settled) (hall : HallControl) (host : HostLine) :
    ({ s with hall := hall, host := host } : State).settle
      = ({ s with hall := hall, host := host } : State).followBeacons := by
  obtain ⟨hwork, hclean, -⟩ := h
  exact settle_of_done _ hwork hclean

/-! ## HALL_CONTINUE (R209) -/

section HallContinue

variable {s : State} (h : s.takes .hallContinue) (hset : s.settled)
include h hset

theorem exec_hallContinue_of_not_stopped (hm : s.hall.mode ≠ .stopped) :
    exec .hallContinue s = .next (s.refuse .badState) := by
  rw [exec_hallContinue, execHallContinue, request_of_takes _ _ s h, if_pos hm, settle_refuse s hset]

theorem exec_hallContinue_of_asserted (hm : s.hall.mode = .stopped) (hs : s.hall.stop = true) :
    exec .hallContinue s = .next (s.refuse .stopAsserted) := by
  rw [exec_hallContinue, execHallContinue, request_of_takes _ _ s h, if_neg (not_not_intro hm), if_pos hs,
    settle_refuse s hset]

/-- Out of STOPPED with the stop released, only the mode changes, and it is reported; the beacons follow. -/
theorem exec_hallContinue_of_released (hm : s.hall.mode = .stopped) (hs : s.hall.stop = false) :
    exec .hallContinue s = .next
      (((({ s with hall := { s.hall with mode := .run } } : State).raise
        (.hallMode .run false .hallContinue s.hall.clock)).accept .none).followBeacons) := by
  rw [exec_hallContinue, execHallContinue, request_of_takes _ _ s h, if_neg (not_not_intro hm),
    if_neg (Bool.eq_false_iff.1 hs)]
  simp only [State.modeReport, hs]
  exact congrArg _ (settle_of_hall_host s hset _ _)

end HallContinue

/-- Settles O24, by the mode and then by the stop input. -/
theorem hallContinueReturnsToRun : Obligations.HallContinueReturnsToRun := by
  intro s h hset
  exact ⟨exec_hallContinue_of_not_stopped h hset, exec_hallContinue_of_asserted h hset,
    exec_hallContinue_of_released h hset⟩

/-! ## FAULT_READ (R212) -/

/-- YES (0): the reply holds the record as it stood, which is then EMPTY with count 0; the beacons follow. -/
theorem exec_faultRead_yes {s : State} (h : s.takes (.faultRead 0)) (hset : s.settled) :
    exec (.faultRead 0) s = .next
      ((({ s with hall := { s.hall with fault := { held := none, later := 0 } } } : State).accept
        (.fault s.hall.fault)).followBeacons) := by
  rw [exec_faultRead, execFaultRead, request_of_takes _ _ s h, if_neg (Nat.not_lt_zero 1), if_pos rfl]
  exact congrArg _ (settle_of_hall_host s hset _ _)

/-- NO (1): the reply holds the record, which stays. -/
theorem exec_faultRead_no {s : State} (h : s.takes (.faultRead 1)) (hset : s.settled) :
    exec (.faultRead 1) s = .next (s.accept (.fault s.hall.fault)) := by
  rw [exec_faultRead, execFaultRead, request_of_takes _ _ s h, if_neg (Nat.lt_irrefl 1), if_neg Nat.one_ne_zero,
    settle_accept s hset]

theorem exec_faultRead_of_range {s : State} {n : Nat} (h : s.takes (.faultRead n)) (hset : s.settled) (hn : 1 < n) :
    exec (.faultRead n) s = .next (s.refuse .range) := by
  rw [exec_faultRead, execFaultRead, request_of_takes _ _ s h, if_pos hn, settle_refuse s hset]

/-- Settles O27, by the choice: YES, NO and any other. -/
theorem faultReadAnswers : Obligations.FaultReadAnswers := by
  intro s hset
  exact ⟨fun h => exec_faultRead_yes h hset, fun h => exec_faultRead_no h hset,
    fun _ hn h => exec_faultRead_of_range h hset hn⟩

end Sys2Proof.Machine

/-! The report requests and HALL_STATUS (R220, R221): what each answers when it is the request in hand. -/

namespace Sys2Proof.Machine

/-! ## The arms of the report requests and HALL_STATUS -/

theorem exec_hallStatus (s : State) : exec .hallStatus s = execHallStatus s := by rfl

theorem exec_reportStatus (bits : Byte) (s : State) : exec (.reportStatus bits) s = execReportStatus bits s := by rfl

theorem exec_reportMask (bits : Byte) (s : State) : exec (.reportMask bits) s = execReportMask bits s := by rfl

theorem exec_reportForce (n : Nat) (s : State) : exec (.reportForce n) s = execReportForce n s := by rfl

/-! ## Classes and their bits -/

/-- The classes are numbered from 1, in the order of their bits (R220). -/
theorem classOf_bit_add_one (c : ReportClass) : classOf (c.bit + 1) = some c := by
  cases c <;> rfl

theorem classOf_eq_none {n : Nat} (hn : n < 1 ∨ 8 < n) : classOf n = none := by
  obtain hlow | hhigh := hn
  · obtain rfl := Nat.lt_one_iff.1 hlow
    rfl
  · obtain ⟨k, rfl⟩ := Nat.exists_eq_add_of_le' hhigh
    rfl

theorem ReportClass.bit_lt (c : ReportClass) : c.bit < 8 := by
  cases c <;> decide

/-- A class is unmasked exactly when its bit of the mask word is clear. -/
theorem and_classMask_eq_zero_iff (m : BitVec 8) (c : ReportClass) : m &&& c.mask = 0 ↔ m.getLsbD c.bit = false := by
  constructor
  · intro hzero
    have hbit : (m &&& c.mask).getLsbD c.bit = false := by rw [hzero]; exact BitVec.getLsbD_zero
    simpa [ReportClass.mask, c.bit_lt] using hbit
  · intro hclear
    have htwo : c.mask = BitVec.twoPow 8 c.bit := (BitVec.twoPow_eq 8 c.bit).symm
    rw [htwo, BitVec.and_twoPow, hclear]
    rfl

/-! ## Handing a report over (R218, R219) -/

/-- What handing a report over does, by the bit of its class: `HostLine.report_spec` in the words of R220. -/
theorem HostLine.report_eq_of_bit (h : HostLine) (r : Report) :
    h.report r = { h with
      status := h.status ||| (1 : BitVec 8) <<< r.cls.bit
      reports := if h.mask.getLsbD r.cls.bit = false ∧ h.reports.length < 48 then h.reports ++ [r] else h.reports
      reportLost := h.reportLost || (!h.mask.getLsbD r.cls.bit && decide (48 ≤ h.reports.length)) } := by
  have hlost : (if h.mask.getLsbD r.cls.bit = false ∧ 48 ≤ h.reports.length then true else h.reportLost)
      = (h.reportLost || (!h.mask.getLsbD r.cls.bit && decide (48 ≤ h.reports.length))) := by
    cases h.mask.getLsbD r.cls.bit with
    | true => simp
    | false => by_cases hfull : 48 ≤ h.reports.length <;> simp [hfull]
  rw [HostLine.report_spec]
  simp only [and_classMask_eq_zero_iff, Config.maxReports, hlost]
  rfl

/-- A report leaves the reply alone, so it may be handed over before or after it. -/
theorem State.raise_accept (s : State) (b : Accept) (r : Report) : (s.accept b).raise r = (s.raise r).accept b := by
  simp only [State.raise, State.accept, State.setHand, HostLine.report_spec]

/-! ## The report requests (R220) -/

theorem exec_reportStatus_of_takes {s : State} {bits : Byte} (h : s.takes (.reportStatus bits)) :
    exec (.reportStatus bits) s = .next
      (({ s with host := { s.host with status := s.host.status &&& ~~~bits } } : State).accept (.bits s.host.status)) := by
  rw [exec_reportStatus, execReportStatus, ask_of_takes _ _ s h, State.setHost]

theorem exec_reportMask_of_takes {s : State} {bits : Byte} (h : s.takes (.reportMask bits)) :
    exec (.reportMask bits) s = .next
      (({ s with host := { s.host with mask := bits } } : State).accept (.bits s.host.mask)) := by
  rw [exec_reportMask, execReportMask, ask_of_takes _ _ s h, State.setHost]

/-- REPORT_FORCE of a class hands its TEST report over like any other report. -/
theorem exec_reportForce_of_class {s : State} {n : Nat} {c : ReportClass} (h : s.takes (.reportForce n))
    (hc : classOf n = some c) : exec (.reportForce n) s = .next ((s.raise (.test c)).accept .none) := by
  rw [exec_reportForce, execReportForce, ask_of_takes _ _ s h, hc, ← State.raise_accept]

theorem exec_reportForce_of_no_class {s : State} {n : Nat} (h : s.takes (.reportForce n)) (hc : classOf n = none) :
    exec (.reportForce n) s = .next (s.refuse .range) := by
  rw [exec_reportForce, execReportForce, ask_of_takes _ _ s h, hc]

/-- Settles O16, request by request; REPORT_FORCE by whether its number is that of a class. -/
theorem reportRequestsAnswer : Obligations.ReportRequestsAnswer := by
  intro s
  refine ⟨fun _ h => exec_reportStatus_of_takes h, fun _ h => exec_reportMask_of_takes h, fun c h => ?_,
    fun n hn h => exec_reportForce_of_no_class h (classOf_eq_none hn)⟩
  have hforce := exec_reportForce_of_class h (classOf_bit_add_one c)
  rwa [State.raise, HostLine.report_eq_of_bit] at hforce

/-! ## HALL_STATUS (R221) -/

/-- Settles O17: the reply is made of the state as it was taken, before the two indicators are cleared. -/
theorem hallStatusAnswers : Obligations.HallStatusAnswers := by
  intro s h
  rw [exec_hallStatus, execHallStatus, ask_of_takes _ _ s h]
  rfl

end Sys2Proof.Machine

/-! Facts about lists that core Lean does not state: values without repetition, and what `flatMap` makes of equal parts; and
the two cranes. -/

namespace Sys2Proof.Machine

section Lists

variable {α β : Type} {l : List α} {f : α → β}

theorem nodup_of_nodup_map (h : (l.map f).Nodup) : l.Nodup :=
  (List.pairwise_map.1 h).imp fun hne hxy => hne (congrArg f hxy)

theorem nodup_map_of_injOn (hl : l.Nodup) (hf : ∀ x ∈ l, ∀ y ∈ l, f x = f y → x = y) : (l.map f).Nodup :=
  List.pairwise_map.2 (hl.imp_of_mem fun hx hy hne heq => hne (hf _ hx _ hy heq))

/-- Where no value comes twice, an element is known by its value. -/
theorem eq_of_nodup_map (h : (l.map f).Nodup) {x y : α} (hx : x ∈ l) (hy : y ∈ l) (hxy : f x = f y) : x = y := by
  induction l with
  | nil => exact nomatch hx
  | cons a l ih =>
    obtain ⟨hnew, hnodup⟩ := List.nodup_cons.1 h
    have hother {z : α} (hz : z ∈ l) : f a ≠ f z := fun heq => hnew (heq ▸ List.mem_map_of_mem hz)
    obtain hxa | hxl := List.mem_cons.1 hx <;> obtain hya | hyl := List.mem_cons.1 hy
    · exact hxa.trans hya.symm
    · exact absurd (hxa ▸ hxy) (hother hyl)
    · exact absurd (hya ▸ hxy).symm (hother hxl)
    · exact ih hnodup hxl hyl

theorem flatMap_eq_of_forall_mem {g g' : α → List β} (h : ∀ x ∈ l, g x = g' x) : l.flatMap g = l.flatMap g' := by
  rw [List.flatMap_def, List.flatMap_def, List.map_congr_left h]

theorem flatMap_perm_of_forall_mem {g g' : α → List β} (h : ∀ x ∈ l, (g x).Perm (g' x)) :
    (l.flatMap g).Perm (l.flatMap g') := by
  induction l with
  | nil => exact .refl _
  | cons a l ih =>
    rw [List.flatMap_cons, List.flatMap_cons]
    exact (h a List.mem_cons_self).append (ih fun x hx => h x (List.mem_cons_of_mem _ hx))

theorem flatMap_toList (g : α → Option β) : l.flatMap (fun x => (g x).toList) = l.filterMap g := by
  induction l with
  | nil => rfl
  | cons a l ih =>
    rw [List.flatMap_cons, List.filterMap_cons, ih]
    cases g a <;> rfl

end Lists

theorem crane_zero_or_one (c : CraneId) : c = 0 ∨ c = 1 := by
  revert c
  decide

end Sys2Proof.Machine

/-! StepsKeepBounds (R11, R182) fails: a state that meets `stockSound` may hold a move without a load in WEIGHT_HOLD whose
source and destination are slots. MOVE_ABORT gives that move a delivery at its source slot, which no STOCK load is to
fill. -/

namespace Sys2Proof.Machine

/-- A move without a load, held by a weight check, with slots of PARK zones for its source and destination. -/
def loadlessHeldMove : MoveRec :=
  { id := 1, origin := .host, load := .none, src := .slot ⟨0, 0⟩, srcZone := some 0, dst := .slot ⟨1, 0⟩, urgent := false,
    flag := none, quarantine := false, state := .weightHold, phase := some .toDest, returning := false, crane := some 0,
    span := none, holds := [], age := 0, mass := none }

/-- The frame of MOVE_ABORT of move 1. -/
def abortFrame : HostFrame := { unit := 15, kind := 38, tag := 0, body := [1] }

/-- The part in RUN with that move on its first crane, and MOVE_ABORT of it next. -/
def loadlessHold : State :=
  let s := State.powerOn { tsel := 3, csel := true, rsel := true } false [.moveAbort 1]
  let s := (s.setQueue [loadlessHeldMove]).modCrane 0 (fun r => { r with state := .busy, move := some 1 })
  { s with hall := { s.hall with mode := .run }, host := { s.host with buffer := [abortFrame] } }

/-- The state that the step leaves. -/
def loadlessAborted : State :=
  (({ loadlessHold with pending := [] } : State).sendBack loadlessHeldMove ⟨0, 0⟩).accept .none |>.settle

theorem loadlessHold_stockSound : loadlessHold.stockSound := by
  unfold State.stockSound State.stockNumbersOk
  decide +kernel

theorem step_loadlessHold : step loadlessHold = .next loadlessAborted := by
  have htakes : State.takes { loadlessHold with pending := [] } (.moveAbort 1) := by
    unfold State.takes
    decide +kernel
  have hstep : step loadlessHold = execMoveAbort 1 { loadlessHold with pending := [] } := by rfl
  rw [hstep, execMoveAbort, request_of_takes _ _ _ htakes]
  rfl

/-- After the step the source slot counts a delivery that no move in the queue brings. -/
theorem loadlessAborted_lock : loadlessAborted.lockOk ⟨0, 0⟩ = false := by
  decide +kernel

/-- Refutes O10: the stock table of `loadlessHold` is sound, and that of the state its step leaves is not. -/
theorem not_stepsKeepBounds : ¬ Obligations.StepsKeepBounds := by
  intro ⟨_, hsound⟩
  obtain ⟨_, _, hslots, _⟩ := hsound _ _ loadlessHold_stockSound step_loadlessHold
  have hlock := (hslots 0 0).2
  rw [loadlessAborted_lock] at hlock
  exact Bool.false_ne_true hlock

end Sys2Proof.Machine

/-! The ids and age stamps of the stock table (R5 to R7): the cursors step to the first value that is not in use, and what
every change of the records does to `State.stockNumbersOk`. -/

namespace Sys2Proof.Machine

/-! ## The first free value -/

/-- The `i`th value at or after `v`, `lo` coming after `hi`. -/
def wrapped (lo hi v i : Nat) : Nat := lo + (v - lo + i) % (hi - lo + 1)

section FirstFree

variable {used : Nat → Bool} {lo hi v : Nat}

theorem wrapped_zero (hlo : lo ≤ v) (hhi : v ≤ hi) : wrapped lo hi v 0 = v := by
  rw [wrapped, Nat.add_zero, Nat.mod_eq_of_lt (by omega)]
  omega

theorem wrapped_bounds (hlohi : lo ≤ hi) (i : Nat) : lo ≤ wrapped lo hi v i ∧ wrapped lo hi v i ≤ hi := by
  have := Nat.mod_lt (v - lo + i) (show 0 < hi - lo + 1 by omega)
  unfold wrapped
  omega

/-- The value after `v` starts the values after it. -/
theorem wrapped_next (hlo : lo ≤ v) (hhi : v ≤ hi) (i : Nat) :
    wrapped lo hi (nextValue lo hi v) i = wrapped lo hi v (i + 1) := by
  unfold wrapped nextValue
  split
  next h =>
    subst h
    rw [show v - lo + (i + 1) = i + (v - lo + 1) by omega, Nat.add_mod_right]
    simp
  next => rw [show v + 1 - lo + i = v - lo + (i + 1) by omega]

theorem nextValue_bounds (hlo : lo ≤ v) (hhi : v ≤ hi) : lo ≤ nextValue lo hi v ∧ nextValue lo hi v ≤ hi := by
  unfold nextValue
  split <;> omega

theorem wrapped_injective {i j : Nat} (hi' : i < hi - lo + 1) (hj : j < hi - lo + 1)
    (h : wrapped lo hi v i = wrapped lo hi v j) : i = j := by
  have hmod : (v - lo + i) % (hi - lo + 1) = (v - lo + j) % (hi - lo + 1) := by unfold wrapped at h; omega
  have hle {i j : Nat} (hi' : i < hi - lo + 1) (hmod : (v - lo + i) % (hi - lo + 1) = (v - lo + j) % (hi - lo + 1)) : i ≤ j := by
    have hzero := Nat.sub_mod_eq_zero_of_mod_eq hmod
    rw [Nat.add_sub_add_left, Nat.mod_eq_of_lt (by omega)] at hzero
    exact Nat.le_of_sub_eq_zero hzero
  exact Nat.le_antisymm (hle hi' hmod) (hle hj hmod.symm)

/-- The search passes over used values alone, and stops at a free one unless it has passed over `n`. -/
theorem firstFree_spec (n : Nat) (hlo : lo ≤ v) (hhi : v ≤ hi) :
    ∃ k ≤ n, firstFree used lo hi n v = wrapped lo hi v k ∧ (∀ j < k, used (wrapped lo hi v j) = true)
      ∧ (k < n → used (wrapped lo hi v k) = false) := by
  induction n generalizing v with
  | zero => exact ⟨0, Nat.le_refl 0, (wrapped_zero hlo hhi).symm, nofun, nofun⟩
  | succ n ih =>
    rw [firstFree]
    split
    next hused =>
      obtain ⟨hlo', hhi'⟩ := nextValue_bounds hlo hhi
      obtain ⟨k, hk, hvalue, hpassed, hstop⟩ := ih hlo' hhi'
      refine ⟨k + 1, by omega, ?_, fun j hj => ?_, fun hlt => ?_⟩
      · rw [← wrapped_next hlo hhi]
        exact hvalue
      · cases j with
        | zero => rwa [wrapped_zero hlo hhi]
        | succ j => exact wrapped_next hlo hhi j ▸ hpassed j (by omega)
      · exact wrapped_next hlo hhi k ▸ hstop (by omega)
    next hfree =>
      refine ⟨0, by omega, (wrapped_zero hlo hhi).symm, nofun, fun _ => ?_⟩
      rw [wrapped_zero hlo hhi]
      exact Bool.eq_false_iff.2 hfree

/-- Fewer values in use than the search may pass over: it finds a free one. -/
theorem firstFree_of_few {α : Type} {l : List α} {f : α → Nat} (hlo : lo ≤ v) (hhi : v ≤ hi) (hfew : l.length ≤ hi - lo) :
    ∃ k ≤ l.length, firstFree (fun w => l.any (fun x => decide (f x = w))) lo hi (l.length + 1) v = wrapped lo hi v k
      ∧ (∀ j < k, ∃ x ∈ l, f x = wrapped lo hi v j) ∧ (∀ x ∈ l, f x ≠ wrapped lo hi v k) := by
  obtain ⟨k, hk, hvalue, hpassed, hstop⟩ := firstFree_spec (used := fun w => l.any (fun x => decide (f x = w)))
    (l.length + 1) hlo hhi
  have hpassed : ∀ j < k, ∃ x ∈ l, f x = wrapped lo hi v j := fun j hj => by simpa using hpassed j hj
  have hlt : k ≤ l.length := by
    refine Decidable.byContradiction fun hmany => ?_
    have hsub : (List.range k).map (wrapped lo hi v) ⊆ l.map f := fun w hw => by
      obtain ⟨j, hj, rfl⟩ := List.mem_map.1 hw
      obtain ⟨x, hx, hfx⟩ := hpassed j (List.mem_range.1 hj)
      exact List.mem_map.2 ⟨x, hx, hfx⟩
    have hnodup : ((List.range k).map (wrapped lo hi v)).Nodup :=
      nodup_map_of_injOn List.nodup_range fun i hi' j hj h =>
        wrapped_injective (by rw [List.mem_range] at hi'; omega) (by rw [List.mem_range] at hj; omega) h
    have hle := hnodup.length_le_of_subset hsub
    rw [List.length_map, List.length_map, List.length_range] at hle
    exact hmany hle
  exact ⟨k, hlt, hvalue, hpassed, fun x hx => by simpa using List.any_eq_false.1 (hstop (by omega)) x hx⟩

end FirstFree

/-! ## The two cursors (R6, R7) -/

section Cursors

variable {s : State} (hfew : s.stock.recs.length ≤ 192)

include hfew

/-- The sequence counter steps to the first stamp not in use that follows (R7). -/
theorem countAge_spec (hlo : 1 ≤ s.stock.seq) (hhi : s.stock.seq ≤ Config.lastAge) :
    ∃ k ≤ s.stock.recs.length, s.countAge.stock.seq = wrapped 1 Config.lastAge s.stock.seq (k + 1)
      ∧ (∀ j < k, ∃ x ∈ s.stock.recs, x.age = wrapped 1 Config.lastAge s.stock.seq (j + 1))
      ∧ (∀ x ∈ s.stock.recs, x.age ≠ s.countAge.stock.seq) := by
  obtain ⟨hlo', hhi'⟩ := nextValue_bounds hlo hhi
  obtain ⟨k, hk, hvalue, hpassed, hfree⟩ := firstFree_of_few (f := StockRec.age) hlo' hhi'
    (Nat.le_trans hfew (by decide))
  have hvalue : s.countAge.stock.seq = wrapped 1 Config.lastAge (nextValue 1 Config.lastAge s.stock.seq) k := hvalue
  refine ⟨k, hk, hvalue.trans (wrapped_next hlo hhi k), fun j hj => ?_, fun x hx => hvalue ▸ hfree x hx⟩
  exact wrapped_next hlo hhi j ▸ hpassed j hj

/-- The next part-assigned id is the first not in use from the cursor on (R6). -/
theorem partId_spec (hlo : Config.firstPartId ≤ s.stock.idCursor) (hhi : s.stock.idCursor ≤ Config.lastPartId) :
    ∃ k ≤ s.stock.recs.length, s.partId = wrapped Config.firstPartId Config.lastPartId s.stock.idCursor k
      ∧ (∀ j < k, ∃ x ∈ s.stock.recs, x.id = wrapped Config.firstPartId Config.lastPartId s.stock.idCursor j)
      ∧ (∀ x ∈ s.stock.recs, x.id ≠ s.partId) := by
  obtain ⟨k, hk, hvalue, hpassed, hfree⟩ := firstFree_of_few (f := StockRec.id) hlo hhi (Nat.le_trans hfew (by decide))
  have hvalue : s.partId = wrapped Config.firstPartId Config.lastPartId s.stock.idCursor k := hvalue
  exact ⟨k, hk, hvalue, hpassed, fun x hx => hvalue ▸ hfree x hx⟩

/-- The counter leaves the stamp it stood at. -/
theorem countAge_ne (hlo : 1 ≤ s.stock.seq) (hhi : s.stock.seq ≤ Config.lastAge) : s.countAge.stock.seq ≠ s.stock.seq := by
  obtain ⟨k, hk, hvalue, -, -⟩ := countAge_spec hfew hlo hhi
  have hsmall : k + 1 < Config.lastAge - 1 + 1 := Nat.lt_of_le_of_lt (Nat.succ_le_succ (Nat.le_trans hk hfew)) (by decide)
  intro h
  rw [hvalue] at h
  have := wrapped_injective (i := k + 1) (j := 0) hsmall (by decide) (h.trans (wrapped_zero hlo hhi).symm)
  omega

end Cursors

/-! ## The numbers of the stock table -/

/-- What `stockNumbersOk` speaks of: each record's id and age stamp, and the two cursors. -/
def State.numbers (s : State) : List (Nat × Nat) × Nat × Nat :=
  (s.stock.recs.map (fun x => (x.id, x.age)), s.stock.seq, s.stock.idCursor)

theorem stockNumbersOk_iff_numbers (s : State) : s.stockNumbersOk ↔
    (s.numbers.1.map Prod.fst).Nodup ∧ (s.numbers.1.map Prod.snd).Nodup ∧ s.numbers.1.length ≤ Config.maxStock
      ∧ (∀ p ∈ s.numbers.1, 1 ≤ p.1 ∧ p.1 ≤ Config.lastPartId ∧ 1 ≤ p.2 ∧ p.2 ≤ Config.lastAge ∧ p.2 ≠ s.numbers.2.1)
      ∧ (1 ≤ s.numbers.2.1 ∧ s.numbers.2.1 ≤ Config.lastAge)
      ∧ (Config.firstPartId ≤ s.numbers.2.2 ∧ s.numbers.2.2 ≤ Config.lastPartId) := by
  simp only [State.stockNumbersOk, State.numbers, List.map_map, List.length_map, List.forall_mem_map]
  rfl

theorem stockNumbersOk_of_numbers {s t : State} (h : t.numbers = s.numbers) (hok : s.stockNumbersOk) : t.stockNumbersOk := by
  rw [stockNumbersOk_iff_numbers, h]
  exact (stockNumbersOk_iff_numbers s).1 hok

/-- A change of records that keeps their ids and age stamps. -/
theorem numbers_setRecs_map (s : State) {f : StockRec → StockRec} (hid : ∀ x, (f x).id = x.id)
    (hage : ∀ x, (f x).age = x.age) : (s.setRecs (s.stock.recs.map f)).numbers = s.numbers := by
  simp only [State.numbers, State.setRecs, List.map_map, Function.comp_def, hid, hage]

theorem numbers_modRec (s : State) (id : Nat) {f : StockRec → StockRec} (hid : ∀ x, (f x).id = x.id)
    (hage : ∀ x, (f x).age = x.age) : (s.modRec id f).numbers = s.numbers :=
  numbers_setRecs_map s (fun x => by split <;> simp [hid]) (fun x => by split <;> simp [hage])

/-- Records leave the table. -/
theorem stockNumbersOk_filter {s : State} (hok : s.stockNumbersOk) (p : StockRec → Bool) :
    (s.setRecs (s.stock.recs.filter p)).stockNumbersOk := by
  obtain ⟨hids, hages, hfew, hvalues, hcursors⟩ := hok
  exact ⟨hids.sublist (List.filter_sublist.map _), hages.sublist (List.filter_sublist.map _),
    Nat.le_trans (List.length_filter_le _ _) hfew, fun x hx => hvalues x ((List.mem_filter.1 hx).1), hcursors⟩

/-- A record with the next age stamp and an id not in use joins the table. -/
theorem stockNumbersOk_append {s : State} (hok : s.stockNumbersOk) {x : StockRec} (hroom : s.stock.recs.length < Config.maxStock)
    (hid : 1 ≤ x.id ∧ x.id ≤ Config.lastPartId) (hnew : ∀ y ∈ s.stock.recs, y.id ≠ x.id) (hage : x.age = s.stock.seq) :
    (s.countAge.setRecs (s.stock.recs ++ [x])).stockNumbersOk := by
  obtain ⟨hids, hages, hfew, hvalues, ⟨hlo, hhi⟩, hcursor⟩ := hok
  obtain ⟨k, -, hvalue, -, hfree⟩ := countAge_spec hfew hlo hhi
  have hbounds := wrapped_bounds (v := s.stock.seq) (show 1 ≤ Config.lastAge by decide) (k + 1)
  rw [← hvalue] at hbounds
  refine ⟨?_, ?_, ?_, fun y hy => ?_, hbounds, hcursor⟩
  · simp only [State.setRecs, List.map_append, List.nodup_append]
    refine ⟨hids, by simp, fun i hi j hj => ?_⟩
    obtain ⟨y, hy, rfl⟩ := List.mem_map.1 hi
    simp only [List.map_cons, List.map_nil, List.mem_singleton] at hj
    exact hj ▸ hnew y hy
  · simp only [State.setRecs, List.map_append, List.nodup_append]
    refine ⟨hages, by simp, fun i hi j hj => ?_⟩
    obtain ⟨y, hy, rfl⟩ := List.mem_map.1 hi
    simp only [List.map_cons, List.map_nil, List.mem_singleton] at hj
    exact hj ▸ hage ▸ (hvalues y hy).2.2.2.2
  · rw [State.setRecs, List.length_append]
    exact hroom
  · obtain hy | hy := List.mem_append.1 hy
    · obtain ⟨h1, h2, h3, h4, -⟩ := hvalues y hy
      exact ⟨h1, h2, h3, h4, hfree y hy⟩
    · obtain rfl := List.mem_singleton.1 hy
      exact ⟨hid.1, hid.2, hage ▸ hlo, hage ▸ hhi, hage ▸ (countAge_ne hfew hlo hhi).symm⟩

/-- One record of a value of its own takes a new value that none has: the values stay unique. -/
theorem nodup_map_replace {l : List StockRec} {f : StockRec → Nat} {id v : Nat} (hids : (l.map StockRec.id).Nodup)
    (hvalues : (l.map f).Nodup) (hnew : ∀ y ∈ l, f y ≠ v) : (l.map (fun y => if y.id = id then v else f y)).Nodup := by
  refine nodup_map_of_injOn (nodup_of_nodup_map hids) fun y hy z hz h => ?_
  split at h <;> split at h
  next hyid hzid => exact eq_of_nodup_map hids hy hz (hyid.trans hzid.symm)
  next => exact absurd h.symm (hnew z hz)
  next => exact absurd h (hnew y hy)
  next => exact eq_of_nodup_map hvalues hy hz h

/-- A record is rewritten with the next part-assigned id and age stamp, and both cursors step on (R42). -/
theorem stockNumbersOk_rewriteRemnant {s : State} (hok : s.stockNumbersOk) (x : StockRec) (d : Derived) :
    (s.rewriteRemnant x d).stockNumbersOk := by
  obtain ⟨hids, hages, hfew, hvalues, ⟨hlo, hhi⟩, hcursor⟩ := hok
  obtain ⟨k, -, hvalue, -, hfree⟩ := countAge_spec hfew hlo hhi
  obtain ⟨j, -, hid, -, hidFree⟩ := partId_spec hfew hcursor.1 hcursor.2
  have hbounds := wrapped_bounds (v := s.stock.seq) (show 1 ≤ Config.lastAge by decide) (k + 1)
  rw [← hvalue] at hbounds
  have hidBounds := wrapped_bounds (v := s.stock.idCursor) (show Config.firstPartId ≤ Config.lastPartId by decide) j
  rw [← hid] at hidBounds
  refine ⟨?_, ?_, by simpa [State.rewriteRemnant, State.modRec, State.setRecs, State.countAge] using hfew, fun y hy => ?_, hbounds,
    nextValue_bounds hidBounds.1 hidBounds.2⟩
  · simp only [State.rewriteRemnant, State.modRec, State.setRecs, List.map_map, Function.comp_def, apply_ite StockRec.id]
    exact nodup_map_replace hids hids hidFree
  · simp only [State.rewriteRemnant, State.modRec, State.setRecs, List.map_map, Function.comp_def, apply_ite StockRec.age]
    exact nodup_map_replace hids hages fun y hy => (hvalues y hy).2.2.2.2
  · obtain ⟨z, hz, rfl⟩ := List.mem_map.1 hy
    obtain ⟨h1, h2, h3, h4, -⟩ := hvalues z hz
    split
    · exact ⟨Nat.le_trans (by decide) hidBounds.1, hidBounds.2, hlo, hhi, (countAge_ne hfew hlo hhi).symm⟩
    · exact ⟨h1, h2, h3, h4, hfree z hz⟩

end Sys2Proof.Machine

/-! What every piece of work keeps (`Calm`): the waiting commands, the combinations of the guards, SET flags without
waiters, sound wear records, and a reply that is no refusal. One lemma for each operation of the model, in the order of its
files: an operation that touches nothing of this makes no difference to a calm state, and one that does keeps it calm. -/

namespace Sys2Proof.Machine

/-! ## The relation -/

/-- A reply that is neither a refusal nor still to come. -/
def Hand.free : Hand → Bool
  | .untaken => true
  | .waiting _ => false
  | .ready (.accept _) => true
  | .ready (.refuse _ _) => false

/-- `t` has the waiting commands of `s`, and keeps what `s` keeps of guards, flags, wear records and stock numbers. -/
structure Steady (s t : State) : Prop where
  pending : t.pending = s.pending
  guards : s.guardsOk → t.guardsOk
  flags : s.flagsOk → t.flagsOk
  wear : s.wearOk → t.wearOk
  numbers : s.stockNumbersOk → t.stockNumbersOk

/-- A steady change that also makes no reply a refusal or still to come. -/
structure Calm (s t : State) : Prop extends Steady s t where
  hand : s.host.hand.free = true → t.host.hand.free = true

theorem Steady.refl (s : State) : Steady s s := ⟨rfl, id, id, id, id⟩

@[simp] theorem Calm.refl (s : State) : Calm s s := ⟨Steady.refl s, id⟩

theorem Steady.trans {s t u : State} (h : Steady s t) (h' : Steady t u) : Steady s u :=
  ⟨h'.pending.trans h.pending, h'.guards ∘ h.guards, h'.flags ∘ h.flags, h'.wear ∘ h.wear, h'.numbers ∘ h.numbers⟩

theorem Calm.trans {s t u : State} (h : Calm s t) (h' : Calm t u) : Calm s u :=
  ⟨h.toSteady.trans h'.toSteady, h'.hand ∘ h.hand⟩

/-- A change of nothing that the relation speaks of. -/
theorem Calm.of_same {t u : State} (hp : u.pending = t.pending) (hg : u.guards = t.guards) (hf : u.flags = t.flags)
    (ht : ∀ k, (u.tab k).wear = (t.tab k).wear ∧ (u.tab k).cfg = (t.tab k).cfg) (hn : u.numbers = t.numbers)
    (hh : u.host.hand = t.host.hand) : Calm t u := by
  refine ⟨⟨hp, fun hok z => ?_, fun hok f => ?_, fun hok k => ?_, stockNumbersOk_of_numbers hn⟩, fun hok => ?_⟩
  · rw [State.guard, hg]; exact hok z
  · rw [State.flag, hf]; exact hok f
  · obtain ⟨hwear, hcfg⟩ := ht k
    rw [TableRec.wearOk, hwear, hcfg]
    exact hok k
  · rw [hh]; exact hok

theorem Calm.congr {s t u : State} (hp : u.pending = t.pending) (hg : u.guards = t.guards) (hf : u.flags = t.flags)
    (ht : ∀ k, (u.tab k).wear = (t.tab k).wear ∧ (u.tab k).cfg = (t.tab k).cfg) (hn : u.numbers = t.numbers)
    (hh : u.host.hand = t.host.hand) : Calm s u ↔ Calm s t :=
  ⟨fun h => h.trans (.of_same hp.symm hg.symm hf.symm (fun k => ⟨(ht k).1.symm, (ht k).2.symm⟩) hn.symm hh.symm),
    fun h => h.trans (.of_same hp hg hf ht hn hh)⟩

/-- A change of the allocator, the composer, the moves, the field line, the hall, the work or the time, and of the stock
but for the numbers of its records. -/
theorem Calm.congr_other {s t u : State} (hp : u.pending = t.pending) (hg : u.guards = t.guards) (hf : u.flags = t.flags)
    (ht : u.tables = t.tables) (hn : u.numbers = t.numbers) (hh : u.host.hand = t.host.hand) : Calm s u ↔ Calm s t :=
  Calm.congr hp hg hf (fun k => by rw [State.tab, ht]; exact ⟨rfl, rfl⟩) hn hh

/-! ## The named updates of the state -/

section Updates

variable {s t : State}

@[simp] theorem calm_push (ts : List Task) : Calm s (t.push ts) ↔ Calm s t := Calm.congr_other rfl rfl rfl rfl rfl rfl

@[simp] theorem calm_modCrane (c : CraneId) (f : CraneRec → CraneRec) : Calm s (t.modCrane c f) ↔ Calm s t :=
  Calm.congr_other rfl rfl rfl rfl rfl rfl

@[simp] theorem calm_modUnit (u : UnitId) (f : UnitRec → UnitRec) : Calm s (t.modUnit u f) ↔ Calm s t :=
  Calm.congr_other rfl rfl rfl rfl rfl rfl

/-- A change of records that keeps their ids and age stamps. -/
@[simp] theorem calm_modRec (id : Nat) (f : StockRec → StockRec) (hid : ∀ x, (f x).id = x.id)
    (hage : ∀ x, (f x).age = x.age) : Calm s (t.modRec id f) ↔ Calm s t :=
  Calm.congr_other rfl rfl rfl rfl (numbers_modRec t id hid hage) rfl

@[simp] theorem calm_dropRec (h : Calm s t) (id : Nat) : Calm s (t.dropRec id) :=
  h.trans ⟨⟨rfl, fun h => h, fun h => h, fun h => h, fun hok => stockNumbersOk_filter hok _⟩, fun h => h⟩

@[simp] theorem calm_stockChanged : Calm s t.stockChanged ↔ Calm s t := Calm.congr_other rfl rfl rfl rfl rfl rfl

@[simp] theorem calm_setLock (r : SlotRef) (l : SlotLock) : Calm s (t.setLock r l) ↔ Calm s t :=
  Calm.congr_other rfl rfl rfl rfl rfl rfl

@[simp] theorem calm_beginDelivery (r : SlotRef) : Calm s (t.beginDelivery r) ↔ Calm s t :=
  Calm.congr_other rfl rfl rfl rfl rfl rfl

@[simp] theorem calm_setPick (r : SlotRef) (p : Option Nat) : Calm s (t.setPick r p) ↔ Calm s t :=
  Calm.congr_other rfl rfl rfl rfl rfl rfl

@[simp] theorem calm_makeAvailable (id : Nat) : Calm s (t.makeAvailable id) ↔ Calm s t :=
  (calm_stockChanged (t := t.modRec id _)).trans (calm_modRec id _ (fun _ => rfl) (fun _ => rfl))

@[simp] theorem calm_setQueue (q : List MoveRec) : Calm s (t.setQueue q) ↔ Calm s t := Calm.congr_other rfl rfl rfl rfl rfl rfl

@[simp] theorem calm_modMove (id : Nat) (f : MoveRec → MoveRec) : Calm s (t.modMove id f) ↔ Calm s t :=
  Calm.congr_other rfl rfl rfl rfl rfl rfl

@[simp] theorem calm_wantAttempt : Calm s t.wantAttempt ↔ Calm s t := Calm.congr_other rfl rfl rfl rfl rfl rfl

@[simp] theorem calm_setSpaceWaits (l : List TableId) : Calm s (t.setSpaceWaits l) ↔ Calm s t :=
  Calm.congr_other rfl rfl rfl rfl rfl rfl

@[simp] theorem calm_setWaits (l : List WaitEntry) : Calm s (t.setWaits l) ↔ Calm s t :=
  Calm.congr_other rfl rfl rfl rfl rfl rfl

@[simp] theorem calm_setComposer (c : Composer) : Calm s (t.setComposer c) ↔ Calm s t :=
  Calm.congr_other rfl rfl rfl rfl rfl rfl

@[simp] theorem calm_closeWindow : Calm s t.closeWindow ↔ Calm s t := Calm.congr_other rfl rfl rfl rfl rfl rfl

@[simp] theorem calm_stray (u : UnitId) : Calm s (t.stray u) ↔ Calm s t := calm_modUnit _ _

@[simp] theorem calm_raise (r : Report) : Calm s (t.raise r) ↔ Calm s t :=
  Calm.congr_other rfl rfl rfl rfl rfl (by rw [State.raise_host, HostLine.report_spec])

theorem calm_modTab (h : Calm s t) (k : TableId) (f : TableRec → TableRec)
    (hf : (t.tab k).wearOk → (f (t.tab k)).wearOk) : Calm s (t.modTab k f) := by
  refine h.trans ⟨⟨rfl, id, id, fun hok j => ?_, id⟩, id⟩
  rw [State.tab_modTab]
  split
  · exact hf (hok k)
  · exact hok j

/-- A change of a table that leaves its wear record and its configuration. -/
@[simp] theorem calm_modTab_of_wear (k : TableId) (f : TableRec → TableRec) (hw : ∀ r, (f r).wear = r.wear)
    (hc : ∀ r, (f r).cfg = r.cfg) : Calm s (t.modTab k f) ↔ Calm s t := by
  refine Calm.congr rfl rfl rfl (fun j => ?_) rfl rfl
  rw [State.tab_modTab]
  split
  next hjk => subst hjk; exact ⟨hw _, hc _⟩
  next => exact ⟨rfl, rfl⟩

@[simp] theorem calm_accept (h : Calm s t) (b : Accept) : Calm s (t.accept b) :=
  h.trans ⟨⟨rfl, id, id, id, id⟩, fun _ => rfl⟩

/-- A refusal of a request whose reply waits. -/
theorem calm_refuse_of_waiting (h : Calm s t) {d : Deferred} (hd : t.host.hand = .waiting d) (c : Code) :
    Calm s (t.refuse c) := by
  refine ⟨h.toSteady.trans ⟨rfl, id, id, id, id⟩, fun hs => ?_⟩
  have hfree := h.hand hs
  rw [hd] at hfree
  cases hfree

theorem calm_setGuard (h : Calm s t) (z : Zone) (g : GuardRec) (hg : (t.guard z).ok = true → g.ok = true) :
    Calm s (t.setGuard z g) := by
  refine h.trans ⟨⟨rfl, fun hok y => ?_, id, id, id⟩, id⟩
  rw [State.guard_setGuard]
  split
  · exact hg (hok z)
  · exact hok y

theorem calm_setFlagRec (h : Calm s t) (f : FlagId) (r : FlagRec) (hr : (t.flag f).ok = true → r.ok = true) :
    Calm s (t.setFlagRec f r) := by
  refine h.trans ⟨⟨rfl, id, fun hok g => ?_, id, id⟩, id⟩
  rw [State.flag_setFlagRec]
  split
  · exact hr (hok f)
  · exact hok g

end Updates

/-! ## Shared operations (Ops, Flags, Tables) -/

theorem FlagRec.ok_afterSet (r : FlagRec) (hr : r.ok = true) : r.afterSet.ok = true := by
  obtain ⟨value, overrun, waiters⟩ := r
  cases value <;> cases waiters <;> simp_all [FlagRec.afterSet, FlagRec.outcome, FlagRec.ok]

section Shared

variable {s t : State}

@[simp] theorem calm_slotLeft (r : SlotRef) : Calm s (t.slotLeft r) ↔ Calm s t := by
  unfold State.slotLeft
  split <;> simp

@[simp] theorem calm_endDelivery (r : SlotRef) : Calm s (t.endDelivery r) ↔ Calm s t := by
  unfold State.endDelivery
  dsimp only
  split
  · split <;> simp
  · simp

@[simp] theorem calm_capture (cls : FaultClass) (src : FaultSource) (code : FaultCode) (index : Option Nat) :
    Calm s (t.capture cls src code index) ↔ Calm s t := by
  have keep (f : FaultRec) : Calm s { t with hall := { t.hall with fault := f } } ↔ Calm s t :=
    Calm.congr_other rfl rfl rfl rfl rfl rfl
  unfold State.capture
  split
  · rw [calm_raise, keep]
  · split
    · rw [calm_raise, keep]
    · rw [keep]

@[simp] theorem calm_runSetFlag (h : Calm s t) (f : FlagId) (source : SetSource) : Calm s (runSetFlag f source t) := by
  have hset : Calm s (t.setFlagRec f (t.flag f).afterSet) := calm_setFlagRec h f _ (fun hok => FlagRec.ok_afterSet _ hok)
  unfold runSetFlag
  dsimp only
  split <;> simp [hset]

@[simp] theorem calm_dropWaiter (h : Calm s t) (k : TableId) : Calm s (t.dropWaiter k) := by
  refine h.trans ⟨⟨rfl, id, fun hok f => ?_, id, id⟩, id⟩
  have hget : (t.dropWaiter k).flag f = { t.flag f with waiters := (t.flag f).waiters.filter (fun w => w ≠ k) } :=
    Vector.getElem_map ..
  have hf := hok f
  rw [hget]
  cases hv : (t.flag f).value <;> simp_all [FlagRec.ok]

@[simp] theorem calm_enter (k : TableId) (st : TableState) : Calm s (t.enter k st) ↔ Calm s t := by
  unfold State.enter
  dsimp only
  split <;> simp

@[simp] theorem calm_runHalt (k : TableId) (cause : HaltCause) : Calm s (runHalt k cause t) ↔ Calm s t := by
  unfold runHalt
  dsimp only
  split <;> simp

@[simp] theorem calm_modActive (k : TableId) (f : Active → Active) : Calm s (t.modActive k f) ↔ Calm s t := by
  simp [State.modActive]

@[simp] theorem calm_setClaim (k : TableId) (c : Claim) : Calm s (t.setClaim k c) ↔ Calm s t := by
  simp [State.setClaim]

@[simp] theorem calm_returnReservation (k : TableId) : Calm s (t.returnReservation k) ↔ Calm s t := by
  unfold State.returnReservation
  split <;> simp

@[simp] theorem calm_runStepEnd (k : TableId) : Calm s (runStepEnd k t) ↔ Calm s t := by
  simp [runStepEnd]

end Shared

/-! ## The field line (Lines) -/

section Lines

variable {s t : State}

@[simp] theorem calm_handTo (u : UnitId) (cmd : FieldCmd) (sender : Sender) :
    Calm s (t.handTo u cmd sender) ↔ Calm s t := by
  have hnext : Calm s { t with line := { t.line with nextHand := t.line.nextHand + 1 } } ↔ Calm s t :=
    Calm.congr_other rfl rfl rfl rfl rfl rfl
  unfold State.handTo
  dsimp only
  split
  · split <;> simp [hnext]
  · exact hnext

@[simp] theorem calm_goodAnswer (u : UnitId) (o : Outstanding) (a : Answer) : Calm s (t.goodAnswer u o a) ↔ Calm s t := by
  simp [State.goodAnswer]

@[simp] theorem calm_lose (u : UnitId) (cause : LossCause) : Calm s (t.lose u cause) ↔ Calm s t := by
  unfold State.lose
  dsimp only
  split <;> split <;> simp

@[simp] theorem calm_endAwaited (u : UnitId) : Calm s (t.endAwaited u) ↔ Calm s t := by
  unfold State.endAwaited
  split <;> simp

@[simp] theorem calm_restoreFailed (h : Calm s t) (u : UnitId) (fails : Nat) : Calm s (t.restoreFailed u fails) := by
  unfold State.restoreFailed
  dsimp only
  split
  next hw => exact calm_refuse_of_waiting (by simp [h]) hw _
  next => simp [h]

@[simp] theorem calm_restoreGood (u : UnitId) (content : StatusContent) :
    Calm s (t.restoreGood u content) ↔ Calm s t := by
  unfold State.restoreGood
  dsimp only
  split
  · simp
  · split <;> simp
  · simp

@[simp] theorem calm_runReplyRestored (h : Calm s t) (u : UnitId) (l : Link) (content : StatusContent) :
    Calm s (runReplyRestored u l content t) := by
  unfold runReplyRestored
  split
  · split <;> simp [h]
  · exact h

@[simp] theorem calm_failCommand (h : Calm s t) (u : UnitId) (cause : LossCause) : Calm s (t.failCommand u cause) := by
  unfold State.failCommand
  dsimp only
  (repeat' split) <;> simp [h]

@[simp] theorem calm_failReport (u : UnitId) : Calm s (t.failReport u) ↔ Calm s t := by
  unfold State.failReport
  dsimp only
  split
  · split <;> simp
  · rfl

end Lines

/-! ## The zone guard (Guards) -/

theorem GuardRec.ok_initial : GuardRec.initial.ok = true := by decide

/-- Taking the arc waiter away keeps a combination of Table 8-2. -/
theorem GuardRec.ok_without_waiter (g : GuardRec) (hg : g.ok = true) :
    ({ g with waiter := none } : GuardRec).ok = true := by
  obtain ⟨state, pending, waiter⟩ := g
  cases state <;> simp_all [GuardRec.ok]

theorem GuardRec.ok_afterArcRequest (g : GuardRec) (k : TableId) (hg : g.ok = true) :
    (g.afterArcRequest k).ok = true := by
  obtain ⟨state, pending, waiter⟩ := g
  cases state <;> cases pending <;> cases waiter <;>
    simp_all [GuardRec.ok, GuardRec.afterArcRequest, GuardRec.arcAnswer]

section Guards

variable {s t : State} (h : Calm s t)
include h

@[simp] theorem calm_guardFree (z : Zone) : Calm s (t.guardFree z) := by
  unfold State.guardFree
  dsimp only
  split
  · exact (calm_push _).2 (calm_setGuard h z _ (fun _ => rfl))
  · split
    · exact (calm_push _).2 (calm_setGuard h z _ (fun _ => rfl))
    · exact calm_setGuard h z _ (fun _ => GuardRec.ok_initial)

@[simp] theorem calm_runArcRelease (k : TableId) : Calm s (runArcRelease k t) := by
  unfold runArcRelease
  split
  · exact h
  · dsimp only
    split
    next hst =>
      split
      · exact calm_guardFree h _
      · refine calm_setGuard h _ _ (fun hok => ?_)
        rw [GuardRec.ok, hst] at hok
        simp_all [GuardRec.ok]
    next => exact h

@[simp] theorem calm_dropArcWaiter (k : TableId) : Calm s (t.dropArcWaiter k) := by
  unfold State.dropArcWaiter
  split
  · exact h
  · exact calm_setGuard h _ _ (GuardRec.ok_without_waiter _)

omit h in
@[simp] theorem calm_markGranted (mv : Nat) (z : Zone) : Calm s (t.markGranted mv z) ↔ Calm s t := by
  simp [State.markGranted]

@[simp] theorem calm_runTransitAsk (mv : Nat) (z : Zone) : Calm s (runTransitAsk mv z t) := by
  unfold runTransitAsk
  split
  · exact h
  · split
    · exact h
    · dsimp only
      cases hst : (t.guard z).state with
      | free =>
        refine (calm_markGranted _ _).2 (calm_setGuard h _ _ (fun hok => ?_))
        simp_all [GuardRec.ok]
      | arc =>
        refine calm_setGuard h _ _ (fun hok => ?_)
        simp_all [GuardRec.ok]
      | settling e =>
        refine calm_setGuard h _ _ (fun hok => ?_)
        simp_all [GuardRec.ok]
      | transit k =>
        dsimp only
        split <;> simp [h]

@[simp] theorem calm_runGiveUp (mv : Nat) (z : Zone) : Calm s (runGiveUp mv z t) := by
  unfold runGiveUp
  dsimp only
  cases hst : (t.guard z).state with
  | free => exact h
  | arc =>
    dsimp only
    split
    · refine calm_setGuard h _ _ (fun hok => ?_)
      simp_all [GuardRec.ok]
    · exact h
  | transit k =>
    dsimp only
    split <;> simp [h]
  | settling e =>
    dsimp only
    split
    · cases hw : (t.guard z).waiter with
      | some k => exact (calm_push _).2 (calm_setGuard h _ _ (fun _ => rfl))
      | none =>
        refine calm_setGuard h _ _ (fun _ => ?_)
        simp_all [GuardRec.ok]
    · exact h

@[simp] theorem calm_runGuardStop : Calm s (runGuardStop t) := by
  refine h.trans ⟨⟨rfl, fun hok z => ?_, id, id, id⟩, id⟩
  have hget : (runGuardStop t).guard z = { t.guard z with waiter := none } := Vector.getElem_map ..
  rw [hget]
  exact GuardRec.ok_without_waiter _ (hok z)

end Guards

/-! ## Wear (WearCount) -/

/-- The record with the wear state that an evaluation gives it (R101). -/
def TableRec.evaluated (r : TableRec) : TableRec :=
  { r with wear := { r.wear with state := wearStateOf r.wear.count r.cfg.wearLimit } }

theorem State.modTab_modTab (s : State) (k : TableId) (f g : TableRec → TableRec) :
    (s.modTab k f).modTab k g = s.modTab k (fun r => g (f r)) := by
  have htab := State.tab_modTab_same s k f
  show ({ s with tables := ((s.modTab k f).tables).set k.val (g ((s.modTab k f).tab k)) k.isLt } : State) = _
  rw [htab, State.modTab_tables, Vector.set_set]
  rfl

/-- An evaluation gives the record its wear state, and has its reports and its effect (R101 to R105). -/
theorem calm_wearEffect {s t : State} (h : Calm s t) (k : TableId) : Calm s (t.wearEffect k) := by
  unfold State.wearEffect
  dsimp only
  split
  · split <;> simp [h]
  · split <;> simp [h]

theorem calm_evalWear_evaluated (t : State) (k : TableId) (cause : WearCause) :
    Calm (t.modTab k TableRec.evaluated) (t.evalWear k cause) := by
  unfold State.evalWear
  dsimp only
  split
  next hsame =>
    refine ⟨⟨rfl, id, id, fun hok j => ?_, id⟩, id⟩
    have hj := hok j
    rw [State.tab_modTab] at hj
    split at hj
    next hjk =>
      subst hjk
      have hrec : (t.tab j).evaluated = t.tab j := by rw [TableRec.evaluated, hsame]
      rwa [hrec] at hj
    next => exact hj
  · have hmod : Calm (t.modTab k TableRec.evaluated) (t.modTab k (fun r => { r with wear := { r.wear with
        state := wearStateOf (t.tab k).wear.count (t.tab k).cfg.wearLimit } })) := Calm.refl _
    refine calm_wearEffect ?_ k
    split <;> simp [hmod]

section Wear

variable {s t : State} (h : Calm s t)
include h

/-- An evaluation after a change of a table that leaves count and remainder within their bounds (R100, R104). -/
theorem calm_evalWear (k : TableId) (f : TableRec → TableRec) (cause : WearCause)
    (hf : (t.tab k).wearOk → (f (t.tab k)).wear.count ≤ Config.lastWear ∧ (f (t.tab k)).wear.rem < Config.arcUnitDs) :
    Calm s ((t.modTab k f).evalWear k cause) := by
  have heval := calm_evalWear_evaluated (t.modTab k f) k cause
  rw [State.modTab_modTab] at heval
  refine (calm_modTab h k _ (fun hok => ?_)).trans heval
  exact ⟨(hf hok).1, (hf hok).2, rfl⟩

@[simp] theorem calm_addWear (k : TableId) (n : Nat) (cause : WearCause) : Calm s (t.addWear k n cause) :=
  calm_evalWear h k _ cause (fun hok => ⟨Nat.min_le_right _ _, hok.2.1⟩)

@[simp] theorem calm_addArc (k : TableId) (arcTime : Nat) : Calm s (t.addArc k arcTime) := by
  unfold State.addArc State.addWear
  dsimp only
  rw [State.modTab_modTab]
  exact calm_evalWear h k _ .arc (fun _ => ⟨Nat.min_le_right _ _, Nat.mod_lt _ (by decide)⟩)

end Wear

end Sys2Proof.Machine

/-! What a piece of work keeps, continued: the allocator, the composer, the cranes, the table sequencers, the field line,
and with them every piece of work and the end of a handling. -/

namespace Sys2Proof.Machine

/-! ## The allocator (Alloc) -/

section Alloc

variable {s t : State}

@[simp] theorem calm_reserve (id : Nat) (k : TableId) : Calm s (t.reserve id k) ↔ Calm s t := by
  simp [State.reserve]

@[simp] theorem calm_dropWait (k : TableId) : Calm s (t.dropWait k) ↔ Calm s t := by
  simp [State.dropWait]

@[simp] theorem calm_walkList (l : List WaitEntry) : Calm s (walkList t l).1 ↔ Calm s t := by
  induction l generalizing t with
  | nil => rfl
  | cons e rest ih =>
    unfold walkList
    split
    · exact ih.trans (calm_reserve _ _)
    · exact ih

@[simp] theorem calm_walk : Calm s t.walk ↔ Calm s t := by
  simp [State.walk]

@[simp] theorem calm_runAllocRequest (k : TableId) : Calm s (runAllocRequest k t) ↔ Calm s t := by
  unfold runAllocRequest
  split
  · rfl
  · dsimp only
    split <;> simp

@[simp] theorem calm_runAllocMiss (k : TableId) (q : Requirement) (n : Nat) :
    Calm s (runAllocMiss k q n t) ↔ Calm s t := by
  simp [runAllocMiss]

@[simp] theorem calm_rewriteRemnant (h : Calm s t) (x : StockRec) (d : Derived) : Calm s (t.rewriteRemnant x d) :=
  h.trans ⟨⟨rfl, id, id, id, fun hok => stockNumbersOk_rewriteRemnant hok x d⟩, id⟩

/-- A derivation, where there is a plate to derive from. -/
theorem calm_deriveRemnant (h : Calm s t) {k : TableId} {u : Nat} {t' : State} (ht' : t.deriveRemnant k u = some t') :
    Calm s t' := by
  have account (v : State) (a : Account) : Calm s { v with alloc := { v.alloc with account := a } } ↔ Calm s v :=
    Calm.congr_other rfl rfl rfl rfl rfl rfl
  unfold State.deriveRemnant at ht'
  split at ht'
  · cases ht'
  · dsimp only at ht'
    split at ht'
    · cases ht'
      simp_all
    · split at ht'
      · cases ht'
        simp_all
      · cases ht'
        simp_all

end Alloc

/-! ## The composer (Marks) -/

section Marks

variable {s t : State}

@[simp] theorem calm_setCtx (c : MarkCtx) : Calm s (t.setCtx c) ↔ Calm s t := by
  simp [State.setCtx]

@[simp] theorem calm_modMark (id : Nat) (f : MarkRec → MarkRec) : Calm s (t.modMark id f) ↔ Calm s t := by
  simp [State.modMark]

@[simp] theorem calm_reportMark (c : MarkCtx) (o : MarkOutcome) : Calm s (t.reportMark c o) ↔ Calm s t := by
  simp [State.reportMark]

@[simp] theorem calm_runServeHead : Calm s (runServeHead t) ↔ Calm s t := by
  unfold runServeHead
  split
  · rfl
  · split
    · rfl
    · dsimp only
      split
      · simp
      · split <;> simp

@[simp] theorem calm_sendFrame (c : MarkCtx) : Calm s (t.sendFrame c) ↔ Calm s t := by
  simp [State.sendFrame]

@[simp] theorem calm_endMark (c : MarkCtx) (o : MarkOutcome) : Calm s (t.endMark c o) ↔ Calm s t := by
  unfold State.endMark
  dsimp only
  split <;> simp

@[simp] theorem calm_runMarkClose : Calm s (runMarkClose t) ↔ Calm s t := by
  simp [runMarkClose]

@[simp] theorem calm_runMarkDrop (o : MarkOutcome) : Calm s (runMarkDrop o t) ↔ Calm s t := by
  unfold runMarkDrop
  split <;> simp

@[simp] theorem calm_rejectFrame (c : MarkCtx) : Calm s (t.rejectFrame c) ↔ Calm s t := by
  unfold State.rejectFrame
  dsimp only
  split <;> simp

@[simp] theorem calm_composerAnswer (h : Handed) (a : Answer) : Calm s (t.composerAnswer h a) ↔ Calm s t := by
  unfold State.composerAnswer
  split
  · rfl
  · split
    · rfl
    · split <;> simp

@[simp] theorem calm_takeEcho (k : TableId) (token frame count : Nat) (chars : List Nat) :
    Calm s (t.takeEcho k token frame count chars) ↔ Calm s t := by
  unfold State.takeEcho
  split
  · simp
  · dsimp only
    split <;> simp

@[simp] theorem calm_takeReject (k : TableId) (token frame : Nat) : Calm s (t.takeReject k token frame) ↔ Calm s t := by
  unfold State.takeReject
  split <;> simp

@[simp] theorem calm_runComposerStop : Calm s (runComposerStop t) ↔ Calm s t := by
  simp [runComposerStop]

@[simp] theorem calm_runComposerLost (k : TableId) : Calm s (runComposerLost k t) ↔ Calm s t := by
  unfold runComposerLost
  split <;> simp

end Marks

/-! ## The cranes (Cranes) -/

section Cranes

variable {s t : State}

@[simp] theorem calm_lockStock (id : Nat) (m : MoveRec) : Calm s (t.lockStock id m) ↔ Calm s t := by
  unfold State.lockStock
  split
  · dsimp only
    split <;> split <;> simp
  · rfl

@[simp] theorem calm_acceptMove (m : MoveRec) : Calm s (t.acceptMove m) ↔ Calm s t := by
  have moves (v : State) (c : MoveCtl) : Calm s { v with moves := c } ↔ Calm s v := Calm.congr_other rfl rfl rfl rfl rfl rfl
  simp [State.acceptMove, moves]

@[simp] theorem calm_post (p : Post) : Calm s (t.post p).1 ↔ Calm s t := by
  unfold State.post
  split
  · rfl
  · split <;> simp

@[simp] theorem calm_dispatch (m : MoveRec) (c : CraneId) (p : Zone) : Calm s (t.dispatch m c p) ↔ Calm s t := by
  simp [State.dispatch]

theorem calm_tryYield {c : CraneId} {a : Span} {t' : State} (ht' : t.tryYield c a = some t') :
    Calm s t' ↔ Calm s t := by
  unfold State.tryYield at ht'
  dsimp only at ht'
  split at ht'
  · split at ht'
    · cases ht'
      simp
    · cases ht'
  · cases ht'

@[simp] theorem calm_tryCranes (m : MoveRec) (l : List CraneId) : Calm s (t.tryCranes m l) ↔ Calm s t := by
  induction l with
  | nil => rfl
  | cons c rest ih =>
    unfold State.tryCranes
    split
    · exact ih
    · split
      · simp
      · split
        next hy => exact calm_tryYield hy
        next => exact ih

@[simp] theorem calm_runTryMove (mv : Nat) : Calm s (runTryMove mv t) ↔ Calm s t := by
  unfold runTryMove
  split
  · split <;> simp
  · rfl

@[simp] theorem calm_runEnterPhase (mv : Nat) (p : Phase) : Calm s (runEnterPhase mv p t) ↔ Calm s t := by
  unfold runEnterPhase
  split
  · rfl
  · split
    · rfl
    · dsimp only
      split <;> simp

@[simp] theorem calm_runTravelCheck (mv : Nat) : Calm s (runTravelCheck mv t) ↔ Calm s t := by
  unfold runTravelCheck
  split
  · rfl
  · split
    · rfl
    · split
      · split <;> simp
      · rfl

@[simp] theorem calm_runTransitGranted (h : Calm s t) (mv : Nat) (z : Zone) : Calm s (runTransitGranted mv z t) := by
  simp [runTransitGranted, h]

@[simp] theorem calm_faultMove (m : MoveRec) (c : CraneId) (code : MoveFaultCode) :
    Calm s (t.faultMove m c code) ↔ Calm s t := by
  unfold State.faultMove
  cases code <;> dsimp only <;> split <;> split <;> simp

@[simp] theorem calm_runFaultMove (mv : Nat) (code : MoveFaultCode) : Calm s (runFaultMove mv code t) ↔ Calm s t := by
  unfold runFaultMove
  split
  · rfl
  · split <;> simp

@[simp] theorem calm_setPosition (c : CraneId) (z : Zone) : Calm s (t.setPosition c z) ↔ Calm s t := by
  unfold State.setPosition
  dsimp only
  split
  · simp
  · split
    · simp
    · split
      · simp
      · split
        · simp
        · split <;> simp

@[simp] theorem calm_stopTimer (c : CraneId) : Calm s (t.stopTimer c) ↔ Calm s t := by
  simp [State.stopTimer]

@[simp] theorem calm_atSource (m : MoveRec) (z : Zone) : Calm s (t.atSource m z) ↔ Calm s t := by
  simp [State.atSource]

@[simp] theorem calm_takeArrived (c : CraneId) (zone : Nat) : Calm s (t.takeArrived c zone) ↔ Calm s t := by
  unfold State.takeArrived
  split
  · dsimp only
    split
    · simp
    · split
      · split
        · split <;> simp
        · split <;> simp
        · simp
      · simp
  · simp

@[simp] theorem calm_afterPick (m : MoveRec) : Calm s (t.afterPick m) ↔ Calm s t := by
  unfold State.afterPick
  split <;> simp

@[simp] theorem calm_runWeigh (mv kg : Nat) : Calm s (runWeigh mv kg t) ↔ Calm s t := by
  unfold runWeigh
  split
  · rfl
  · split
    · split
      · rfl
      · dsimp only
        split <;> simp
    · simp

@[simp] theorem calm_takePicked (c : CraneId) (kg : Nat) : Calm s (t.takePicked c kg) ↔ Calm s t := by
  unfold State.takePicked
  split
  · simp
  · split
    · dsimp only
      split <;> simp
    · simp

@[simp] theorem calm_layDown (id : Nat) (r : SlotRef) (st : StockState) : Calm s (t.layDown id r st) ↔ Calm s t := by
  unfold State.layDown
  dsimp only
  split <;> simp

@[simp] theorem calm_freeCrane (m : MoveRec) : Calm s (t.freeCrane m) ↔ Calm s t := by
  unfold State.freeCrane
  split <;> simp

@[simp] theorem calm_endMove (m : MoveRec) : Calm s (t.endMove m) ↔ Calm s t := by
  simp [State.endMove]

@[simp] theorem calm_runComplete (mv : Nat) : Calm s (runComplete mv t) ↔ Calm s t := by
  unfold runComplete
  split
  · rfl
  · split
    · rfl
    · dsimp only
      split <;> simp

@[simp] theorem calm_runMoveReport (m : MoveRec) : Calm s (runMoveReport m t) ↔ Calm s t := by
  simp [runMoveReport]

@[simp] theorem calm_runQueueSpace : Calm s (runQueueSpace t) ↔ Calm s t := by
  simp [runQueueSpace]

@[simp] theorem calm_takePlaced (c : CraneId) : Calm s (t.takePlaced c) ↔ Calm s t := by
  unfold State.takePlaced
  split
  · simp
  · split <;> simp

@[simp] theorem calm_takeCraneFault (c : CraneId) : Calm s (t.takeCraneFault c) ↔ Calm s t := by
  unfold State.takeCraneFault
  split
  · simp
  · split <;> simp

@[simp] theorem calm_runCraneResumed (h : Calm s t) (c : CraneId) : Calm s (runCraneResumed c t) := by
  unfold runCraneResumed
  split
  · dsimp only
    refine calm_accept ?_ _
    split
    · split <;> simp [h]
    · simp [h]
  · exact h

@[simp] theorem calm_craneAnswer (h : Calm s t) (c : CraneId) (hd : Handed) (a : Answer) :
    Calm s (t.craneAnswer c hd a) := by
  unfold State.craneAnswer
  dsimp only
  split
  · split
    · split <;> simp [h]
    · exact h
  · split
    · split
      next hw => exact calm_refuse_of_waiting (by simp [h]) hw _
      next => simp [h]
    · exact h
  · split
    · split <;> simp [h]
    · exact h
  · split
    · split <;> simp [h]
    · exact h
  · exact h

@[simp] theorem calm_stopCrane (c : CraneId) : Calm s (t.stopCrane c) ↔ Calm s t := by
  unfold State.stopCrane
  dsimp only
  split
  · split
    · split <;> split <;> simp
    · split <;> simp
  · rfl

@[simp] theorem calm_runCraneStop : Calm s (runCraneStop t) ↔ Calm s t := by
  simp [runCraneStop]

@[simp] theorem calm_runCraneLost (h : Calm s t) (c : CraneId) : Calm s (runCraneLost c t) := by
  unfold runCraneLost
  extract_lets lost refused
  have hlost : Calm s lost := by simp [lost, h]
  have hrefused : Calm s refused := by
    unfold refused
    split
    next hw => exact calm_refuse_of_waiting hlost hw _
    next => exact hlost
  split
  · exact hrefused
  · split <;> simp [hrefused]

@[simp] theorem calm_runCraneBack (c : CraneId) (z : Zone) (load : Bool) : Calm s (runCraneBack c z load t) ↔ Calm s t := by
  simp [runCraneBack]

@[simp] theorem calm_cancelMove (m : MoveRec) : Calm s (t.cancelMove m) ↔ Calm s t := by
  unfold State.cancelMove
  dsimp only
  split
  · split <;> split <;> simp
  · simp
  · simp

@[simp] theorem calm_endFaulted (m : MoveRec) : Calm s (t.endFaulted m) ↔ Calm s t := by
  unfold State.endFaulted
  dsimp only
  split <;> simp

end Cranes

/-! ## The table sequencers (Sequencer) -/

section Sequencer

variable {s t : State}

@[simp] theorem calm_load (k : TableId) (id : Nat) : Calm s (t.load k id) ↔ Calm s t := by
  simp [State.load]

@[simp] theorem calm_startAdopt (k : TableId) : Calm s (t.startAdopt k) ↔ Calm s t := by
  unfold State.startAdopt
  split
  · split <;> simp
  · simp

@[simp] theorem calm_startAllocate (k : TableId) : Calm s (t.startAllocate k) ↔ Calm s t := by
  unfold State.startAllocate
  split
  · simp
  · split <;> simp
  · simp

@[simp] theorem calm_runPlateBed (k : TableId) : Calm s (runPlateBed k t) ↔ Calm s t := by
  unfold runPlateBed
  split <;> simp

@[simp] theorem calm_runBedEmpty (k : TableId) : Calm s (runBedEmpty k t) ↔ Calm s t := by
  unfold runBedEmpty
  split <;> simp

@[simp] theorem calm_leaveSpace (k : TableId) : Calm s (t.leaveSpace k) ↔ Calm s t := by
  simp [State.leaveSpace]

@[simp] theorem calm_waitSpace (k : TableId) : Calm s (t.waitSpace k) ↔ Calm s t := by
  unfold State.waitSpace
  split <;> simp

@[simp] theorem calm_runPostPlate (k : TableId) : Calm s (runPostPlate k t) ↔ Calm s t := by
  unfold runPostPlate
  split
  next id bed _ _ =>
    have hpost := @calm_post s t (platePost k id bed)
    split <;> simp_all
  next => rfl

@[simp] theorem calm_runHit (k : TableId) (id : Nat) : Calm s (runHit k id t) ↔ Calm s t := by
  simp [runHit]

@[simp] theorem calm_runPostMove (k : TableId) : Calm s (runPostMove k t) ↔ Calm s t := by
  unfold runPostMove
  split
  · split
    · simp
    next p _ =>
      have hpost := @calm_post s t p
      split
      · split <;> simp_all
      · simp_all
      · simp_all
  · rfl

@[simp] theorem calm_runPostAgain (k : TableId) : Calm s (runPostAgain k t) ↔ Calm s t := by
  unfold runPostAgain
  split
  · split <;> simp
  · rfl

@[simp] theorem calm_startMove (k : TableId) : Calm s (t.startMove k) ↔ Calm s t := by
  unfold State.startMove
  split <;> simp

@[simp] theorem calm_runTellOrigin (m : MoveRec) (e : MoveEnd) : Calm s (runTellOrigin m e t) ↔ Calm s t := by
  unfold runTellOrigin
  split
  · split
    · split
      · rfl
      · dsimp only
        split <;> simp
    · rfl
  · rfl

@[simp] theorem calm_startWait (h : Calm s t) (k : TableId) (f : FlagId) : Calm s (t.startWait k f) := by
  unfold State.startWait
  dsimp only
  split
  · exact (calm_push _).2 (calm_setFlagRec h _ _ (fun _ => rfl))
  next hv =>
    refine (calm_enter _ _).2 (calm_setFlagRec h _ _ (fun _ => ?_))
    simp [FlagRec.ok, hv]

@[simp] theorem calm_startMark (k : TableId) (id x y : Nat) (onMis : OnMismark) :
    Calm s (t.startMark k id x y onMis) ↔ Calm s t := by
  unfold State.startMark
  split <;> simp

@[simp] theorem calm_runMarkResult (k : TableId) (o : MarkOutcome) : Calm s (runMarkResult k o t) ↔ Calm s t := by
  unfold runMarkResult
  dsimp only
  split
  · split
    · split <;> simp
    · rfl
  · rfl

@[simp] theorem calm_startContour (k : TableId) : Calm s (t.startContour k) ↔ Calm s t := by
  unfold State.startContour
  split
  · simp
  · split <;> simp

@[simp] theorem calm_runContourArc (h : Calm s t) (k : TableId) : Calm s (runContourArc k t) := by
  unfold runContourArc
  split
  next z _ _ =>
    dsimp only
    have hguard (f : TableRec → TableRec) (hf : Calm s (t.modTab k f)) :
        Calm s ((t.modTab k f).setGuard z ((t.guard z).afterArcRequest k)) :=
      calm_setGuard hf z _ (GuardRec.ok_afterArcRequest _ k)
    split
    · exact (calm_push _).2 (hguard _ (by simp [h]))
    · exact (calm_enter _ _).2 (hguard _ (by simp [h]))
    · exact hguard _ (by simp [h])
  next => exact h

@[simp] theorem calm_runArcGranted (h : Calm s t) (k : TableId) : Calm s (runArcGranted k t) := by
  unfold runArcGranted
  split
  · exact h
  next c _ =>
    split
    · exact h
    · simp only [calm_enter, calm_handTo, calm_modTab_of_wear, implies_true]
      exact calm_addWear (by simp [h]) _ _ _

@[simp] theorem calm_clearContour (k : TableId) : Calm s (t.clearContour k) ↔ Calm s t := by
  simp [State.clearContour]

@[simp] theorem calm_sendKill (k : TableId) : Calm s (t.sendKill k) ↔ Calm s t := by
  simp [State.sendKill]

@[simp] theorem calm_faultContour (k : TableId) (cause : HaltCause) : Calm s (t.faultContour k cause) ↔ Calm s t := by
  simp [State.faultContour]

@[simp] theorem calm_takeContourDone (h : Calm s t) (k : TableId) (number arcTime : Nat) :
    Calm s (t.takeContourDone k number arcTime) := by
  unfold State.takeContourDone
  split
  · simp [h]
  · split <;> simp [h]

@[simp] theorem calm_takeContourFault (k : TableId) : Calm s (t.takeContourFault k) ↔ Calm s t := by
  unfold State.takeContourFault
  split <;> simp

@[simp] theorem calm_sequencerAnswer (k : TableId) (hd : Handed) (a : Answer) :
    Calm s (t.sequencerAnswer k hd a) ↔ Calm s t := by
  unfold State.sequencerAnswer
  dsimp only
  split
  · split
    · split <;> simp
    · rfl
  · split
    · split <;> simp
    · rfl
  · split <;> simp
  · split <;> simp
  · rfl

@[simp] theorem calm_startRemnant (h : Calm s t) (k : TableId) (used : Nat) : Calm s (t.startRemnant k used) := by
  unfold State.startRemnant
  split
  next hd => simp [calm_deriveRemnant ((calm_push _).2 h) hd]
  next => simp [h]

@[simp] theorem calm_startEnd (h : Calm s t) (k : TableId) : Calm s (t.startEnd k) := by
  unfold State.startEnd
  dsimp only
  split
  · simp [h]
  · split
    · cases hd : (t.push [.endDone k]).deriveRemnant k ((t.push [.endDone k]).loadedLen k) with
      | none => simp [h]
      | some t' => simp [calm_deriveRemnant ((calm_push _).2 h) hd]
    · simp [h]

@[simp] theorem calm_activate (k : TableId) : Calm s (t.activate k) ↔ Calm s t := by
  unfold State.activate
  split <;> simp

@[simp] theorem TableRec.emptied_wear (r : TableRec) : r.emptied.wear = r.wear := rfl

@[simp] theorem TableRec.emptied_cfg (r : TableRec) : r.emptied.cfg = r.cfg := rfl

@[simp] theorem calm_modTab_emptied (k : TableId) : Calm s (t.modTab k TableRec.emptied) ↔ Calm s t :=
  calm_modTab_of_wear k _ (fun _ => rfl) (fun _ => rfl)

@[simp] theorem calm_runEndDone (k : TableId) : Calm s (runEndDone k t) ↔ Calm s t := by
  unfold runEndDone
  split
  · simp
  · simp

@[simp] theorem calm_runStepStart (h : Calm s t) (k : TableId) : Calm s (runStepStart k t) := by
  unfold runStepStart
  split
  · exact h
  · simp [h]
  · simp [h]
  · split <;> simp [h]
  · split <;> simp [h]
  · simp [h]
  · simp [h]
  · simp [h]
  · simp [h]
  · simp [h]

@[simp] theorem calm_dropMark (k : TableId) : Calm s (t.dropMark k) ↔ Calm s t := by
  simp [State.dropMark]

@[simp] theorem calm_runTakeOff (h : Calm s t) (k : TableId) : Calm s (runTakeOff k t) := by
  unfold runTakeOff
  dsimp only
  split
  · simp [h]
  · simp [h]
  · simp [h]
  · split <;> simp [h]
  · simp [h]
  · simp [h]
  · split <;> simp [h]
  · split <;> simp [h]
  · simp [h]

@[simp] theorem calm_runAbortEnd (k : TableId) : Calm s (runAbortEnd k t) ↔ Calm s t := by
  unfold runAbortEnd
  dsimp only
  split
  · split
    · split <;> simp
    · simp
  · simp

@[simp] theorem calm_runStopHalt (k : TableId) : Calm s (runStopHalt k t) ↔ Calm s t := by
  simp [runStopHalt]

@[simp] theorem calm_runTableStop (k : TableId) : Calm s (runTableStop k t) ↔ Calm s t := by
  unfold runTableStop
  split <;> simp

@[simp] theorem calm_runTableLost (h : Calm s t) (k : TableId) : Calm s (runTableLost k t) := by
  have hleft : Calm s ((((t.dropWait k).dropMark k).dropWaiter k).leaveSpace k) :=
    (calm_leaveSpace k).2 (calm_dropWaiter (by simp [h]) k)
  simp [runTableLost, hleft]

@[simp] theorem calm_runTableBack (k : TableId) (arcOn : Bool) : Calm s (runTableBack k arcOn t) ↔ Calm s t := by
  unfold runTableBack
  split <;> simp

@[simp] theorem calm_runTableUp (k : TableId) : Calm s (runTableUp k t) ↔ Calm s t := by
  unfold runTableUp
  split <;> simp

@[simp] theorem calm_runReplyResumed (h : Calm s t) (k : TableId) : Calm s (runReplyResumed k t) := by
  simp [runReplyResumed, h]

end Sequencer

/-! ## The field line (Field) -/

section Field

variable {s t : State} (h : Calm s t)
include h

@[simp] theorem calm_deliver (u : UnitId) (marker : Bool) (m : FieldMsg) : Calm s (t.deliver u marker m) := by
  unfold State.deliver
  split <;> simp [h]

@[simp] theorem calm_receiveAnswer (u : UnitId) (marker : Bool) (m : FieldMsg) :
    Calm s (t.receiveAnswer u marker m) := by
  unfold State.receiveAnswer
  split
  · simp [h]
  · split <;> simp [h]

@[simp] theorem calm_receiveReport (u : UnitId) (marker : Bool) (m : FieldMsg) :
    Calm s (t.receiveReport u marker m) := by
  unfold State.receiveReport
  split
  · simp [h]
  · split <;> simp [h]

@[simp] theorem calm_strayFrame (u : UnitId) : Calm s (t.strayFrame u) := by
  unfold State.strayFrame
  split <;> simp [h]

@[simp] theorem calm_receive (addr : Nat) (marker : Bool) (m : FieldMsg) : Calm s (t.receive addr marker m) := by
  unfold State.receive
  split
  · exact h
  · split
    · simp [h]
    · split
      · simp [h]
      · split
        · simp [h]
        · simp [h]
        · simp [State.passAnswered, h]

end Field

/-! ## Every piece of work, and the end of a handling (Work) -/

theorem calm_runAnswered {s t : State} (h : Calm s t) (u : UnitId) (hd : Handed) (a : Answer) :
    Calm s (runAnswered u hd a t) := by
  unfold runAnswered
  split <;> simp [h]

/-- Every piece of work keeps a state calm. -/
theorem calm_runTask {s t : State} (h : Calm s t) (task : Task) : Calm s (runTask task t) := by
  cases task <;> simp [runTask, calm_runAnswered, h]

theorem calm_drain {s t : State} (h : Calm s t) (n : Nat) : Calm s (drain n t) := by
  have rest (v : State) (w : List Task) : Calm s { v with work := w } ↔ Calm s v := Calm.congr_other rfl rfl rfl rfl rfl rfl
  induction n generalizing t with
  | zero => exact (rest t []).2 h
  | succ n ih =>
    unfold drain
    split
    · exact h
    · exact ih (calm_runTask ((rest t _).2 h) _)

/-- What a handling sets off keeps a state calm. -/
theorem calm_settle {s t : State} (h : Calm s t) : Calm s t.settle := by
  have hchanged (v : State) : Calm s v.takeChanged ↔ Calm s v := by
    unfold State.takeChanged
    split
    · exact Calm.congr_other rfl rfl rfl rfl rfl rfl
    · rfl
  have hbeacons (v : State) : Calm s v.followBeacons ↔ Calm s v := Calm.congr_other rfl rfl rfl rfl rfl rfl
  exact (hbeacons _).2 ((hchanged _).2 (calm_drain h _))

end Sys2Proof.Machine

/-! What each command does to what the invariants speak of: a request is refused, with nothing but its reply changed, or
keeps the state calm (`Answers`); a request that only reads or sets, and the events of the two lines, also leave the beacons
and what they follow as they are (`Quiet`). -/

namespace Sys2Proof.Machine

/-! ## Requests that answer, and changes that no beacon sees -/

/-- A request is refused and changes nothing but its reply, or the state stays calm. -/
def Answers (s t : State) : Prop := (∃ c x, t = s.setHand (.ready (.refuse c x))) ∨ Calm s t

/-- A change that owes nothing and that no beacon sees. -/
structure Quiet (s t : State) : Prop where
  work : t.work = s.work
  changed : t.stock.changed = s.stock.changed
  now : t.now = s.now
  hall : t.hall = s.hall
  map : t.stock.map = s.stock.map
  guards : t.guards = s.guards
  tabs : ∀ k, (t.tab k).state = (s.tab k).state ∧ (t.tab k).wear.state = (s.tab k).wear.state
  cranes : ∀ c, (t.crane c).state = (s.crane c).state

@[simp] theorem answers_refuse (s : State) (c : Code) : Answers s (s.refuse c) := .inl ⟨c, .none, rfl⟩

@[simp] theorem answers_setHand (s : State) (c : Code) (x : Extra) :
    Answers s (s.setHand (.ready (.refuse c x))) := .inl ⟨c, x, rfl⟩

theorem Calm.answers {s t : State} (h : Calm s t) : Answers s t := .inr h

theorem Answers.steady {s t : State} (h : Answers s t) : Steady s t := by
  obtain ⟨c, x, rfl⟩ | h := h
  · exact ⟨rfl, id, id, id, id⟩
  · exact h.toSteady

@[simp] theorem Quiet.refl (s : State) : Quiet s s := ⟨rfl, rfl, rfl, rfl, rfl, rfl, fun _ => ⟨rfl, rfl⟩, fun _ => rfl⟩

theorem Quiet.trans {s t u : State} (h : Quiet s t) (h' : Quiet t u) : Quiet s u where
  work := h'.work.trans h.work
  changed := h'.changed.trans h.changed
  now := h'.now.trans h.now
  hall := h'.hall.trans h.hall
  map := h'.map.trans h.map
  guards := h'.guards.trans h.guards
  tabs k := ⟨(h'.tabs k).1.trans (h.tabs k).1, (h'.tabs k).2.trans (h.tabs k).2⟩
  cranes c := (h'.cranes c).trans (h.cranes c)

theorem Quiet.symm {s t : State} (h : Quiet s t) : Quiet t s where
  work := h.work.symm
  changed := h.changed.symm
  now := h.now.symm
  hall := h.hall.symm
  map := h.map.symm
  guards := h.guards.symm
  tabs k := ⟨(h.tabs k).1.symm, (h.tabs k).2.symm⟩
  cranes c := (h.cranes c).symm

theorem Quiet.congr {s t u : State} (h : Quiet t u) : Quiet s u ↔ Quiet s t := ⟨fun hs => hs.trans h.symm, fun hs => hs.trans h⟩

/-- What a quiet change leaves of the conditions that beacons follow (Table 11-7). -/
theorem Quiet.sources {s t : State} (h : Quiet s t) : t.sourceHolds = s.sourceHolds := by
  have hkind : t.kindOf = s.kindOf := by funext z; rw [State.kindOf, h.map]; rfl
  have hzone : t.tableZone = s.tableZone := by funext k; rw [State.tableZone, hkind]; rfl
  have hguard : t.guard = s.guard := by funext z; rw [State.guard, h.guards]; rfl
  funext b
  cases b <;> simp only [State.sourceHolds, hzone, hguard, h.hall, (h.tabs _).1, (h.tabs _).2, h.cranes]

theorem Quiet.between {s t : State} (h : Quiet s t) (hs : s.between) : t.between := by
  obtain ⟨hwork, hchanged, hbeacons⟩ := hs
  refine ⟨h.work.trans hwork, h.changed.trans hchanged, ?_⟩
  rw [h.hall]
  refine hbeacons.imp id (fun hfollow => ?_)
  have hmap : s.hall.beacons.map (fun b => b.follow s.now (s.sourceHolds b.source)) = s.hall.beacons :=
    congrArg (fun v : State => v.hall.beacons) hfollow
  unfold State.followBeacons
  rw [h.sources, h.now, h.hall, hmap, ← h.hall, ← h.now]

section QuietUpdates

variable {s t : State}

/-- A change of the allocator, the composer, the flags, the field line, the host line or the waiting commands. -/
theorem Quiet.of_same {t u : State} (hw : u.work = t.work) (hs : u.stock = t.stock) (hn : u.now = t.now)
    (hh : u.hall = t.hall) (hg : u.guards = t.guards) (ht : u.tables = t.tables) (hm : u.moves = t.moves) :
    Quiet t u where
  work := hw
  changed := by rw [hs]
  now := hn
  hall := hh
  map := by rw [hs]
  guards := hg
  tabs k := by rw [State.tab, ht]; exact ⟨rfl, rfl⟩
  cranes c := by rw [State.crane, hm]; rfl

theorem quiet_iff_of_same {u : State} (hw : u.work = t.work) (hs : u.stock = t.stock) (hn : u.now = t.now)
    (hh : u.hall = t.hall) (hg : u.guards = t.guards) (ht : u.tables = t.tables) (hm : u.moves = t.moves) :
    Quiet s u ↔ Quiet s t :=
  Quiet.congr (.of_same hw hs hn hh hg ht hm)

@[simp] theorem quiet_setHand (r : Hand) : Quiet s (t.setHand r) ↔ Quiet s t :=
  quiet_iff_of_same rfl rfl rfl rfl rfl rfl rfl

@[simp] theorem quiet_accept (b : Accept) : Quiet s (t.accept b) ↔ Quiet s t := quiet_setHand _

@[simp] theorem quiet_refuse (c : Code) : Quiet s (t.refuse c) ↔ Quiet s t := quiet_setHand _

@[simp] theorem quiet_setHost (h : HostLine) : Quiet s (t.setHost h) ↔ Quiet s t :=
  quiet_iff_of_same rfl rfl rfl rfl rfl rfl rfl

@[simp] theorem quiet_raise (r : Report) : Quiet s (t.raise r) ↔ Quiet s t :=
  quiet_iff_of_same rfl rfl rfl rfl rfl rfl rfl

@[simp] theorem quiet_setComposer (c : Composer) : Quiet s (t.setComposer c) ↔ Quiet s t :=
  quiet_iff_of_same rfl rfl rfl rfl rfl rfl rfl

@[simp] theorem quiet_setFlagRec (f : FlagId) (r : FlagRec) : Quiet s (t.setFlagRec f r) ↔ Quiet s t :=
  quiet_iff_of_same rfl rfl rfl rfl rfl rfl rfl

@[simp] theorem quiet_modUnit (u : UnitId) (f : UnitRec → UnitRec) : Quiet s (t.modUnit u f) ↔ Quiet s t :=
  quiet_iff_of_same rfl rfl rfl rfl rfl rfl rfl

@[simp] theorem quiet_closeWindow : Quiet s t.closeWindow ↔ Quiet s t :=
  quiet_iff_of_same rfl rfl rfl rfl rfl rfl rfl

@[simp] theorem quiet_line (l : FieldLine) : Quiet s { t with line := l } ↔ Quiet s t :=
  quiet_iff_of_same rfl rfl rfl rfl rfl rfl rfl

@[simp] theorem quiet_alloc (a : Allocator) : Quiet s { t with alloc := a } ↔ Quiet s t :=
  quiet_iff_of_same rfl rfl rfl rfl rfl rfl rfl

@[simp] theorem quiet_modRec (id : Nat) (f : StockRec → StockRec) : Quiet s (t.modRec id f) ↔ Quiet s t :=
  Quiet.congr ⟨rfl, rfl, rfl, rfl, rfl, rfl, fun _ => ⟨rfl, rfl⟩, fun _ => rfl⟩

@[simp] theorem quiet_modTab (k : TableId) (f : TableRec → TableRec) (hs : ∀ r, (f r).state = r.state)
    (hw : ∀ r, (f r).wear = r.wear) : Quiet s (t.modTab k f) ↔ Quiet s t := by
  refine Quiet.congr ⟨rfl, rfl, rfl, rfl, rfl, rfl, fun j => ?_, fun _ => rfl⟩
  rw [State.tab_modTab]
  split
  next hjk => subst hjk; rw [hs, hw]; exact ⟨rfl, rfl⟩
  next => exact ⟨rfl, rfl⟩

@[simp] theorem quiet_modCrane (c : CraneId) (f : CraneRec → CraneRec) (hs : ∀ r, (f r).state = r.state) :
    Quiet s (t.modCrane c f) ↔ Quiet s t := by
  refine Quiet.congr ⟨rfl, rfl, rfl, rfl, rfl, rfl, fun _ => ⟨rfl, rfl⟩, fun d => ?_⟩
  rw [State.crane_modCrane]
  split
  next hdc => subst hdc; exact hs _
  next => rfl

end QuietUpdates

/-! ## The shapes of the commands -/

/-- A request that may set off work. -/
def IsRequest (i : Instr) (e : State → Host.Outcome State Fault Refusal) : Prop :=
  ∃ f, e = request i f ∧ ∀ s, Answers s (f s)

/-- A request that sets off no work. -/
def IsAsk (i : Instr) (e : State → Host.Outcome State Fault Refusal) : Prop :=
  ∃ f, e = ask i f ∧ ∀ s, Answers s (f s) ∧ Quiet s (f s)

/-- Any command but those of the reset pin: what it does is steady, and it is a whole handling or quiet. -/
def IsCommand (e : State → Host.Outcome State Fault Refusal) : Prop :=
  (∃ f, e = handled f ∧ ∀ s, Steady s (f s))
    ∨ ∃ f, e = plain f ∧ ∀ s, Steady s (f s) ∧ (s.between → (f s).between)

theorem IsRequest.command {i : Instr} {e : State → Host.Outcome State Fault Refusal} (h : IsRequest i e) : IsCommand e := by
  obtain ⟨f, rfl, hf⟩ := h
  refine .inl ⟨_, rfl, fun s => ?_⟩
  split
  · exact (hf s).steady
  · exact Steady.refl s

theorem IsAsk.command {i : Instr} {e : State → Host.Outcome State Fault Refusal} (h : IsAsk i e) : IsCommand e := by
  obtain ⟨f, rfl, hf⟩ := h
  refine .inr ⟨_, rfl, fun s => ?_⟩
  split
  · exact ⟨(hf s).1.steady, (hf s).2.between⟩
  · exact ⟨Steady.refl s, id⟩

/-- An event that keeps the state calm, with what it sets off. -/
theorem isCommand_handled (f : State → State) (h : ∀ s, Calm s (f s)) : IsCommand (handled f) :=
  .inl ⟨f, rfl, fun s => (h s).toSteady⟩

/-- An event that changes what no beacon sees. -/
theorem isCommand_plain (f : State → State) (h : ∀ s, Steady s (f s) ∧ Quiet s (f s)) : IsCommand (plain f) :=
  .inr ⟨f, rfl, fun s => ⟨(h s).1, (h s).2.between⟩⟩

/-! ## The common tests of the requests -/

section Tests

variable {s : State}

@[simp] theorem answers_withTable (n : Nat) (f : TableId → State) (hf : ∀ k, Answers s (f k)) :
    Answers s (s.withTable n f) := by
  unfold State.withTable
  split
  · simp
  · split
    · simp
    · exact hf _

@[simp] theorem answers_withCrane (n : Nat) (f : CraneId → State) (hf : ∀ c, Answers s (f c)) :
    Answers s (s.withCrane n f) := by
  unfold State.withCrane
  split
  · simp
  · split
    · simp
    · exact hf _

@[simp] theorem answers_withUnit (n : Nat) (f : UnitId → State) (hf : ∀ u, Answers s (f u)) :
    Answers s (s.withUnit n f) := by
  unfold State.withUnit
  split
  · simp
  · split
    · simp
    · exact hf _

@[simp] theorem answers_notInSetup (k : State) (hk : Answers s k) : Answers s (s.notInSetup k) := by
  unfold State.notInSetup
  split
  · simp
  · exact hk

@[simp] theorem answers_withProgram (n : Nat) (f : TableId → State) (hf : ∀ k, Answers s (f k)) :
    Answers s (s.withProgram n f) :=
  answers_withTable n _ (fun k => answers_notInSetup _ (hf k))

@[simp] theorem answers_withMove (id : Nat) (f : MoveRec → State) (hf : ∀ m, s.move id = some m → Answers s (f m)) :
    Answers s (s.withMove id f) := by
  refine answers_notInSetup _ ?_
  split
  · simp
  next hm => exact hf _ hm

@[simp] theorem quiet_withTable (n : Nat) (f : TableId → State) (hf : ∀ k, Quiet s (f k)) : Quiet s (s.withTable n f) := by
  unfold State.withTable
  split
  · simp
  · split
    · simp
    · exact hf _

@[simp] theorem quiet_withCrane (n : Nat) (f : CraneId → State) (hf : ∀ c, Quiet s (f c)) : Quiet s (s.withCrane n f) := by
  unfold State.withCrane
  split
  · simp
  · split
    · simp
    · exact hf _

@[simp] theorem quiet_withProgram (n : Nat) (f : TableId → State) (hf : ∀ k, Quiet s (f k)) :
    Quiet s (s.withProgram n f) := by
  refine quiet_withTable n _ (fun k => ?_)
  unfold State.notInSetup
  split
  · simp
  · exact hf k

end Tests

/-! ## Requests that only read or set -/

section Asks

/-- A request whose meaning is refused, or calm and quiet. -/
theorem isAsk_of (i : Instr) (f : State → State) (ha : ∀ s, Answers s (f s)) (hq : ∀ s, Quiet s (f s)) :
    IsAsk i (ask i f) := ⟨f, rfl, fun s => ⟨ha s, hq s⟩⟩

@[simp] theorem answers_accept (s : State) (b : Accept) : Answers s (s.accept b) := (calm_accept (.refl s) b).answers

theorem isAsk_requestUnknownKind (frame : HostFrame) : IsAsk (.requestUnknownKind frame) (execRequestUnknownKind frame) := by
  refine isAsk_of _ _ (fun s => ?_) (fun s => ?_)
  · (repeat' split) <;> simp
  · (repeat' split) <;> simp

theorem isAsk_mapQuery : IsAsk .mapQuery execMapQuery := isAsk_of _ _ (by simp) (by simp)

theorem isAsk_stockQuarantine (id : Nat) : IsAsk (.stockQuarantine id) (execStockQuarantine id) := by
  refine isAsk_of _ _ (fun s => ?_) (fun s => ?_)
  · split
    · simp
    · split
      · exact (calm_accept (by simp) _).answers
      · simp
  · split
    · simp
    · split <;> simp

theorem isAsk_stockQuery (id : Nat) : IsAsk (.stockQuery id) (execStockQuery id) := by
  refine isAsk_of _ _ (fun s => ?_) (fun s => ?_)
  · split <;> simp
  · split <;> simp

theorem isAsk_stockList (filter arg start : Nat) :
    IsAsk (.stockList filter arg start) (execStockList filter arg start) := by
  refine isAsk_of _ _ (fun s => ?_) (fun s => ?_)
  · split
    · simp
    · split <;> simp
  · split
    · simp
    · split <;> simp

theorem isAsk_slotQuery (zone slot : Nat) : IsAsk (.slotQuery zone slot) (execSlotQuery zone slot) := by
  refine isAsk_of _ _ (fun s => ?_) (fun s => ?_)
  · split <;> simp
  · split <;> simp

theorem isAsk_allocQuery : IsAsk .allocQuery execAllocQuery := isAsk_of _ _ (by simp) (by simp)

theorem isAsk_allocProbe (r : ReqFields) : IsAsk (.allocProbe r) (execAllocProbe r) := by
  refine isAsk_of _ _ (fun s => ?_) (fun s => ?_)
  · split <;> simp
  · split <;> simp

theorem isAsk_accountRead : IsAsk .accountRead execAccountRead := isAsk_of _ _ (by simp) (by simp)

theorem isAsk_accountClear : IsAsk .accountClear execAccountClear := by
  refine isAsk_of _ _ (fun s => (calm_accept ?_ _).answers) (by simp)
  exact Calm.of_same rfl rfl rfl (fun _ => ⟨rfl, rfl⟩) rfl rfl

@[simp] theorem calm_setStaged {s t : State} (k : TableId) (g : Staged) : Calm s (t.setStaged k g) ↔ Calm s t := by
  simp [State.setStaged]

@[simp] theorem quiet_setStaged {s t : State} (k : TableId) (g : Staged) : Quiet s (t.setStaged k g) ↔ Quiet s t := by
  simp [State.setStaged]

theorem isAsk_progBegin (table n : Nat) : IsAsk (.progBegin table n) (execProgBegin table n) := by
  refine isAsk_of _ _ (fun s => answers_withProgram _ _ (fun k => ?_)) (fun s => quiet_withProgram _ _ (fun k => ?_))
  · split
    · simp
    · split
      · simp
      · simp
      · exact (calm_accept (by simp) _).answers
  · split
    · simp
    · split <;> simp

theorem isAsk_progSteps (table first count : Nat) (data : List Byte) :
    IsAsk (.progSteps table first count data) (execProgSteps table first count data) := by
  refine isAsk_of _ _ (fun s => answers_withProgram _ _ (fun k => ?_)) (fun s => quiet_withProgram _ _ (fun k => ?_))
  · split
    · split
      · simp
      · split
        · simp
        · exact (calm_accept (by simp) _).answers
    · simp
  · split
    · split
      · simp
      · split <;> simp
    · simp

theorem isAsk_progDiscard (table : Nat) : IsAsk (.progDiscard table) (execProgDiscard table) := by
  refine isAsk_of _ _ (fun s => answers_withProgram _ _ (fun k => ?_)) (fun s => quiet_withProgram _ _ (fun k => ?_))
  · split
    · simp
    · exact (calm_accept (by simp) _).answers
  · split <;> simp

theorem isAsk_progQuery (table : Nat) : IsAsk (.progQuery table) (execProgQuery table) :=
  isAsk_of _ _ (fun s => answers_withTable _ _ (by simp)) (fun s => quiet_withTable _ _ (by simp))

theorem isAsk_progRead (table slot first count : Nat) :
    IsAsk (.progRead table slot first count) (execProgRead table slot first count) := by
  refine isAsk_of _ _ (fun s => answers_withTable _ _ (fun k => ?_)) (fun s => quiet_withTable _ _ (fun k => ?_))
  · split
    · simp
    · split
      · simp
      · split <;> simp
  · split
    · simp
    · split
      · simp
      · split <;> simp

theorem isAsk_wearQuery (table : Nat) : IsAsk (.wearQuery table) (execWearQuery table) :=
  isAsk_of _ _ (fun s => answers_withTable _ _ (by simp)) (fun s => quiet_withTable _ _ (by simp))

@[simp] theorem quiet_modMark {s t : State} (id : Nat) (f : MarkRec → MarkRec) :
    Quiet s (t.modMark id f) ↔ Quiet s t := quiet_setComposer _

theorem isAsk_markDefine (m : MarkBody) : IsAsk (.markDefine m) (execMarkDefine m) := by
  refine isAsk_of _ _ (fun s => ?_) (fun s => ?_)
  · repeat' split
    · simp
    · simp
    · exact (calm_accept (by simp) _).answers
    · simp
    · exact (calm_accept (by simp) _).answers
  · (repeat' split) <;> simp

theorem isAsk_markDelete (id : Nat) : IsAsk (.markDelete id) (execMarkDelete id) := by
  refine isAsk_of _ _ (fun s => ?_) (fun s => ?_)
  · split
    · simp
    · split
      · simp
      · exact (calm_accept (by simp) _).answers
  · split
    · simp
    · split <;> simp

theorem isAsk_markQuery (id : Nat) : IsAsk (.markQuery id) (execMarkQuery id) := by
  refine isAsk_of _ _ (fun s => ?_) (fun s => ?_)
  · split <;> simp
  · split <;> simp

theorem isAsk_markSerialSet (id : Nat) (digits : List Nat) :
    IsAsk (.markSerialSet id digits) (execMarkSerialSet id digits) := by
  refine isAsk_of _ _ (fun s => ?_) (fun s => ?_)
  · split
    · simp
    · repeat' split
      · simp
      · simp
      · simp
      · exact (calm_accept (by simp) _).answers
  · split
    · simp
    · (repeat' split) <;> simp

theorem isAsk_composerQuery : IsAsk .composerQuery execComposerQuery := isAsk_of _ _ (by simp) (by simp)

theorem isAsk_flagClear (flag : Nat) : IsAsk (.flagClear flag) (execFlagClear flag) := by
  refine isAsk_of _ _ (fun s => ?_) (fun s => ?_)
  · split
    · simp
    · exact (calm_accept (calm_setFlagRec (.refl s) _ _ (fun _ => rfl)) _).answers
  · split <;> simp

theorem isAsk_flagQuery (flag : Nat) : IsAsk (.flagQuery flag) (execFlagQuery flag) := by
  refine isAsk_of _ _ (fun s => ?_) (fun s => ?_)
  · split
    · simp
    · split <;> simp
  · split
    · simp
    · split <;> simp

theorem isAsk_guardQuery (zone : Nat) : IsAsk (.guardQuery zone) (execGuardQuery zone) := by
  refine isAsk_of _ _ (fun s => ?_) (fun s => ?_)
  · split
    · simp
    · split
      · simp
      · split <;> simp
  · split
    · simp
    · split
      · simp
      · split <;> simp

theorem isAsk_moveQuery (move : Nat) : IsAsk (.moveQuery move) (execMoveQuery move) := by
  refine isAsk_of _ _ (fun s => ?_) (fun s => ?_)
  · split
    · simp
    · split <;> simp
  · split
    · simp
    · split <;> simp

theorem isAsk_craneStatus (crane : Nat) : IsAsk (.craneStatus crane) (execCraneStatus crane) :=
  isAsk_of _ _ (fun s => answers_withCrane _ _ (by simp)) (fun s => quiet_withCrane _ _ (by simp))

theorem isAsk_craneConfig (crane : Nat) (p : CraneParams) : IsAsk (.craneConfig crane p) (execCraneConfig crane p) := by
  refine isAsk_of _ _ (fun s => answers_withCrane _ _ (fun c => ?_)) (fun s => quiet_withCrane _ _ (fun c => ?_))
  · split
    · simp
    · exact (calm_accept (by simp) _).answers
  · split <;> simp

theorem isAsk_unitQuery (unit : Nat) : IsAsk (.unitQuery unit) (execUnitQuery unit) := by
  refine isAsk_of _ _ (fun s => ?_) (fun s => ?_)
  · split
    · simp
    · split <;> simp
  · split
    · simp
    · split <;> simp

theorem isAsk_beaconQuery : IsAsk .beaconQuery execBeaconQuery := isAsk_of _ _ (by simp) (by simp)

theorem isAsk_hallStatus : IsAsk .hallStatus execHallStatus := by
  refine isAsk_of _ _ (fun s => (calm_accept ?_ _).answers) (by simp)
  exact Calm.of_same rfl rfl rfl (fun _ => ⟨rfl, rfl⟩) rfl rfl

theorem isAsk_reportStatus (bits : Byte) : IsAsk (.reportStatus bits) (execReportStatus bits) := by
  refine isAsk_of _ _ (fun s => (calm_accept ?_ _).answers) (by simp)
  exact Calm.of_same rfl rfl rfl (fun _ => ⟨rfl, rfl⟩) rfl rfl

theorem isAsk_reportMask (bits : Byte) : IsAsk (.reportMask bits) (execReportMask bits) := by
  refine isAsk_of _ _ (fun s => (calm_accept ?_ _).answers) (by simp)
  exact Calm.of_same rfl rfl rfl (fun _ => ⟨rfl, rfl⟩) rfl rfl

theorem isAsk_reportForce (cls : Nat) : IsAsk (.reportForce cls) (execReportForce cls) := by
  refine isAsk_of _ _ (fun s => ?_) (fun s => ?_)
  · split
    · simp
    · exact ((calm_raise _).2 (calm_accept (.refl s) _)).answers
  · split <;> simp

end Asks

/-! ## Requests that may set off work -/

section Requests

theorem isRequest_of (i : Instr) (f : State → State) (ha : ∀ s, Answers s (f s)) : IsRequest i (request i f) := ⟨f, rfl, ha⟩

theorem isRequest_hallMap (entries : List (Nat × Nat)) : IsRequest (.hallMap entries) (execHallMap entries) := by
  refine isRequest_of _ _ (fun s => ?_)
  split
  · simp
  · split
    · simp
    · split
      · dsimp only
        split
        · simp
        · refine (calm_accept ?_ _).answers
          exact Calm.of_same rfl rfl rfl (fun _ => ⟨rfl, rfl⟩) rfl rfl
      · simp

/-- The record of STOCK_REGISTER joins the table with an id that is not in use. -/
theorem calm_register (s : State) (b : StockBody) (r : SlotRef) (hbody : stockBodyOk b = true) (hid : s.idUsed b.id = false)
    (hroom : s.stock.recs.length < Config.maxStock) :
    Calm s (s.countAge.setRecs (s.stock.recs ++ [s.newRecord b r])) := by
  refine ⟨⟨rfl, id, id, id, fun hok => stockNumbersOk_append hok hroom ?_ (fun y hy => ?_) rfl⟩, id⟩
  · simp only [stockBodyOk, within, Bool.and_eq_true, decide_eq_true_eq] at hbody
    have hbounds : 1 ≤ b.id ∧ b.id ≤ Config.lastHostId := hbody.1.1.1.1.1.1.1.1
    exact ⟨hbounds.1, Nat.le_trans hbounds.2 (by decide)⟩
  · show y.id ≠ b.id
    simpa using List.any_eq_false.1 hid y hy

theorem isRequest_stockRegister (b : StockBody) : IsRequest (.stockRegister b) (execStockRegister b) := by
  refine isRequest_of _ _ (fun s => ?_)
  split
  · simp
  next hbody =>
    split
    · simp
    · split
      · simp
      next hid =>
        split
        · simp
        next hroom =>
          split
          · simp
          · refine (calm_accept ((calm_stockChanged).2 (calm_register s b _ ?_ ?_ ?_)) _).answers
            · simpa using hbody
            · exact Bool.eq_false_iff.2 hid
            · exact Nat.lt_of_not_le hroom

@[simp] theorem calm_clearHook {s t : State} (x : StockRec) : Calm s (t.clearHook x) ↔ Calm s t := by
  unfold State.clearHook
  split <;> simp

theorem answers_removeFromSlot (s : State) (x : StockRec) : Answers s (s.removeFromSlot x) := by
  unfold State.removeFromSlot
  split
  · simp
  · repeat' split
    · simp
    · simp
    · exact (calm_accept (by simp) _).answers

theorem answers_removeHeld (s : State) (x : StockRec) : Answers s (s.removeHeld x) := by
  unfold State.removeHeld
  split
  · exact (calm_accept (by simp) _).answers
  · split
    · split
      · exact (calm_accept (by simp) _).answers
      · simp
    · simp

theorem isRequest_stockRemove (id : Nat) : IsRequest (.stockRemove id) (execStockRemove id) := by
  refine isRequest_of _ _ (fun s => ?_)
  split
  · simp
  · split
    · exact answers_removeFromSlot _ _
    · exact answers_removeFromSlot _ _
    · exact answers_removeHeld _ _
    · simp
    · simp
    · simp

theorem isRequest_stockRelease (id : Nat) : IsRequest (.stockRelease id) (execStockRelease id) := by
  refine isRequest_of _ _ (fun s => ?_)
  split
  · simp
  · repeat' split
    · simp
    · exact (calm_accept (by simp) _).answers
    · exact (calm_accept (by simp) _).answers

theorem calm_committed (s : State) (k : TableId) (steps : List NestStep) : Calm s (s.committed k steps) := by
  unfold State.committed
  dsimp only
  (repeat' split) <;> exact calm_accept (by simp) _

theorem isRequest_progCommit (table : Nat) : IsRequest (.progCommit table) (execProgCommit table) := by
  refine isRequest_of _ _ (fun s => answers_withProgram _ _ (fun k => ?_))
  split
  · split
    · exact (calm_committed s k _).answers
    · simp
  · simp

theorem isRequest_progStart (table : Nat) : IsRequest (.progStart table) (execProgStart table) := by
  refine isRequest_of _ _ (fun s => answers_withProgram _ _ (fun k => ?_))
  split
  · repeat' split
    · simp
    · simp
    · simp
    · exact (calm_accept (by simp) _).answers
  · simp

theorem isRequest_progAbort (table : Nat) : IsRequest (.progAbort table) (execProgAbort table) := by
  refine isRequest_of _ _ (fun s => answers_withProgram _ _ (fun k => ?_))
  dsimp only
  repeat' split
  · simp
  · simp
  · simp
  · exact ((calm_push _).2 (calm_accept (.refl s) _)).answers

theorem calm_resume (s : State) (k : TableId) (skip : Bool) : Calm s (s.resume k skip) := by
  unfold State.resume
  dsimp only
  split
  · split <;> simp
  · simp

theorem isRequest_tableResume (table mode : Nat) : IsRequest (.tableResume table mode) (execTableResume table mode) := by
  refine isRequest_of _ _ (fun s => ?_)
  split
  · simp
  next k _ =>
    dsimp only
    (repeat' split) <;> first | exact (calm_resume s k _).answers | simp

/-- A new configuration is followed by an evaluation where it has a wear limit, and keeps the limit where it has none
(R96, R106). -/
theorem isRequest_tableConfig (table : Nat) (p : TableParams) : IsRequest (.tableConfig table p) (execTableConfig table p) := by
  refine isRequest_of _ _ (fun s => answers_withTable _ _ (fun k => ?_))
  split
  · simp
  · dsimp only
    split
    · refine Calm.answers ?_
      have hreply := calm_accept (Calm.refl s) (.tableCfg ((s.tab k).cfg.update p))
      exact calm_evalWear hreply k (fun r => { r with cfg := (s.tab k).cfg.update p }) .limit (fun hok => ⟨hok.1, hok.2.1⟩)
    next hlimit =>
      refine (calm_accept (calm_modTab (.refl s) k _ ?_) _).answers
      have hkept : ((s.tab k).cfg.update p).wearLimit = (s.tab k).cfg.wearLimit := by
        rw [TableCfg.update, Option.not_isSome_iff_eq_none.1 hlimit]
        rfl
      unfold TableRec.wearOk
      dsimp only
      rw [hkept]
      exact id

theorem isRequest_wearReset (table : Nat) : IsRequest (.wearReset table) (execWearReset table) := by
  refine isRequest_of _ _ (fun s => answers_withTable _ _ (fun k => ?_))
  dsimp only
  split
  · simp
  · refine (calm_evalWear (calm_accept (.refl s) _) k _ .limit (fun _ => ?_)).answers
    exact ⟨Nat.zero_le _, Nat.zero_lt_succ _⟩

theorem isRequest_flagSet (flag : Nat) : IsRequest (.flagSet flag) (execFlagSet flag) := by
  refine isRequest_of _ _ (fun s => ?_)
  split
  · simp
  · exact (calm_runSetFlag (calm_accept (.refl s) _) _ _).answers

/-- A post that is not accepted changes nothing (R163). -/
theorem post_cases (s : State) (p : Post) :
    (∃ c, s.post p = (s, .refused c)) ∨ s.post p = (s, .full)
      ∨ ∃ m, s.postTest p = .ok m ∧ s.post p = (s.acceptMove m, .accepted s.moveId) := by
  unfold State.post
  split
  · exact .inl ⟨_, rfl⟩
  next m hm =>
    split
    · exact .inr (.inl rfl)
    · exact .inr (.inr ⟨m, hm, rfl⟩)

theorem isRequest_movePost (b : PostBody) : IsRequest (.movePost b) (execMovePost b) := by
  refine isRequest_of _ _ (fun s => answers_notInSetup _ ?_)
  split
  · split
    · simp
    next load flag _ _ _ =>
      obtain ⟨c, hpost⟩ | hpost | ⟨m, -, hpost⟩ := post_cases s
        { origin := .host, load := load, srcZone := b.srcZone, dstZone := b.dstZone, dstSlot := b.dstSlot,
          urgent := decide (b.priority = 1), flag := flag }
      · simp [hpost]
      · simp [hpost]
      · rw [hpost]
        exact (calm_accept (by simp) _).answers
  · simp

theorem isRequest_moveAcceptWeight (move : Nat) : IsRequest (.moveAcceptWeight move) (execMoveAcceptWeight move) := by
  refine isRequest_of _ _ (fun s => answers_withMove _ _ (fun m _ => ?_))
  split
  · exact (calm_accept (by simp) _).answers
  · simp

@[simp] theorem calm_sendBack {s t : State} (m : MoveRec) (r : SlotRef) : Calm s (t.sendBack m r) ↔ Calm s t := by
  unfold State.sendBack
  dsimp only
  split <;> simp

theorem isRequest_moveAbort (move : Nat) : IsRequest (.moveAbort move) (execMoveAbort move) := by
  refine isRequest_of _ _ (fun s => answers_withMove _ _ (fun m _ => ?_))
  split
  · split
    · split
      · simp
      · split
        · simp
        · exact (calm_accept (by simp) _).answers
    · simp
  · simp

@[simp] theorem calm_holdAgain {s t : State} (m : MoveRec) : Calm s (t.holdAgain m) ↔ Calm s t := by
  unfold State.holdAgain
  split
  · exact calm_modRec _ _ (fun x => by split <;> rfl) (fun x => by split <;> rfl)
  · exact Iff.rfl

theorem isRequest_moveRetry (move : Nat) : IsRequest (.moveRetry move) (execMoveRetry move) := by
  refine isRequest_of _ _ (fun s => answers_withMove _ _ (fun m _ => ?_))
  split
  · split
    · exact ((calm_push _).2 (calm_accept (by simp) _)).answers
    · simp
  · simp

@[simp] theorem calm_emptyHook {s t : State} (m : MoveRec) : Calm s (t.emptyHook m) ↔ Calm s t := by
  unfold State.emptyHook
  split <;> simp

theorem answers_recoverHeld (s : State) (m : MoveRec) (x : StockRec) (loc zone slot : Nat) :
    Answers s (s.recoverHeld m x loc zone slot) := by
  unfold State.recoverHeld
  split
  · split
    · simp
    · split
      · simp
      · exact (calm_accept (by simp) _).answers
  · repeat' split
    · simp
    · exact (calm_accept (by simp) _).answers
    · simp

theorem answers_recover (s : State) (m : MoveRec) (loc zone slot : Nat) : Answers s (s.recover m loc zone slot) := by
  unfold State.recover
  split
  · split
    · simp
    · split
      · split
        · exact (calm_accept (by simp) _).answers
        · simp
      · exact answers_recoverHeld _ _ _ _ _ _
  · split
    · exact (calm_accept (by simp) _).answers
    · simp

theorem isRequest_moveRecover (move loc zone slot : Nat) :
    IsRequest (.moveRecover move loc zone slot) (execMoveRecover move loc zone slot) := by
  refine isRequest_of _ _ (fun s => answers_withMove _ _ (fun m _ => ?_))
  repeat' split
  · simp
  · simp
  · exact answers_recover _ _ _ _ _

theorem isRequest_moveCancel (move : Nat) : IsRequest (.moveCancel move) (execMoveCancel move) := by
  refine isRequest_of _ _ (fun s => answers_withMove _ _ (fun m _ => ?_))
  repeat' split
  · simp
  · simp
  · exact (calm_accept (by simp) _).answers

@[simp] theorem calm_ownerMaintained {s t : State} (u : UnitId) : Calm s (t.ownerMaintained u) ↔ Calm s t := by
  unfold State.ownerMaintained
  split <;> simp

theorem isRequest_unitMaintain (unit : Nat) : IsRequest (.unitMaintain unit) (execUnitMaintain unit) := by
  refine isRequest_of _ _ (fun s => answers_withUnit _ _ (fun u => ?_))
  dsimp only
  repeat' split
  · simp
  · simp
  · simp
  · simp
  · exact (calm_accept (by simp) _).answers

@[simp] theorem calm_hall {s t : State} (h : HallControl) : Calm s { t with hall := h } ↔ Calm s t :=
  Calm.congr_other rfl rfl rfl rfl rfl rfl

@[simp] theorem calm_queryCrane {s t : State} (c : CraneId) : Calm s (t.queryCrane c) ↔ Calm s t := by
  unfold State.queryCrane
  split <;> simp

theorem isRequest_hallRun : IsRequest .hallRun execHallRun := by
  refine isRequest_of _ _ (fun s => ?_)
  repeat' split
  · simp
  · simp
  · simp
  · refine Calm.answers ?_
    simp only [calm_queryCrane]
    exact calm_accept (by simp) _

theorem isRequest_hallContinue : IsRequest .hallContinue execHallContinue := by
  refine isRequest_of _ _ (fun s => ?_)
  repeat' split
  · simp
  · simp
  · exact (calm_accept (by simp) _).answers

section Reset

variable {s t : State}

@[simp] theorem calm_resetLine : Calm s t.resetLine ↔ Calm s t := Calm.congr_other rfl rfl rfl rfl rfl rfl

@[simp] theorem calm_resetTable (k : TableId) : Calm s (t.resetTable k) ↔ Calm s t := by
  unfold State.resetTable
  dsimp only
  split
  · rfl
  · (repeat' split) <;> simp

@[simp] theorem calm_resetCrane (c : CraneId) : Calm s (t.resetCrane c) ↔ Calm s t := by
  unfold State.resetCrane
  dsimp only
  split <;> simp

theorem StockRec.afterReset_numbers (x : StockRec) : x.afterReset.id = x.id ∧ x.afterReset.age = x.age := by
  unfold StockRec.afterReset
  split <;> exact ⟨rfl, rfl⟩

@[simp] theorem calm_resetStock : Calm s t.resetStock ↔ Calm s t :=
  Calm.congr_other rfl rfl rfl rfl (numbers_setRecs_map t (fun x => x.afterReset_numbers.1) (fun x => x.afterReset_numbers.2)) rfl

theorem guard_replicate {s : State} (hs : s.guards = Vector.replicate 16 .initial) : s.guardsOk := by
  intro z
  have hget : s.guard z = .initial := by
    rw [State.guard, hs]
    exact Vector.getElem_replicate _
  rw [hget]
  exact GuardRec.ok_initial

theorem flag_replicate {s : State} (hs : s.flags = Vector.replicate 16 .initial) : s.flagsOk := by
  intro f
  have hget : s.flag f = .initial := by
    rw [State.flag, hs]
    exact Vector.getElem_replicate _
  rw [hget]
  rfl

theorem calm_resetJobs (h : Calm s t) : Calm s t.resetJobs :=
  h.trans ⟨⟨rfl, fun _ => guard_replicate rfl, fun _ => flag_replicate rfl, id, id⟩, id⟩

theorem calm_resetBlocks (h : Calm s t) : Calm s t.resetBlocks := by
  simp only [State.resetBlocks, calm_setSpaceWaits]
  exact calm_resetJobs (by simp [h])

end Reset

theorem isRequest_hallReset : IsRequest .hallReset execHallReset := by
  refine isRequest_of _ _ (fun s => ?_)
  repeat' split
  · simp
  · simp
  · exact (calm_accept (calm_resetBlocks (by simp)) _).answers

theorem isRequest_faultRead (clear : Nat) : IsRequest (.faultRead clear) (execFaultRead clear) := by
  refine isRequest_of _ _ (fun s => ?_)
  dsimp only
  repeat' split
  · simp
  · exact Calm.answers ((calm_hall _).2 (calm_accept (.refl s) _))
  · simp

theorem isRequest_beaconSet (output source arg pattern : Nat) :
    IsRequest (.beaconSet output source arg pattern) (execBeaconSet output source arg pattern) := by
  refine isRequest_of _ _ (fun s => ?_)
  split
  · split
    · simp
    · exact (calm_accept ((calm_hall _).2 (.refl s)) _).answers
  · simp

end Requests

end Sys2Proof.Machine

/-! Every command in the shape that the invariants ask for, and with it the statements about every step. -/

namespace Sys2Proof.Machine

/-! ## The requests whose reply waits -/

theorem Steady.setHand {s t : State} (h : Steady s t) (r : Hand) : Steady s (t.setHand r) :=
  h.trans ⟨rfl, id, id, id, id⟩

@[simp] theorem calm_awaitRestore {s t : State} (u : UnitId) : Calm s (t.awaitRestore u) ↔ Calm s t := by
  unfold State.awaitRestore
  split <;> simp

theorem steady_notInSetup {s : State} (k : State) (hk : Steady s k) : Steady s (s.notInSetup k) := by
  unfold State.notInSetup
  split
  · exact (answers_refuse s _).steady
  · exact hk

theorem steady_withCrane {s : State} (n : Nat) (f : CraneId → State) (hf : ∀ c, Steady s (f c)) :
    Steady s (s.withCrane n f) := by
  unfold State.withCrane
  split
  · exact (answers_refuse s _).steady
  · split
    · exact (answers_refuse s _).steady
    · exact hf _

theorem steady_withUnit {s : State} (n : Nat) (f : UnitId → State) (hf : ∀ u, Steady s (f u)) :
    Steady s (s.withUnit n f) := by
  unfold State.withUnit
  split
  · exact (answers_refuse s _).steady
  · split
    · exact (answers_refuse s _).steady
    · exact hf _

theorem isCommand_craneResume (crane : Nat) : IsCommand (execCraneResume crane) := by
  refine .inl ⟨_, rfl, fun s => ?_⟩
  split
  · refine steady_notInSetup _ (steady_withCrane _ _ (fun c => ?_))
    split
    · exact (answers_refuse s _).steady
    · split
      · exact (answers_refuse s _).steady
      · have hasked : Calm s ((s.modCrane c (fun r => { r with awaited := true })).handTo (craneUnit c) .statusQuery
            .cranes) := by simp
        exact hasked.toSteady.setHand _
  · exact Steady.refl s

theorem isCommand_unitRestore (unit : Nat) : IsCommand (execUnitRestore unit) := by
  refine .inl ⟨_, rfl, fun s => ?_⟩
  split
  · refine steady_withUnit _ _ (fun u => ?_)
    split
    · exact (answers_refuse s _).steady
    · split
      · exact (answers_refuse s _).steady
      · have hasked : Calm s (((s.modUnit u (fun r => { r with restoring := true, fails := 0 })).awaitRestore u).handTo u
            .statusQuery .restore) := by simp
        exact hasked.toSteady.setHand _
  · exact Steady.refl s

/-- What PASS_THROUGH_FRAME does: a refusal, or a frame that waits for its turn with the reply. -/
theorem passThroughFrame_cases (frame : HostFrame) : ∃ f, execPassThroughFrame frame = ask (.passThroughFrame frame) f
    ∧ ∀ s, (∃ c, f s = s.refuse c) ∨ ∃ u p, f s = ({ s with line := { s.line with pass := some p } } : State).setHand
      (.waiting (.pass u)) := by
  refine ⟨_, rfl, fun s => ?_⟩
  split
  · exact .inl ⟨_, rfl⟩
  · dsimp only
    repeat' split
    · exact .inl ⟨_, rfl⟩
    · exact .inl ⟨_, rfl⟩
    · exact .inr ⟨_, _, rfl⟩

theorem isCommand_passThroughFrame (frame : HostFrame) : IsCommand (execPassThroughFrame frame) := by
  obtain ⟨f, hf, hcases⟩ := passThroughFrame_cases frame
  rw [hf]
  refine isCommand_plain _ (fun s => ?_)
  split
  · obtain ⟨c, hc⟩ | ⟨u, p, hp⟩ := hcases s
    · rw [hc]
      exact ⟨(answers_refuse s c).steady, by simp⟩
    · rw [hp]
      refine ⟨Steady.setHand ?_ _, by simp⟩
      exact ⟨rfl, id, id, id, id⟩
  · exact ⟨Steady.refl s, Quiet.refl s⟩

/-! ## The events of the host line, the field line and the clock -/

theorem isCommand_host (f : State → HostLine) : IsCommand (plain fun s => s.setHost (f s)) :=
  isCommand_plain _ (fun s => ⟨⟨rfl, id, id, id, id⟩, by simp⟩)

theorem isCommand_hostCharGapTimeout (gap : Nat) : IsCommand (execHostCharGapTimeout gap) := by
  refine isCommand_plain _ (fun s => ?_)
  split
  · exact ⟨⟨rfl, id, id, id, id⟩, by simp⟩
  · exact ⟨Steady.refl s, Quiet.refl s⟩

theorem isCommand_passThroughAnswer (unit : Nat) (kind : Byte) (body : List Byte) :
    IsCommand (execPassThroughAnswer unit kind body) := by
  have hstray (s : State) (u : UnitId) : Steady s (s.strayFrame u) ∧ Quiet s (s.strayFrame u) := by
    refine ⟨(calm_strayFrame (.refl s) u).toSteady, ?_⟩
    unfold State.strayFrame
    split <;> simp [State.stray]
  refine isCommand_plain _ (fun s => ?_)
  split
  · exact ⟨Steady.refl s, Quiet.refl s⟩
  · split
    · exact ⟨Steady.refl s, Quiet.refl s⟩
    · split
      · exact ⟨⟨rfl, id, id, id, id⟩, by simp [State.passLost]⟩
      · split
        · exact ⟨Steady.refl s, Quiet.refl s⟩
        · split
          · exact ⟨⟨rfl, id, id, id, id⟩, by simp [State.passAnswered]⟩
          · exact hstray s _

theorem isCommand_passThroughTimeout (damaged : Bool) : IsCommand (execPassThroughTimeout damaged) := by
  refine isCommand_plain _ (fun s => ?_)
  split
  · exact ⟨⟨rfl, id, id, id, id⟩, by simp [State.passLost]⟩
  · exact ⟨Steady.refl s, Quiet.refl s⟩

theorem isCommand_offerWindowTimeout : IsCommand execOfferWindowTimeout := by
  refine isCommand_plain _ (fun s => ?_)
  split
  · exact ⟨⟨rfl, id, id, id, id⟩, by simp⟩
  · exact ⟨Steady.refl s, Quiet.refl s⟩

theorem isCommand_lineCommandTurn : IsCommand execLineCommandTurn := by
  refine isCommand_plain _ (fun s => ?_)
  unfold State.commandTurn State.transmit
  split
  · exact ⟨Steady.refl s, Quiet.refl s⟩
  · split
    · exact ⟨Steady.refl s, Quiet.refl s⟩
    · split
      · dsimp only
        split
        · exact ⟨⟨rfl, id, id, id, id⟩, by simp⟩
        · exact ⟨⟨rfl, id, id, id, id⟩, by simp⟩
        · exact ⟨Steady.refl s, Quiet.refl s⟩
      · exact ⟨Steady.refl s, Quiet.refl s⟩

theorem isCommand_lineOfferTurn : IsCommand execLineOfferTurn := by
  refine isCommand_plain _ (fun s => ?_)
  unfold State.offerTurn
  split
  · exact ⟨Steady.refl s, Quiet.refl s⟩
  · split
    · exact ⟨Steady.refl s, Quiet.refl s⟩
    · split
      · exact ⟨⟨rfl, id, id, id, id⟩, by simp⟩
      · exact ⟨Steady.refl s, Quiet.refl s⟩

/-- The clock is no beacon's source. -/
theorem isCommand_hallClockTick : IsCommand execHallClockTick := by
  refine .inr ⟨_, rfl, fun s => ?_⟩
  dsimp only
  split
  · refine ⟨⟨rfl, id, id, id, id⟩, fun ⟨hwork, hchanged, hbeacons⟩ => ⟨hwork, hchanged, hbeacons.imp id (fun hfollow => ?_)⟩⟩
    have hsources := sourceHolds_congr s ({ s with hall := { s.hall with
      clock := s.hall.clock + 1, nextSecond := s.hall.nextSecond + 1000 } }) rfl rfl rfl rfl rfl rfl rfl
    have hmap : s.hall.beacons.map (fun b => b.follow s.now (s.sourceHolds b.source)) = s.hall.beacons :=
      congrArg (fun v : State => v.hall.beacons) hfollow
    unfold State.followBeacons
    rw [hsources]
    dsimp only
    rw [hmap]
  · exact ⟨Steady.refl s, id⟩

/-! ## Beacons that follow their sources -/

theorem beacon_followBeacons (s : State) (n : OutputId) :
    s.followBeacons.beacon n = (s.beacon n).follow s.now (s.sourceHolds (s.beacon n).source) := by
  exact Vector.getElem_map ..

/-- Two states that differ in the beacons alone are the same where the beacons are. -/
theorem eq_followBeacons_of_beacon {s : State} (h : ∀ n, s.followBeacons.beacon n = s.beacon n) : s.followBeacons = s := by
  have hmap : s.hall.beacons.map (fun b => b.follow s.now (s.sourceHolds b.source)) = s.hall.beacons :=
    Vector.ext (fun i hi => h ⟨i, hi⟩)
  unfold State.followBeacons
  rw [hmap]

theorem followBeacons_eq_iff (s : State) :
    s.followBeacons = s ↔ ∀ n, (s.beacon n).follow s.now (s.sourceHolds (s.beacon n).source) = s.beacon n := by
  constructor
  · intro hfollow n
    rw [← beacon_followBeacons, hfollow]
  · intro hall
    exact eq_followBeacons_of_beacon (fun n => (beacon_followBeacons s n).trans (hall n))

/-- A beacon follows its source when it runs exactly where the source holds, and is dark where it does not. -/
theorem Beacon.follow_eq_self_iff (b : Beacon) (now : Nat) (holds : Bool) :
    b.follow now holds = b ↔ b.running = holds ∧ (holds = false → b.lit = false ∧ b.toggle = none) := by
  obtain ⟨source, pattern, running, lit, toggle⟩ := b
  cases holds <;> cases running <;> simp [Beacon.follow, eq_comm]

/-- A running beacon that toggles goes on running, and so goes on following its source. -/
theorem isCommand_beaconPatternToggle (n : OutputId) : IsCommand (execBeaconPatternToggle n) := by
  refine .inr ⟨_, rfl, fun s => ?_⟩
  dsimp only
  split
  next e half htoggle hhalf =>
    split
    next hrun =>
      refine ⟨⟨rfl, id, id, id, id⟩, fun ⟨hwork, hchanged, hbeacons⟩ => ⟨hwork, hchanged, hbeacons.imp id (fun hfollow => ?_)⟩⟩
      rw [followBeacons_eq_iff] at hfollow ⊢
      intro m
      have hm := hfollow m
      have hsources := sourceHolds_congr s (s.setBeacon n { s.beacon n with
        lit := !(s.beacon n).lit, toggle := some (e + half) }) rfl rfl rfl rfl rfl rfl rfl
      rw [hsources, State.beacon_setBeacon]
      split
      next hmn =>
        subst hmn
        rw [Beacon.follow_eq_self_iff] at hm ⊢
        refine ⟨hm.1, fun hdark => ?_⟩
        have hheld := hm.1.symm.trans hrun.1
        exact absurd (hheld.symm.trans hdark) (by decide)
      next => exact hm
    next => exact ⟨Steady.refl s, id⟩
  next => exact ⟨Steady.refl s, id⟩

/-! ## The events that are whole handlings -/

theorem isCommand_hallStopAsserted (heldMs : Nat) : IsCommand (execHallStopAsserted heldMs) := by
  refine isCommand_handled _ (fun s => ?_)
  (repeat' split) <;> simp

theorem isCommand_hallStopReleased (heldMs : Nat) : IsCommand (execHallStopReleased heldMs) := by
  refine isCommand_handled _ (fun s => ?_)
  dsimp only
  (repeat' split) <;> simp

theorem isCommand_receive (addr : Nat) (marker : Bool) (m : FieldMsg) :
    IsCommand (handled fun s => s.receive addr marker m) :=
  isCommand_handled _ (fun s => calm_receive (.refl s) _ _ _)

theorem isCommand_fieldAnswerTimeout : IsCommand execFieldAnswerTimeout := by
  refine isCommand_handled _ (fun s => ?_)
  split
  · split <;> simp
  · simp

/-- A damaged frame may refuse a pass-through request (R200), and so is no calm change. -/
theorem isCommand_damagedFieldFrame : IsCommand execDamagedFieldFrame := by
  refine .inl ⟨_, rfl, fun s => ?_⟩
  unfold State.receiveDamaged
  split
  · exact Steady.refl s
  · split
    · exact (calm_failCommand (.refl s) _ _).toSteady
    · exact ((calm_failReport _).2 (by simp)).toSteady
    · exact ⟨rfl, id, id, id, id⟩

theorem isCommand_contourTimerExpiry (k : TableId) : IsCommand (execContourTimerExpiry k) := by
  refine isCommand_handled _ (fun s => ?_)
  split <;> simp

theorem isCommand_echoTimerExpiry : IsCommand execEchoTimerExpiry := by
  refine isCommand_handled _ (fun s => ?_)
  split
  · split <;> simp
  · simp

theorem isCommand_phaseTimerExpiry (c : CraneId) : IsCommand (execPhaseTimerExpiry c) := by
  refine isCommand_handled _ (fun s => ?_)
  split
  · split <;> simp
  · simp

theorem isCommand_settleExpiry (z : Zone) : IsCommand (execSettleExpiry z) := by
  refine isCommand_handled _ (fun s => ?_)
  split
  · split <;> simp
  · simp

theorem isCommand_waitListWalk : IsCommand execWaitListWalk := by
  refine isCommand_handled _ (fun s => ?_)
  split
  · rw [calm_walk]
    exact Calm.of_same rfl rfl rfl (fun _ => ⟨rfl, rfl⟩) rfl rfl
  · simp

theorem isCommand_dispatchAttempt : IsCommand execDispatchAttempt := by
  refine isCommand_handled _ (fun s => ?_)
  split
  · rw [calm_push]
    exact Calm.of_same rfl rfl rfl (fun _ => ⟨rfl, rfl⟩) rfl rfl
  · simp

/-! ## Every command -/

/-- The commands of the reset pin, which act whether the pin is held or not (R204). -/
def ofPin : Instr → Bool
  | .powerOnReset .. => true
  | .resetPinAsserted => true
  | _ => false

/-- The commands that a frame of the receive buffer stands for (R216). -/
def ofHost (i : Instr) : Bool :=
  (encodeBody i).isSome || match i with
    | .requestUnknownKind _ => true
    | .passThroughFrame _ => true
    | _ => false

/-- The requests whose reply waits on the field line (R181, R198, R200). -/
def repliesLater : Instr → Bool
  | .craneResume _ => true
  | .unitRestore _ => true
  | .passThroughFrame _ => true
  | _ => false

/-- What a command is: a request with or without work, a request whose reply waits, or an event. -/
inductive Shape (i : Instr) (e : State → Host.Outcome State Fault Refusal) : Prop
  | request (h : IsRequest i e)
  | ask (h : IsAsk i e)
  | waits (h : repliesLater i = true) (hc : IsCommand e)
  | event (h : ofHost i = false) (hc : IsCommand e)

theorem exec_shape (i : Instr) (hi : ofPin i = false) : Shape i (exec i) := by
  cases i with
  | powerOnReset => cases hi
  | resetPinAsserted => cases hi
  | hallClockTick => exact .event rfl isCommand_hallClockTick
  | hallStopAsserted heldMs => exact .event rfl (isCommand_hallStopAsserted heldMs)
  | hallStopReleased heldMs => exact .event rfl (isCommand_hallStopReleased heldMs)
  | beaconPatternToggle output => exact .event rfl (isCommand_beaconPatternToggle output)
  | hostFrameReceived chars => exact .event rfl (isCommand_host _)
  | hostCharGapTimeout gap => exact .event rfl (isCommand_hostCharGapTimeout gap)
  | hostCharBadStopBit => exact .event rfl (isCommand_host _)
  | transmitterFree => exact .event rfl (isCommand_host _)
  | requestUnknownKind frame => exact .ask (isAsk_requestUnknownKind frame)
  | hallMap entries => exact .request (isRequest_hallMap entries)
  | mapQuery => exact .ask isAsk_mapQuery
  | stockRegister body => exact .request (isRequest_stockRegister body)
  | stockRemove id => exact .request (isRequest_stockRemove id)
  | stockQuarantine id => exact .ask (isAsk_stockQuarantine id)
  | stockRelease id => exact .request (isRequest_stockRelease id)
  | stockQuery id => exact .ask (isAsk_stockQuery id)
  | stockList filter arg start => exact .ask (isAsk_stockList filter arg start)
  | slotQuery zone slot => exact .ask (isAsk_slotQuery zone slot)
  | allocQuery => exact .ask isAsk_allocQuery
  | allocProbe req => exact .ask (isAsk_allocProbe req)
  | accountRead => exact .ask isAsk_accountRead
  | accountClear => exact .ask isAsk_accountClear
  | progBegin table n => exact .ask (isAsk_progBegin table n)
  | progSteps table first count data => exact .ask (isAsk_progSteps table first count data)
  | progCommit table => exact .request (isRequest_progCommit table)
  | progDiscard table => exact .ask (isAsk_progDiscard table)
  | progStart table => exact .request (isRequest_progStart table)
  | progAbort table => exact .request (isRequest_progAbort table)
  | progQuery table => exact .ask (isAsk_progQuery table)
  | progRead table slot first count => exact .ask (isAsk_progRead table slot first count)
  | tableResume table mode => exact .request (isRequest_tableResume table mode)
  | tableConfig table params => exact .request (isRequest_tableConfig table params)
  | wearReset table => exact .request (isRequest_wearReset table)
  | wearQuery table => exact .ask (isAsk_wearQuery table)
  | markDefine body => exact .ask (isAsk_markDefine body)
  | markDelete id => exact .ask (isAsk_markDelete id)
  | markQuery id => exact .ask (isAsk_markQuery id)
  | markSerialSet id digits => exact .ask (isAsk_markSerialSet id digits)
  | composerQuery => exact .ask isAsk_composerQuery
  | flagSet flag => exact .request (isRequest_flagSet flag)
  | flagClear flag => exact .ask (isAsk_flagClear flag)
  | flagQuery flag => exact .ask (isAsk_flagQuery flag)
  | guardQuery zone => exact .ask (isAsk_guardQuery zone)
  | movePost body => exact .request (isRequest_movePost body)
  | craneResume crane => exact .waits rfl (isCommand_craneResume crane)
  | moveAcceptWeight move => exact .request (isRequest_moveAcceptWeight move)
  | moveAbort move => exact .request (isRequest_moveAbort move)
  | moveRetry move => exact .request (isRequest_moveRetry move)
  | moveRecover move loc zone slot => exact .request (isRequest_moveRecover move loc zone slot)
  | moveCancel move => exact .request (isRequest_moveCancel move)
  | moveQuery move => exact .ask (isAsk_moveQuery move)
  | craneStatus crane => exact .ask (isAsk_craneStatus crane)
  | craneConfig crane params => exact .ask (isAsk_craneConfig crane params)
  | unitRestore unit => exact .waits rfl (isCommand_unitRestore unit)
  | unitMaintain unit => exact .request (isRequest_unitMaintain unit)
  | unitQuery unit => exact .ask (isAsk_unitQuery unit)
  | hallRun => exact .request isRequest_hallRun
  | hallContinue => exact .request isRequest_hallContinue
  | hallReset => exact .request isRequest_hallReset
  | faultRead clear => exact .request (isRequest_faultRead clear)
  | beaconSet output source arg pattern => exact .request (isRequest_beaconSet output source arg pattern)
  | beaconQuery => exact .ask isAsk_beaconQuery
  | hallStatus => exact .ask isAsk_hallStatus
  | reportStatus bits => exact .ask (isAsk_reportStatus bits)
  | reportMask bits => exact .ask (isAsk_reportMask bits)
  | reportForce cls => exact .ask (isAsk_reportForce cls)
  | passThroughFrame frame => exact .waits rfl (isCommand_passThroughFrame frame)
  | passThroughAnswer unit kind body => exact .event rfl (isCommand_passThroughAnswer unit kind body)
  | passThroughTimeout damaged => exact .event rfl (isCommand_passThroughTimeout damaged)
  | lineCommandTurn => exact .event rfl isCommand_lineCommandTurn
  | lineOfferTurn => exact .event rfl isCommand_lineOfferTurn
  | ack => exact .event rfl (isCommand_receive _ _ _)
  | nak => exact .event rfl (isCommand_receive _ _ _)
  | status => exact .event rfl (isCommand_receive _ _ _)
  | fieldAnswerTimeout => exact .event rfl isCommand_fieldAnswerTimeout
  | damagedFieldFrame => exact .event rfl isCommand_damagedFieldFrame
  | empty => exact .event rfl (isCommand_receive _ _ _)
  | offerWindowTimeout => exact .event rfl isCommand_offerWindowTimeout
  | contourDone => exact .event rfl (isCommand_receive _ _ _)
  | contourFault => exact .event rfl (isCommand_receive _ _ _)
  | contourTimerExpiry table => exact .event rfl (isCommand_contourTimerExpiry table)
  | frameEcho => exact .event rfl (isCommand_receive _ _ _)
  | frameReject => exact .event rfl (isCommand_receive _ _ _)
  | echoTimerExpiry => exact .event rfl isCommand_echoTimerExpiry
  | arrived => exact .event rfl (isCommand_receive _ _ _)
  | picked => exact .event rfl (isCommand_receive _ _ _)
  | placed => exact .event rfl (isCommand_receive _ _ _)
  | craneFault => exact .event rfl (isCommand_receive _ _ _)
  | phaseTimerExpiry crane => exact .event rfl (isCommand_phaseTimerExpiry crane)
  | settleExpiry zone => exact .event rfl (isCommand_settleExpiry zone)
  | waitListWalk => exact .event rfl isCommand_waitListWalk
  | dispatchAttempt => exact .event rfl isCommand_dispatchAttempt

theorem exec_isCommand (i : Instr) (hi : ofPin i = false) : IsCommand (exec i) := by
  cases exec_shape i hi with
  | request h => exact h.command
  | ask h => exact h.command
  | waits _ hc => exact hc
  | event _ hc => exact hc

/-! ## The power-on state -/

section PowerOn

variable (straps : Straps) (stop : Bool) (pending : List Instr)

theorem powerOn_guardsOk : (State.powerOn straps stop pending).guardsOk := guard_replicate rfl

theorem powerOn_flagsOk : (State.powerOn straps stop pending).flagsOk := flag_replicate rfl

/-- A table right after power-on is IDLE or ABSENT (R66). -/
theorem powerOn_tab (k : TableId) :
    (State.powerOn straps stop pending).tab k = TableRec.initial (decide (k.val ≤ straps.tsel.val)) := by
  match k with
  | 0 => rfl
  | 1 => rfl
  | 2 => rfl
  | 3 => rfl

theorem powerOn_wearOk : (State.powerOn straps stop pending).wearOk := by
  intro k
  rw [powerOn_tab]
  have hfresh : WearState.ok = wearStateOf 0 TableCfg.initial.wearLimit := by decide
  exact ⟨Nat.zero_le _, Nat.zero_lt_succ _, hfresh⟩

theorem powerOn_stockNumbersOk : (State.powerOn straps stop pending).stockNumbersOk :=
  ⟨List.nodup_nil, List.nodup_nil, Nat.zero_le _, nofun, (by decide : 1 ≤ 1 ∧ 1 ≤ 4294967295),
    (by decide : 61440 ≤ 61440 ∧ 61440 ≤ 65535)⟩

theorem powerOn_beacon (n : OutputId) : (State.powerOn straps stop pending).beacon n = .initial :=
  Vector.getElem_replicate _

theorem powerOn_between : (State.powerOn straps stop pending).between := by
  refine ⟨rfl, rfl, .inr ?_⟩
  rw [followBeacons_eq_iff]
  intro n
  rw [powerOn_beacon]
  rfl

end PowerOn

/-! ## Every step -/

theorem resetPin_steady (s : State) : ∃ t, exec .resetPinAsserted s = .next t ∧ Steady s t :=
  ⟨_, rfl, rfl, id, id, id, id⟩

theorem powerOnReset_steady (a b c d e : Bool) (s : State) :
    ∃ t, exec (.powerOnReset a b c d e) s = .next t ∧ Steady s t :=
  ⟨_, rfl, rfl, fun _ => powerOn_guardsOk _ _ _, fun _ => powerOn_flagsOk _ _ _, fun _ => powerOn_wearOk _ _ _,
    fun _ => powerOn_stockNumbersOk _ _ _⟩

/-- Every command answers a next state, and what it does is steady. -/
theorem exec_steady (i : Instr) (s : State) : ∃ t, exec i s = .next t ∧ Steady s t := by
  cases hi : ofPin i with
  | true =>
    cases i with
    | powerOnReset a b c d e => exact powerOnReset_steady a b c d e s
    | resetPinAsserted => exact resetPin_steady s
    | _ => cases hi
  | false =>
    obtain ⟨f, hf, hsteady⟩ | ⟨f, hf, hsteady⟩ := exec_isCommand i hi
    · rw [hf]
      unfold handled
      split
      · exact ⟨s, rfl, Steady.refl s⟩
      · exact ⟨_, rfl, (hsteady s).trans (calm_settle (.refl _)).toSteady⟩
    · rw [hf]
      unfold plain
      split
      · exact ⟨s, rfl, Steady.refl s⟩
      · exact ⟨_, rfl, (hsteady s).1⟩

/-- Settles O3: every command is steady, and so keeps the waiting commands. -/
theorem everyCommandGoesOn : Obligations.EveryCommandGoesOn := by
  intro i s
  obtain ⟨t, ht, hsteady⟩ := exec_steady i s
  exact ⟨t, ht, hsteady.pending⟩

/-- Settles O1: a step is its command taken from the queue. -/
theorem stepTakesTheFront : Obligations.StepTakesTheFront := by
  intro c rest s
  rfl

/-- What a step keeps of guards, flags, wear records and stock numbers: a millisecond changes none of them, and a command is steady. -/
theorem step_keeps {s t : State} (h : step s = .next t) :
    (s.guardsOk → t.guardsOk) ∧ (s.flagsOk → t.flagsOk) ∧ (s.wearOk → t.wearOk)
      ∧ (s.stockNumbersOk → t.stockNumbersOk) := by
  unfold step at h
  split at h
  · cases h
    unfold State.tick
    split
    · exact ⟨id, id, id, id⟩
    · exact ⟨id, id, id, id⟩
  next c rest _ =>
    obtain ⟨t', ht', hsteady⟩ := exec_steady c { s with pending := rest }
    cases ht'.symm.trans h
    exact ⟨hsteady.guards, hsteady.flags, hsteady.wear, hsteady.numbers⟩

/-- Settles O7. -/
theorem stepsKeepGuardCombinations : Obligations.StepsKeepGuardCombinations :=
  fun _ _ hs h => (step_keeps h).1 hs

/-- Settles O8. -/
theorem stepsKeepSetFlagsFree : Obligations.StepsKeepSetFlagsFree :=
  fun _ _ hs h => (step_keeps h).2.1 hs

/-- Settles O9. -/
theorem stepsKeepWearSound : Obligations.StepsKeepWearSound :=
  fun _ _ hs h => (step_keeps h).2.2.1 hs

/-! ## Whole handlings -/

/-- A handling leaves nothing owed, whatever it did. -/
theorem settle_between (s : State) : s.settle.between := by
  refine ⟨?_, ?_, .inr (followBeacons_idem _)⟩
  · rw [State.settle, followBeacons_work]
    unfold State.takeChanged
    split <;> exact drain_work _ s
  · rw [State.settle, followBeacons_stock]
    exact takeChanged_clean _

/-- The passing of time is seen by no beacon that follows its source. -/
theorem between_passTime (s : State) (hs : s.between) (now : Nat) (pending : List Instr) :
    ({ s with now := now, pending := pending } : State).between := by
  obtain ⟨hwork, hchanged, hbeacons⟩ := hs
  refine ⟨hwork, hchanged, hbeacons.imp id (fun hfollow => ?_)⟩
  have hsources := sourceHolds_congr s ({ s with now := now, pending := pending }) rfl rfl rfl rfl rfl rfl rfl
  rw [followBeacons_eq_iff] at hfollow ⊢
  intro n
  have hn := hfollow n
  rw [hsources]
  rw [Beacon.follow_eq_self_iff] at hn ⊢
  exact hn

theorem tick_between (s : State) (hs : s.between) : s.tick.between := by
  unfold State.tick
  split
  · exact hs
  · exact between_passTime s hs _ _

/-- Settles O11: an idle step, the commands of the reset pin, whole handlings, and the commands that no beacon sees. -/
theorem stepsAreWholeHandlings : Obligations.StepsAreWholeHandlings := by
  intro s t hs h
  unfold step at h
  split at h
  · cases h
    exact tick_between s hs
  next i rest _ =>
    have htaken : ({ s with pending := rest } : State).between :=
      (Quiet.of_same rfl rfl rfl rfl rfl rfl rfl : Quiet s { s with pending := rest }).between hs
    generalize ({ s with pending := rest } : State) = v at h htaken
    cases hi : ofPin i with
    | true =>
      cases i with
      | powerOnReset => cases h; exact powerOn_between _ _ _
      | resetPinAsserted => cases h; exact ⟨htaken.1, htaken.2.1, .inl rfl⟩
      | _ => cases hi
    | false =>
      obtain ⟨f, hf, -⟩ | ⟨f, hf, hquiet⟩ := exec_isCommand i hi
      · rw [hf] at h
        unfold handled at h
        split at h
        · cases h; exact htaken
        · cases h; exact settle_between _
      · rw [hf] at h
        unfold plain at h
        split at h
        · cases h; exact htaken
        · cases h; exact (hquiet v).2 htaken

end Sys2Proof.Machine

/-! The reset pin (R204), refused requests (R216), the state after power-on, and what a millisecond brings. -/

namespace Sys2Proof.Machine

/-! ## The reset pin -/

/-- Settles O4: the pin's own command by what it writes, and every other one by its shape. -/
theorem resetPinHoldsThePart : Obligations.ResetPinHoldsThePart := by
  refine fun s => ⟨⟨_, rfl, fun n => Vector.getElem_map .., rfl⟩, fun hreset i hpin hpower => ?_⟩
  have hi : ofPin i = false := by
    cases i with
    | powerOnReset a b c d e => exact absurd rfl (hpower a b c d e)
    | resetPinAsserted => exact absurd rfl hpin
    | _ => rfl
  obtain ⟨f, hf, -⟩ | ⟨f, hf, -⟩ := exec_isCommand i hi
  · rw [hf]; exact handled_of_reset f s hreset
  · rw [hf]; exact plain_of_reset f s hreset

/-! ## Refused requests -/

section DecodedRequests

variable {i : Instr} {b : List Byte}

theorem body0_ofHost {j : Instr} (hj : ofHost j = true) (h : body0 j b = some i) : ofHost i = true := by
  unfold body0 at h
  split at h
  · cases h; exact hj
  · cases h

theorem body1_ofHost {f : Nat → Instr} (hf : ∀ a, ofHost (f a) = true) (h : body1 f b = some i) : ofHost i = true := by
  unfold body1 at h
  split at h
  · cases h; exact hf _
  · cases h

theorem body2_ofHost {f : Nat → Nat → Instr} (hf : ∀ a c, ofHost (f a c) = true) (h : body2 f b = some i) :
    ofHost i = true := by
  unfold body2 at h
  split at h
  · cases h; exact hf _ _
  · cases h

theorem bodyId_ofHost {f : Nat → Instr} (hf : ∀ a, ofHost (f a) = true) (h : bodyId f b = some i) : ofHost i = true := by
  unfold bodyId at h
  split at h
  · cases h; exact hf _
  · cases h

theorem body4_ofHost {f : Nat → Nat → Nat → Nat → Instr} (hf : ∀ a c d e, ofHost (f a c d e) = true)
    (h : body4 f b = some i) : ofHost i = true := by
  unfold body4 at h
  split at h
  · cases h; exact hf _ _ _ _
  · cases h

theorem bits1_ofHost {f : Byte → Instr} (hf : ∀ a, ofHost (f a) = true) (h : bits1 f b = some i) : ofHost i = true := by
  unfold bits1 at h
  split at h
  · cases h; exact hf _
  · cases h

/-- Every body that can be read spells a request. -/
theorem bodyOf_ofHost {n : Nat} {d : List Byte → Option Instr} (hd : bodyOf n = some d) (h : d b = some i) :
    ofHost i = true := by
  unfold bodyOf at hd
  split at hd <;> cases hd
  all_goals first
    | exact body0_ofHost rfl h
    | exact body1_ofHost (fun _ => rfl) h
    | exact body2_ofHost (fun _ _ => rfl) h
    | exact bodyId_ofHost (fun _ => rfl) h
    | exact body4_ofHost (fun _ _ _ _ => rfl) h
    | exact bits1_ofHost (fun _ => rfl) h
    | skip
  case h_1 => dsimp only at h; split at h <;> cases h; rfl
  case h_3 => unfold stockBody at h; split at h <;> cases h; rfl
  case h_8 => dsimp only at h; split at h <;> cases h; rfl
  case h_11 => unfold probeBody at h; split at h <;> cases h; rfl
  case h_15 =>
    unfold stepsBody at h
    split at h
    · split at h <;> cases h; rfl
    · cases h
  case h_23 => unfold tableBody at h; split at h <;> cases h; rfl
  case h_26 =>
    unfold markBody at h
    split at h
    · unfold markTail at h; split at h <;> cases h; rfl
    · cases h
  case h_29 => unfold serialBody at h; split at h <;> cases h; rfl
  case h_35 => unfold postBody at h; split at h <;> cases h; rfl
  case h_44 => unfold craneBody at h; split at h <;> cases h; rfl

/-- A frame stands for nothing but a request. -/
theorem decodeFrame_ofHost (f : HostFrame) : ofHost (decodeFrame f) = true := by
  unfold decodeFrame
  split
  · rfl
  · split
    · rfl
    · cases hd : bodyOf f.kind.toNat with
      | none => rfl
      | some d =>
        cases hb : d f.body with
        | none => simp [hb]; rfl
        | some i => simp [hb]; exact bodyOf_ofHost hd hb

end DecodedRequests

/-- The head of the receive buffer is what an asked command is decoded from, and it is not yet taken. -/
theorem asked_iff {s : State} {i : Instr} :
    s.asked i = true ↔ s.host.hand = .untaken ∧ ∃ f rest, s.host.buffer = f :: rest ∧ decodeFrame f = i := by
  unfold State.asked
  split
  next f rest hhand hbuf => simp [hhand, hbuf]
  next hnone =>
    constructor
    · intro h; cases h
    · rintro ⟨hhand, f, rest, hbuf, -⟩
      exact (hnone f rest hhand hbuf).elim

theorem ofHost_of_takes {s : State} {i : Instr} (h : s.takes i) : ofHost i = true := by
  obtain ⟨-, f, rest, -, rfl⟩ := asked_iff.1 h.2
  exact decodeFrame_ofHost f

/-- A refusal, or no refusal at all: of a state with an untaken request that stays calm. -/
theorem Answers.refused {s t : State} (h : Answers s t) (hs : s.host.hand = .untaken) {c : Code} {x : Extra}
    (ht : t.host.hand = .ready (.refuse c x)) : t = s.setHand (.ready (.refuse c x)) := by
  obtain ⟨c', x', rfl⟩ | hcalm := h
  · cases ht; rfl
  · have hfree := hcalm.hand (by rw [hs]; rfl)
    rw [ht] at hfree
    cases hfree

/-- A refusal that needs no work is the same at the end of its handling. -/
theorem Answers.settle {s t : State} (h : Answers s t) (hs : s.settled) : Answers s t.settle := by
  obtain ⟨c, x, rfl⟩ | hcalm := h
  · rw [settle_setHand s hs]; exact .inl ⟨c, x, rfl⟩
  · exact .inr (calm_settle hcalm)

/-- Settles O6, by the shape of the request: what a request answers is a refusal alone or no refusal. -/
theorem refusedRequestsChangeNothing : Obligations.RefusedRequestsChangeNothing := by
  intro i s t c x htakes hset hcrane hunit hexec hrefuse
  obtain ⟨huntaken, -⟩ := asked_iff.1 htakes.2
  have hhost := ofHost_of_takes htakes
  have hi : ofPin i = false := by
    cases i with
    | powerOnReset => cases hhost
    | resetPinAsserted => cases hhost
    | _ => rfl
  cases exec_shape i hi with
  | request h =>
    obtain ⟨f, hf, hanswers⟩ := h
    rw [hf, request_of_takes i f s htakes] at hexec
    cases hexec
    exact ((hanswers s).settle hset).refused huntaken hrefuse
  | ask h =>
    obtain ⟨f, hf, hanswers⟩ := h
    rw [hf, ask_of_takes i f s htakes] at hexec
    cases hexec
    exact (hanswers s).1.refused huntaken hrefuse
  | waits h hc =>
    cases i with
    | craneResume n => exact absurd rfl (hcrane n)
    | unitRestore n => exact absurd rfl (hunit n)
    | passThroughFrame frame =>
      obtain ⟨f, hf, hcases⟩ := passThroughFrame_cases frame
      have harm : exec (.passThroughFrame frame) s = execPassThroughFrame frame s := by rfl
      rw [harm, hf, ask_of_takes _ f s htakes] at hexec
      cases hexec
      obtain ⟨c', hc'⟩ | ⟨u, p, hp⟩ := hcases s
      · rw [hc'] at hrefuse ⊢
        cases hrefuse
        rfl
      · rw [hp] at hrefuse
        cases hrefuse
    | _ => cases h
  | event h hc => rw [hhost] at h; cases h

/-! ## The state after power-on -/

section PowerOn

variable (straps : Straps) (stop : Bool) (pending : List Instr)

theorem powerOn_crane (c : CraneId) :
    (State.powerOn straps stop pending).crane c = CraneRec.initial (decide (c = 0) || straps.csel) := by
  match c with
  | 0 => rfl
  | 1 => rfl

theorem powerOn_unit_waiting (u : UnitId) : ((State.powerOn straps stop pending).unit u).waiting = [] := by
  match u with
  | 0 => rfl
  | 1 => rfl
  | 2 => rfl
  | 3 => rfl
  | 4 => rfl
  | 5 => rfl

theorem powerOn_lock (r : SlotRef) : (State.powerOn straps stop pending).lock r = { pick := none, deliveries := 0 } := by
  have hrow : (Vector.replicate 16 (Vector.replicate 16 ({ pick := none, deliveries := 0 } : SlotLock))).get r.zone
      = Vector.replicate 16 { pick := none, deliveries := 0 } := Vector.getElem_replicate _
  show ((Vector.replicate 16 (Vector.replicate 16 ({ pick := none, deliveries := 0 } : SlotLock))).get r.zone).get r.slot = _
  rw [hrow]
  exact Vector.getElem_replicate _

theorem powerOn_withinBounds : (State.powerOn straps stop pending).withinBounds := by
  refine ⟨(by decide : 1 ≤ 48), Nat.zero_le _, fun u => ?_, Nat.zero_le _⟩
  rw [powerOn_unit_waiting]
  exact Nat.zero_le _

/-- No record, no move and no claim: nothing to disagree. -/
theorem powerOn_stockSound : (State.powerOn straps stop pending).stockSound := by
  refine ⟨rfl, powerOn_stockNumbersOk _ _ _, fun z n => ⟨?_, ?_⟩, rfl, List.nodup_nil, Nat.zero_le _, (by decide : 1 ≤ 1 ∧ 1 ≤ 255), rfl,
    fun c => ?_, fun k => ?_, rfl, fun _ => ⟨rfl, rfl⟩⟩
  · unfold State.slotOk
    rw [powerOn_lock, show (State.powerOn straps stop pending).slotRecs (⟨z, n⟩ : SlotRef) = [] from rfl]
    simp
  · unfold State.lockOk
    rw [powerOn_lock]
    rfl
  · unfold State.craneOk
    rw [powerOn_crane]
    rfl
  · unfold State.claimOk
    rw [powerOn_tab]
    exact Bool.or_true _

end PowerOn

/-- Settles O12. -/
theorem powerOnMeetsTheInvariants : Obligations.PowerOnMeetsTheInvariants := by
  intro straps stop pending
  exact ⟨powerOn_guardsOk _ _ _, powerOn_flagsOk _ _ _, powerOn_wearOk _ _ _, powerOn_withinBounds _ _ _,
    powerOn_between _ _ _, powerOn_stockSound _ _ _⟩

/-! ## What a millisecond brings -/

theorem mem_rotation (u v : UnitId) : v ∈ rotation u := by
  revert u v
  decide

theorem cmdUnit_eq_none_iff (s : State) : s.cmdUnit = none ↔ ∀ v, s.cmdReady v = false := by
  simp [State.cmdUnit, mem_rotation]

theorem offerUnit_eq_none_iff (s : State) : s.offerUnit = none ↔ ∀ v, s.offerReady v = false := by
  simp [State.offerUnit, mem_rotation]

theorem cmdUnit_isSome_iff (s : State) : s.cmdUnit.isSome = true ↔ ∃ v, s.cmdReady v = true := by
  simp [State.cmdUnit, mem_rotation]

theorem offerUnit_isSome_iff (s : State) : s.offerUnit.isSome = true ↔ ∃ v, s.offerReady v = true := by
  simp [State.offerUnit, mem_rotation]

theorem due_iff (s : State) (timer : Option Nat) : s.due timer = true ↔ ∃ e, timer = some e ∧ e ≤ s.now := by
  simp [State.due, Option.any_eq_true]

section Due

variable (s : State) (i : Instr)

theorem mem_dueTimers : i ∈ s.dueTimers ↔
    (i = .hallClockTick ∧ s.hall.nextSecond ≤ s.now)
    ∨ (∃ n e, i = .beaconPatternToggle n ∧ (s.beacon n).toggle = some e ∧ e ≤ s.now)
    ∨ (∃ t e, i = .contourTimerExpiry t ∧ (s.tab t).timer = some e ∧ e ≤ s.now)
    ∨ (∃ c e, i = .phaseTimerExpiry c ∧ (s.crane c).timer = some e ∧ e ≤ s.now)
    ∨ (∃ c e, i = .echoTimerExpiry ∧ s.composer.ctx = some c ∧ c.timer = some e ∧ e ≤ s.now)
    ∨ (∃ z e, i = .settleExpiry z ∧ (s.guard z).state = .settling e ∧ e ≤ s.now) := by
  have hsecond : i ∈ (if s.hall.nextSecond ≤ s.now then [Instr.hallClockTick] else []) ↔
      i = .hallClockTick ∧ s.hall.nextSecond ≤ s.now := by split <;> simp_all
  have hecho : i ∈ (if s.due (s.composer.ctx.bind MarkCtx.timer) = true then [Instr.echoTimerExpiry] else []) ↔
      ∃ c e, i = .echoTimerExpiry ∧ s.composer.ctx = some c ∧ c.timer = some e ∧ e ≤ s.now := by
    cases s.composer.ctx with
    | none => simp [State.due]
    | some c => cases htimer : c.timer <;> simp [State.due, htimer, and_comm]
  have hsettle (z : Zone) : (match (s.guard z).state with
      | .settling e => decide (e ≤ s.now)
      | _ => false) = true ↔ ∃ e, (s.guard z).state = .settling e ∧ e ≤ s.now := by
    cases (s.guard z).state <;> simp
  rw [State.dueTimers]
  simp only [List.mem_append, hsecond, hecho, List.mem_map, List.mem_filter, List.mem_finRange, true_and, or_assoc]
  simp only [due_iff]
  refine or_congr Iff.rfl (or_congr ?_ (or_congr ?_ (or_congr ?_ (or_congr Iff.rfl ?_))))
  · exact ⟨fun ⟨n, ⟨e, he⟩, hi⟩ => ⟨n, e, hi.symm, he⟩, fun ⟨n, e, hi, he⟩ => ⟨n, ⟨e, he⟩, hi.symm⟩⟩
  · exact ⟨fun ⟨n, ⟨e, he⟩, hi⟩ => ⟨n, e, hi.symm, he⟩, fun ⟨n, e, hi, he⟩ => ⟨n, ⟨e, he⟩, hi.symm⟩⟩
  · exact ⟨fun ⟨n, ⟨e, he⟩, hi⟩ => ⟨n, e, hi.symm, he⟩, fun ⟨n, e, hi, he⟩ => ⟨n, ⟨e, he⟩, hi.symm⟩⟩
  · constructor
    · rintro ⟨z, ⟨-, hz⟩, rfl⟩
      obtain ⟨e, he⟩ := (hsettle z).1 hz
      exact ⟨z, e, rfl, he⟩
    · rintro ⟨z, e, rfl, he⟩
      exact ⟨z, ⟨List.mem_finRange z, (hsettle z).2 ⟨e, he⟩⟩, rfl⟩

theorem mem_dueEvents : i ∈ s.dueEvents ↔
    (i = .waitListWalk ∧ 0 < s.stock.events) ∨ (i = .dispatchAttempt ∧ 0 < s.moves.attempts) := by
  have hone (j : Instr) (n : Nat) : i ∈ (if 0 < n then [j] else []) ↔ i = j ∧ 0 < n := by split <;> simp_all
  rw [State.dueEvents, List.mem_append, hone, hone]

theorem mem_dueLine : i ∈ s.dueLine ↔
    (∃ w, s.line.window = some w ∧ w.expiry ≤ s.now ∧ (i = .fieldAnswerTimeout ∧ w.kind = .command
        ∨ i = .offerWindowTimeout ∧ w.kind = .offer ∨ i = .passThroughTimeout false ∧ w.kind = .pass))
    ∨ (i = .lineCommandTurn ∧ s.line.window = none ∧ (∃ v, s.cmdReady v = true)
        ∧ (s.line.turn = .command ∨ ∀ v, s.offerReady v = false))
    ∨ (i = .lineOfferTurn ∧ s.line.window = none ∧ (∃ v, s.offerReady v = true)
        ∧ (s.line.turn = .offer ∨ ∀ v, s.cmdReady v = false)) := by
  rw [← cmdUnit_isSome_iff, ← offerUnit_isSome_iff, ← cmdUnit_eq_none_iff, ← offerUnit_eq_none_iff]
  unfold State.dueLine
  cases hw : s.line.window with
  | some w =>
    by_cases hnow : s.now < w.expiry
    · simp [hnow, Nat.not_le.2 hnow]
    · cases hk : w.kind <;> simp [hnow, Nat.not_lt.1 hnow, hk]
  | none =>
    cases ht : s.line.turn <;> cases hc : s.cmdUnit <;> cases ho : s.offerUnit <;> simp

theorem mem_dueHost : i ∈ s.dueHost ↔
    (∃ f rest, s.host.hand = .untaken ∧ s.host.buffer = f :: rest ∧ i = decodeFrame f)
    ∨ (i = .transmitterFree ∧ ((∃ r, s.host.hand = .ready r) ∨ s.host.reports ≠ [])) := by
  have hreports : i ∈ (if s.host.reports = [] then [] else [Instr.transmitterFree]) ↔
      i = .transmitterFree ∧ s.host.reports ≠ [] := by split <;> simp_all
  unfold State.dueHost
  cases hh : s.host.hand with
  | untaken => cases hb : s.host.buffer <;> simp [hreports]
  | waiting d => simp [hreports]
  | ready r => simp

/-- What is due, command by command. -/
theorem mem_dueCommands : i ∈ s.dueCommands ↔
    i ∈ s.dueTimers ∨ i ∈ s.dueEvents ∨ i ∈ s.dueLine ∨ i ∈ s.dueHost := by
  simp only [State.dueCommands, List.mem_append, or_assoc]

end Due

/-- Settles O2: what joins the queue is what each of the four lists of due commands holds. -/
theorem idleStepPassesAMillisecond : Obligations.IdleStepPassesAMillisecond := by
  intro s hidle
  have hstep : step s = .next s.tick := by simp only [step, hidle]
  refine ⟨fun hrun => ?_, fun hreset => by rw [hstep, State.tick, if_pos hreset]⟩
  let s' : State := { s with now := s.now + 1 }
  have hin := fun i => (mem_dueCommands s' i).2
  have htimer := fun i h => hin i (.inl ((mem_dueTimers s' i).2 h))
  have hevent := fun i h => hin i (.inr (.inl ((mem_dueEvents s' i).2 h)))
  have hline := fun i h => hin i (.inr (.inr (.inl ((mem_dueLine s' i).2 h))))
  have hhost := fun i h => hin i (.inr (.inr (.inr ((mem_dueHost s' i).2 h))))
  refine ⟨s'.dueCommands, ?_, ?_, ?_, ?_, ?_, ?_, ?_, ?_, ?_, ?_, ?_, ?_, ?_, ?_, fun i hi => ?_⟩
  · rw [hstep, State.tick, if_neg (by simp [hrun])]
    simp [s', hidle]
  · exact fun h => htimer _ (.inl ⟨rfl, h⟩)
  · exact fun n e he h => htimer _ (.inr (.inl ⟨n, e, rfl, he, h⟩))
  · exact fun t e he h => htimer _ (.inr (.inr (.inl ⟨t, e, rfl, he, h⟩)))
  · exact fun c e he h => htimer _ (.inr (.inr (.inr (.inl ⟨c, e, rfl, he, h⟩))))
  · exact fun c e hc he h => htimer _ (.inr (.inr (.inr (.inr (.inl ⟨c, e, rfl, hc, he, h⟩)))))
  · exact fun z e he h => htimer _ (.inr (.inr (.inr (.inr (.inr ⟨z, e, rfl, he, h⟩)))))
  · exact fun h => hevent _ (.inl ⟨rfl, h⟩)
  · exact fun h => hevent _ (.inr ⟨rfl, h⟩)
  · exact fun w hw h => ⟨fun hk => hline _ (.inl ⟨w, hw, h, .inl ⟨rfl, hk⟩⟩),
      fun hk => hline _ (.inl ⟨w, hw, h, .inr (.inl ⟨rfl, hk⟩)⟩), fun hk => hline _ (.inl ⟨w, hw, h, .inr (.inr ⟨rfl, hk⟩)⟩)⟩
  · exact fun hw hv ht => hline _ (.inr (.inl ⟨rfl, hw, hv, ht⟩))
  · exact fun hw hv ht => hline _ (.inr (.inr ⟨rfl, hw, hv, ht⟩))
  · exact fun f rest hhand hbuf => hhost _ (.inl ⟨f, rest, hhand, hbuf, rfl⟩)
  · exact fun h => hhost _ (.inr ⟨rfl, h⟩)
  · have hall := (mem_dueCommands s' i).1 hi
    rw [mem_dueTimers, mem_dueEvents, mem_dueLine, mem_dueHost] at hall
    simp only [or_assoc] at hall
    exact hall

end Sys2Proof.Machine

/-! The host line's receiver and transmitter (R215 to R219), the frames that stand for no request (R216), the hall clock
(R205) and the first-fault record (R211). -/

namespace Sys2Proof.Machine

/-! ## The arms -/

theorem exec_hostFrameReceived (cs : List Byte) (s : State) : exec (.hostFrameReceived cs) s = execHostFrameReceived cs s := by
  rfl

theorem exec_hostCharGapTimeout (gap : Nat) (s : State) : exec (.hostCharGapTimeout gap) s = execHostCharGapTimeout gap s := by
  rfl

theorem exec_hostCharBadStopBit (s : State) : exec .hostCharBadStopBit s = execHostCharBadStopBit s := by rfl

theorem exec_transmitterFree (s : State) : exec .transmitterFree s = execTransmitterFree s := by rfl

theorem exec_requestUnknownKind (f : HostFrame) (s : State) :
    exec (.requestUnknownKind f) s = execRequestUnknownKind f s := by rfl

theorem exec_hallClockTick (s : State) : exec .hallClockTick s = execHallClockTick s := by rfl

/-! ## The receiver (R215) -/

/-- More rounds than characters: the number of rounds makes no difference. -/
theorem HostLine.scan_fuel (n m : Nat) (h : HostLine) (cs : List Byte) (hn : cs.length < n) (hm : cs.length < m) :
    h.scan n cs = h.scan m cs := by
  induction n generalizing m h cs with
  | zero => exact absurd hn (Nat.not_lt_zero _)
  | succ n ih =>
    obtain ⟨m, rfl⟩ := Nat.exists_eq_succ_of_ne_zero (Nat.ne_of_gt (Nat.lt_of_le_of_lt (Nat.zero_le _) hm))
    cases cs with
    | nil => rfl
    | cons c cs =>
      have hn' : cs.length < n := Nat.lt_of_succ_lt_succ hn
      have hm' : cs.length < m := Nat.lt_of_succ_lt_succ hm
      simp only [HostLine.scan]
      split
      · exact ih m h cs hn' hm'
      · cases cs with
        | nil => rfl
        | cons len rest =>
          simp only [List.length_cons] at hn' hm'
          have hdrop : (rest.drop (len.toNat + 2)).length ≤ rest.length := by simp
          dsimp only
          split
          · exact ih m h rest (by omega) (by omega)
          · split
            · rfl
            · split
              · exact ih m _ _ (by omega) (by omega)
              · exact ih m h _ (by simpa using hn') (by simpa using hm')

/-- The receiver does not look at the characters it had collected: they are part of what it scans. -/
theorem HostLine.scan_collected (n : Nat) (h : HostLine) (x cs : List Byte) :
    ({ h with collected := x } : HostLine).scan n cs = h.scan n cs := by
  have htake (h : HostLine) (f : HostFrame) :
      ({ h with collected := x } : HostLine).takeFrame f = { h.takeFrame f with collected := x } := by
    unfold HostLine.takeFrame
    split <;> rfl
  induction n generalizing h cs with
  | zero => rfl
  | succ n ih =>
    cases cs with
    | nil => rfl
    | cons c cs =>
      simp only [HostLine.scan]
      split
      · exact ih h cs
      · cases cs with
        | nil => rfl
        | cons len rest =>
          dsimp only
          split
          · exact ih h rest
          · split
            · rfl
            · split
              · cases frameOf len.toNat rest with
                | none => exact ih h _
                | some f => dsimp only; rw [htake]; exact ih _ _
              · exact ih h _

/-- A CRC that has arrived is not changed by the characters that follow it. -/
theorem crcAgrees_append (n : Nat) (cs b : List Byte) (h : n + 3 ≤ cs.length) :
    crcAgrees n (cs ++ b) = crcAgrees n cs := by
  have hdrop : (cs ++ b).drop (n + 1) = cs.drop (n + 1) ++ b := List.drop_append_of_le_length (by omega)
  have htake : (cs ++ b).take (n + 1) = cs.take (n + 1) := List.take_append_of_le_length (by omega)
  have hlen : 2 ≤ (cs.drop (n + 1)).length := by rw [List.length_drop]; omega
  unfold crcAgrees
  rw [hdrop, htake]
  obtain ⟨hi, lo, rest, hcrc⟩ : ∃ hi lo rest, cs.drop (n + 1) = hi :: lo :: rest := by
    match hcs : cs.drop (n + 1), hlen with
    | hi :: lo :: rest, _ => exact ⟨hi, lo, rest, rfl⟩
  rw [hcrc]
  rfl

theorem frameOf_append (n : Nat) (cs b : List Byte) (hn : 3 ≤ n) (h : n ≤ cs.length) : frameOf n (cs ++ b) = frameOf n cs := by
  match cs, h with
  | u :: k :: t :: rest, h =>
    have htake : (rest ++ b).take (n - 3) = rest.take (n - 3) :=
      List.take_append_of_le_length (by simp only [List.length_cons] at h; omega)
    simp only [frameOf, List.cons_append, htake]
  | [_, _], h => simp only [List.length_cons, List.length_nil] at h; omega
  | [_], h => simp only [List.length_cons, List.length_nil] at h; omega
  | [], h => simp only [List.length_nil] at h; omega

/-- Scanning on from what is left over is scanning it all at once. -/
theorem HostLine.scan_append (n m k : Nat) (h : HostLine) (cs b : List Byte) (hn : cs.length < n)
    (hm : (cs ++ b).length < m) (hk : ((h.scan n cs).collected ++ b).length < k) :
    (h.scan n cs).scan k ((h.scan n cs).collected ++ b) = h.scan m (cs ++ b) := by
  induction n generalizing m h cs with
  | zero => exact absurd hn (Nat.not_lt_zero _)
  | succ n ih =>
    have hstay (l : List Byte) (hl : h.scan (n + 1) cs = { h with collected := l }) (heq : l = cs) :
        (h.scan (n + 1) cs).scan k ((h.scan (n + 1) cs).collected ++ b) = h.scan m (cs ++ b) := by
      rw [hl] at hk ⊢
      subst heq
      rw [HostLine.scan_collected]
      exact HostLine.scan_fuel _ _ _ _ hk hm
    obtain ⟨m, rfl⟩ := Nat.exists_eq_succ_of_ne_zero (Nat.ne_of_gt (Nat.lt_of_le_of_lt (Nat.zero_le _) hm))
    cases cs with
    | nil => exact hstay [] rfl rfl
    | cons c cs =>
      have hn' : cs.length < n := Nat.lt_of_succ_lt_succ hn
      have hm' : (cs ++ b).length < m := Nat.lt_of_succ_lt_succ hm
      by_cases hc : c = startByte
      · subst hc
        cases cs with
        | nil => exact hstay [startByte] (by simp [HostLine.scan]) rfl
        | cons len rest =>
          simp only [List.length_cons, List.cons_append] at hn' hm'
          by_cases hlen : len.toNat < 3 ∨ 250 < len.toNat
          · have hone (j : Nat) (l : List Byte) : h.scan (j + 1) (startByte :: len :: l) = h.scan j l := by
              simp [HostLine.scan, hlen]
            rw [hone] at hk ⊢
            rw [List.cons_append, List.cons_append, hone]
            exact ih m h rest (by omega) (by omega) hk
          · by_cases hwhole : rest.length < len.toNat + 2
            · exact hstay (startByte :: len :: rest) (by simp [HostLine.scan, hlen, hwhole]) rfl
            · have hcrc : crcAgrees len.toNat (len :: rest ++ b) = crcAgrees len.toNat (len :: rest) :=
                crcAgrees_append _ _ _ (by simp only [List.length_cons]; omega)
              have hwhole' : ¬ (rest ++ b).length < len.toNat + 2 := by simp only [List.length_append]; omega
              cases hagree : crcAgrees len.toNat (len :: rest) with
              | true =>
                have hframe : frameOf len.toNat (rest ++ b) = frameOf len.toNat rest :=
                  frameOf_append _ _ _ (by omega) (by omega)
                have hdrop : (rest ++ b).drop (len.toNat + 2) = rest.drop (len.toNat + 2) ++ b :=
                  List.drop_append_of_le_length (by omega)
                have hone (j : Nat) (l : List Byte) (hl : ¬ l.length < len.toNat + 2)
                    (ha : crcAgrees len.toNat (len :: l) = true) :
                    h.scan (j + 1) (startByte :: len :: l) = (match frameOf len.toNat l with
                      | some f => h.takeFrame f
                      | none => h).scan j (l.drop (len.toNat + 2)) := by
                  simp [HostLine.scan, hlen, hl, ha] <;> rfl
                rw [hone _ _ hwhole hagree] at hk ⊢
                rw [List.cons_append, List.cons_append, hone _ _ hwhole' (by rw [← List.cons_append, hcrc, hagree]), hframe,
                  hdrop]
                exact ih m _ _ (by simp only [List.length_drop]; omega)
                  (by simp only [List.length_append, List.length_drop] at hm' ⊢; omega) hk
              | false =>
                have hone (j : Nat) (l : List Byte) (hl : ¬ l.length < len.toNat + 2)
                    (ha : crcAgrees len.toNat (len :: l) = false) :
                    h.scan (j + 1) (startByte :: len :: l) = h.scan j (len :: l) := by
                  simp [HostLine.scan, hlen, hl, ha]
                rw [hone _ _ hwhole hagree] at hk ⊢
                rw [List.cons_append, List.cons_append, hone _ _ hwhole' (by rw [← List.cons_append, hcrc, hagree])]
                exact ih m h (len :: rest) (by simpa using hn') (by simpa using hm') hk
      · have hone (j : Nat) (l : List Byte) : h.scan (j + 1) (c :: l) = h.scan j l := by simp [HostLine.scan, hc]
        rw [hone] at hk ⊢
        rw [List.cons_append, hone]
        exact ih m h cs hn' hm' hk

/-- How the characters are cut into arrivals makes no difference. -/
theorem HostLine.feed_append (h : HostLine) (a b : List Byte) : h.feed (a ++ b) = (h.feed a).feed b := by
  unfold HostLine.feed
  rw [← List.append_assoc]
  exact (HostLine.scan_append _ _ _ h _ b (Nat.lt_succ_self _) (Nat.lt_succ_self _) (Nat.lt_succ_self _)).symm

/-- The two bytes of a 16-bit number, put together. -/
theorem byteOf_append_byteOf (v : BitVec 16) : byteOf (v.toNat / 256) ++ byteOf v.toNat = v := by
  apply BitVec.eq_of_toNat_eq
  have hv := v.isLt
  rw [BitVec.toNat_append]
  simp only [byteOf, BitVec.toNat_ofNat]
  rw [← Nat.shiftLeft_add_eq_or_of_lt (by omega), Nat.shiftLeft_eq]
  omega

/-- The characters of a whole frame bring the receiver back to HUNTING with the frame taken. -/
theorem HostLine.feed_hostChars (h : HostLine) (f : HostFrame) (hwf : f.wf = true) (hunting : h.collected = []) :
    h.feed (hostChars f) = { h.takeFrame f with collected := [] } := by
  have hbody : f.body.length ≤ 247 := of_decide_eq_true hwf
  have hlen : (byteOf (f.body.length + 3)).toNat = f.body.length + 3 := by
    rw [byteOf, BitVec.toNat_ofNat]
    exact Nat.mod_eq_of_lt (by omega)
  let covered : List Byte := [byteOf (f.body.length + 3), f.unit, f.kind, f.tag] ++ f.body
  let crc := crc16 covered
  let tail : List Byte := [byteOf (crc.toNat / 256), byteOf crc.toNat]
  have hcovered : covered.length = f.body.length + 4 := by simp [covered]
  have hagree : crcAgrees (f.body.length + 3) (covered ++ tail) = true := by
    have hdrop : (covered ++ tail).drop (f.body.length + 3 + 1) = tail := by
      rw [← hcovered]; exact List.drop_left
    have htake : (covered ++ tail).take (f.body.length + 3 + 1) = covered := by
      rw [← hcovered]; exact List.take_left
    simp only [crcAgrees, hdrop, htake, tail]
    exact decide_eq_true (byteOf_append_byteOf crc).symm
  have hframe : frameOf (f.body.length + 3) (f.unit :: f.kind :: f.tag :: f.body ++ tail) = some f := by
    simp [frameOf]
  have hdone : (f.unit :: f.kind :: f.tag :: f.body ++ tail).drop (f.body.length + 3 + 2) = [] := by
    simp [tail]
  have hscan (j : Nat) : h.scan (j + 2) (startByte :: byteOf (f.body.length + 3)
      :: (f.unit :: f.kind :: f.tag :: f.body ++ tail)) = { h.takeFrame f with collected := [] } := by
    have hwhole : ¬ (f.unit :: f.kind :: f.tag :: f.body ++ tail).length < f.body.length + 3 + 2 := by simp [tail]
    have hall : crcAgrees (f.body.length + 3)
        (byteOf (f.body.length + 3) :: (f.unit :: f.kind :: f.tag :: f.body ++ tail)) = true := hagree
    have hrange : ¬ (f.body.length + 3 < 3 ∨ 250 < f.body.length + 3) := by omega
    rw [HostLine.scan]
    simp only [ne_eq, not_true_eq_false, if_false, hlen]
    rw [if_neg hrange, if_neg hwhole, if_pos hall, hframe, hdone]
    rfl
  have hchars : hostChars f = startByte :: byteOf (f.body.length + 3) :: (f.unit :: f.kind :: f.tag :: f.body ++ tail) := rfl
  rw [HostLine.feed, hunting, List.nil_append]
  have hfuel : (hostChars f).length + 1 = (hostChars f).length - 1 + 2 := by rw [hchars]; simp
  rw [hfuel]
  exact hscan _

theorem exec_hostFrameReceived_of_running {s : State} (cs : List Byte) (h : s.hall.inReset = false) :
    exec (.hostFrameReceived cs) s = .next { s with host := s.host.feed cs } :=
  (exec_hostFrameReceived cs s).trans (plain_of_running _ s h)

/-- Settles O13: a whole frame, the cut of the characters, and the abandoned frame. -/
theorem receiverTakesIntactFrames : Obligations.ReceiverTakesIntactFrames := by
  refine ⟨fun f s hwf hrun hunting => ?_, fun a b s => ?_, fun gap s hrun => ⟨fun hgap => ?_, fun hgap => ?_, ?_⟩⟩
  · rw [exec_hostFrameReceived_of_running _ hrun, HostLine.feed_hostChars _ f hwf hunting]
    unfold HostLine.takeFrame
    rw [Config.maxFrames]
    split <;> simp only [← hunting]
  · cases hrun : s.hall.inReset with
    | true =>
      have hexec (cs : List Byte) : exec (.hostFrameReceived cs) s = .next s :=
        (exec_hostFrameReceived cs s).trans (plain_of_reset _ s hrun)
      exact ⟨s, hexec a, by rw [hexec, hexec]⟩
    | false =>
      refine ⟨_, exec_hostFrameReceived_of_running a hrun, ?_⟩
      rw [exec_hostFrameReceived_of_running _ hrun, HostLine.feed_append]
      exact (exec_hostFrameReceived_of_running (s := { s with host := s.host.feed a }) b hrun).symm
  · rw [exec_hostCharGapTimeout, execHostCharGapTimeout, plain_of_running _ s hrun, Config.charGapMs, if_pos hgap]
    rfl
  · rw [exec_hostCharGapTimeout, execHostCharGapTimeout, plain_of_running _ s hrun, Config.charGapMs, if_neg (Nat.not_lt.2 hgap)]
  · exact (exec_hostCharBadStopBit s).trans (plain_of_running _ s hrun)

/-! ## The transmitter and the reports (R216 to R219) -/

theorem exec_transmitterFree_of_running {s : State} (h : s.hall.inReset = false) :
    exec .transmitterFree s = .next { s with host := s.host.sendNext } :=
  (exec_transmitterFree s).trans (plain_of_running _ s h)

theorem HostLine.sendNext_of_reply {h : HostLine} {r : Reply} {f : HostFrame} {rest : List HostFrame}
    (hhand : h.hand = .ready r) (hbuf : h.buffer = f :: rest) :
    h.sendNext = { h with sending := some (.reply f r), buffer := rest, hand := .untaken } := by
  simp only [HostLine.sendNext, hhand, hbuf]

theorem HostLine.sendNext_of_report {h : HostLine} {r : Report} {rest : List Report}
    (hhand : ∀ y, h.hand ≠ .ready y) (hreports : h.reports = r :: rest) :
    h.sendNext = { h with sending := some (.report r), reports := rest } := by
  unfold HostLine.sendNext
  split
  next y hy => exact absurd hy (hhand y)
  next => rw [hreports]

theorem HostLine.sendNext_of_none {h : HostLine} (hhand : ∀ y, h.hand ≠ .ready y) (hreports : h.reports = []) :
    h.sendNext = { h with sending := none } := by
  unfold HostLine.sendNext
  split
  next y hy => exact absurd hy (hhand y)
  next => rw [hreports]

/-- Settles O14, by what the transmitter finds. -/
theorem transmitterSendsReplyThenReports : Obligations.TransmitterSendsReplyThenReports := by
  intro s hrun
  refine ⟨fun r f rest hhand hbuf => ?_, fun r rest hhand hreports => ?_, fun hhand hreports => ?_⟩
  · have hexec := exec_transmitterFree_of_running hrun
    rw [HostLine.sendNext_of_reply hhand hbuf] at hexec
    refine ⟨hexec, fun t ht => ?_⟩
    rw [hexec] at ht
    cases ht
    cases r <;> rfl
  · have hexec := exec_transmitterFree_of_running hrun
    rw [HostLine.sendNext_of_report hhand hreports] at hexec
    refine ⟨hexec, fun t ht => ?_⟩
    rw [hexec] at ht
    cases ht
    rfl
  · rw [exec_transmitterFree_of_running hrun, HostLine.sendNext_of_none hhand hreports]

/-- Settles O15: `HostLine.report_eq_of_bit` for the state. -/
theorem reportsAreHandedOver : Obligations.ReportsAreHandedOver := by
  intro r s
  rw [State.raise, HostLine.report_eq_of_bit]

/-! ## Frames that stand for no request (R216) -/

theorem bodyOf_isSome_iff (n : Nat) : (bodyOf n).isSome = true ↔ 1 ≤ n ∧ n ≤ 57 := by
  have hsmall : ∀ n < 58, (bodyOf n).isSome = decide (1 ≤ n) := by decide
  by_cases hn : n < 58
  · rw [hsmall n hn, decide_eq_true_iff]
    exact ⟨fun h => ⟨h, by omega⟩, And.left⟩
  · have hnone : bodyOf n = none := by
      unfold bodyOf
      split <;> first | omega | rfl
    rw [hnone]
    exact ⟨nofun, fun h => by omega⟩

/-- Settles O18, by the two tests before the length. -/
theorem unreadableRequestsAreRefused : Obligations.UnreadableRequestsAreRefused := by
  intro f s htakes
  have hexec := (exec_requestUnknownKind f s).trans (ask_of_takes _ _ s htakes)
  have hne (h : f.unit ≠ 15) : f.unit.toNat ≠ 15 := fun hn => h (BitVec.eq_of_toNat_eq hn)
  have hunit (h : f.unit = 15) : ¬ f.unit.toNat ≠ 15 := by simp [h]
  have hkind := bodyOf_isSome_iff f.kind.toNat
  refine ⟨fun h => ?_, fun h hk => ?_, fun h hlo hhi => ?_⟩
  · rw [hexec, if_pos (hne h)]
  · have hnone : (bodyOf f.kind.toNat).isNone = true := by
      rw [Option.isNone_iff_eq_none, ← Option.not_isSome_iff_eq_none, hkind]
      omega
    rw [hexec, if_neg (hunit h), if_pos hnone]
  · have hsome : ¬ (bodyOf f.kind.toNat).isNone = true := by
      rw [Option.isNone_iff_eq_none, ← Option.not_isSome_iff_eq_none, hkind]
      omega
    rw [hexec, if_neg (hunit h), if_neg hsome]

/-! ## The hall clock and the first-fault record (R205, R211) -/

/-- Settles O20. -/
theorem hallClockCountsSeconds : Obligations.HallClockCountsSeconds := by
  intro s hrun
  have hexec := (exec_hallClockTick s).trans (plain_of_running _ s hrun)
  refine ⟨fun hdue => ⟨_, hexec.trans (by rw [if_pos hdue]), ?_, rfl⟩, fun hearly => ?_⟩
  · have hclock := s.hall.clock.isLt
    show (s.hall.clock + 1).toNat = _
    rw [BitVec.toNat_add]
    show (s.hall.clock.toNat + 1) % 2 ^ 32 = _
    split <;> omega
  · rw [hexec, if_neg (Nat.not_le.2 hearly)]

/-- Settles O26, by the fault the record holds. -/
theorem firstFaultRecordKeepsTheMostSerious : Obligations.FirstFaultRecordKeepsTheMostSerious := by
  intro cls src code index s
  refine ⟨fun hheld => ?_, fun g hheld hrank => ?_, fun g hheld hrank => ?_⟩
  · simp only [State.capture, hheld]
  · simp only [State.capture, hheld, hrank, if_true]
  · have hlater : min (s.hall.fault.later + 1) 255
        = if s.hall.fault.later < 255 then s.hall.fault.later + 1 else 255 := by split <;> omega
    simp only [State.capture, hheld, Nat.not_lt.2 hrank, if_false, Config.lastLater, hlater]

/-! ## Power-on reset (R203, R204) -/

/-- Settles O19: the state after power-on, record by record. -/
theorem powerOnResetStartsTheHall : Obligations.PowerOnResetStartsTheHall := by
  intro tsel1 tsel0 csel rsel stop s
  refine ⟨_, rfl, rfl, rfl, rfl, rfl, ?_, rfl, rfl, fun n => powerOn_beacon _ _ _ n, fun z => Vector.getElem_replicate _,
    rfl, rfl, rfl, rfl, fun r => powerOn_lock _ _ _ r, rfl, fun k => ?_, rfl, fun f => Vector.getElem_replicate _,
    fun z => Vector.getElem_replicate _, rfl, rfl, rfl, rfl, fun c => ?_, fun k => ?_, fun c => ?_, rfl, rfl, rfl, rfl, rfl,
    rfl, rfl, rfl, rfl, rfl, rfl, rfl, rfl, rfl, rfl⟩
  · cases tsel1 <;> cases tsel0 <;> rfl
  · rw [powerOn_tab]
    simp only [TableRec.initial, TableCfg.initial, decide_eq_true_eq]
    rfl
  · rw [powerOn_crane]
    simp only [CraneRec.initial, CraneCfg.initial, Bool.or_eq_true, decide_eq_true_eq]
  · match k with
    | 0 => cases tsel1 <;> cases tsel0 <;> rfl
    | 1 => cases tsel1 <;> cases tsel0 <;> rfl
    | 2 => cases tsel1 <;> cases tsel0 <;> rfl
    | 3 => cases tsel1 <;> cases tsel0 <;> rfl
  · match c with
    | 0 => cases csel <;> rfl
    | 1 => cases csel <;> rfl

end Sys2Proof.Machine

/-! The rules of a handling that does several pieces of work, of a command handed to a unit (R192), and of the numbers in
requests; with them the hall stop input (R206, R207), HALL_RUN (R208) and the beacons (R213, R214). -/

namespace Sys2Proof.Machine

/-! ## A handling, piece by piece -/

/-- Within `k` pieces of work one state comes to another. -/
def State.comesTo (k : Nat) (s t : State) : Prop := ∀ n, drain (n + k) s = drain n t

theorem State.comesTo_refl (s : State) : s.comesTo 0 s := fun _ => rfl

theorem State.comesTo.trans {j k : Nat} {s t u : State} (hst : s.comesTo j t) (htu : t.comesTo k u) : s.comesTo (k + j) u := by
  intro n
  rw [← Nat.add_assoc, hst, htu]

/-- The first piece of work that is due. -/
theorem comesTo_of_task {s t : State} {x : Task} {ts : List Task} (hwork : s.work = x :: ts)
    (hrun : runTask x { s with work := ts } = t) : s.comesTo 1 t := by
  intro n
  rw [drain_of_task _ _ _ _ hwork, hrun]

@[simp] theorem State.push_nil (s : State) : s.push [] = s := rfl

/-- A piece of work that has been put in front is done next. -/
theorem comesTo_push {s t : State} (x : Task) (ts : List Task) (hrun : runTask x (s.push ts) = t) :
    (s.push (x :: ts)).comesTo 1 t :=
  comesTo_of_task (ts := ts ++ s.work) rfl hrun

/-- The end of a handling whose work comes to an end within the bound. -/
theorem settle_of_comesTo {k : Nat} {s t : State} (h : s.comesTo k t) (hk : k ≤ Config.handlingBound) (hdone : t.work = []) :
    s.settle = t.takeChanged.followBeacons := by
  obtain ⟨n, hn⟩ := Nat.exists_eq_add_of_le' hk
  rw [State.settle, hn, h, drain_of_done _ _ hdone]

/-- The same where no stock-change event is owed. -/
theorem settle_of_comesTo_clean {k : Nat} {s t : State} (h : s.comesTo k t) (hk : k ≤ Config.handlingBound)
    (hdone : t.work = []) (hclean : t.stock.changed = false) : s.settle = t.followBeacons := by
  rw [settle_of_comesTo h hk hdone, takeChanged_of_clean _ hclean]

/-- A settled state needs no handling. -/
theorem settle_of_settled {s : State} (h : s.settled) : s.settle = s := by
  obtain ⟨hwork, hclean, hfollow⟩ := h
  rw [settle_of_done s hwork hclean, hfollow]

/-! ## What the beacons of a handling's end leave alone -/

@[simp] theorem followBeacons_alloc (s : State) : s.followBeacons.alloc = s.alloc := rfl
@[simp] theorem followBeacons_tables (s : State) : s.followBeacons.tables = s.tables := rfl
@[simp] theorem followBeacons_composer (s : State) : s.followBeacons.composer = s.composer := rfl
@[simp] theorem followBeacons_flags (s : State) : s.followBeacons.flags = s.flags := rfl
@[simp] theorem followBeacons_guards (s : State) : s.followBeacons.guards = s.guards := rfl
@[simp] theorem followBeacons_moves (s : State) : s.followBeacons.moves = s.moves := rfl
@[simp] theorem followBeacons_line (s : State) : s.followBeacons.line = s.line := rfl
@[simp] theorem followBeacons_hostLine (s : State) : s.followBeacons.host = s.host := rfl
@[simp] theorem followBeacons_now (s : State) : s.followBeacons.now = s.now := rfl
@[simp] theorem followBeacons_pending (s : State) : s.followBeacons.pending = s.pending := rfl
@[simp] theorem followBeacons_mode (s : State) : s.followBeacons.hall.mode = s.hall.mode := rfl
@[simp] theorem followBeacons_stop (s : State) : s.followBeacons.hall.stop = s.hall.stop := rfl
@[simp] theorem followBeacons_fault (s : State) : s.followBeacons.hall.fault = s.hall.fault := rfl
@[simp] theorem followBeacons_clock (s : State) : s.followBeacons.hall.clock = s.hall.clock := rfl
@[simp] theorem followBeacons_straps (s : State) : s.followBeacons.hall.straps = s.hall.straps := rfl
@[simp] theorem followBeacons_tab (s : State) : s.followBeacons.tab = s.tab := rfl
@[simp] theorem followBeacons_crane (s : State) : s.followBeacons.crane = s.crane := rfl
@[simp] theorem followBeacons_unit (s : State) : s.followBeacons.unit = s.unit := rfl
@[simp] theorem followBeacons_guard (s : State) : s.followBeacons.guard = s.guard := rfl
@[simp] theorem followBeacons_flag (s : State) : s.followBeacons.flag = s.flag := rfl
@[simp] theorem followBeacons_lock (s : State) : s.followBeacons.lock = s.lock := rfl
@[simp] theorem followBeacons_move (s : State) : s.followBeacons.move = s.move := rfl

/-! ## Numbers in requests -/

theorem numbered_eq_some_iff {n lo v : Nat} {i : Fin n} : numbered n lo v = some i ↔ v = lo + i.val := by
  unfold numbered
  split
  next h =>
    rw [Option.some_inj, Fin.ext_iff]
    dsimp only
    omega
  next h =>
    have hi := i.isLt
    exact ⟨nofun, fun hv => absurd (by omega) h⟩

theorem numbered_eq_none_iff {n lo v : Nat} : numbered n lo v = none ↔ v < lo ∨ lo + n ≤ v := by
  unfold numbered
  split
  next h => exact ⟨nofun, fun hv => by omega⟩
  next h => exact ⟨fun _ => by omega, fun _ => rfl⟩

@[simp] theorem numbered_add (n lo : Nat) (i : Fin n) : numbered n lo (lo + i.val) = some i := numbered_eq_some_iff.2 rfl

@[simp] theorem numbered_val (n : Nat) (i : Fin n) : numbered n 0 i.val = some i := numbered_eq_some_iff.2 (by omega)

@[simp] theorem numbered_val_add_one (n : Nat) (i : Fin n) : numbered n 1 (i.val + 1) = some i :=
  numbered_eq_some_iff.2 (by omega)

/-! ## A command handed to a unit (R192) -/

section Handing

variable (s : State) (u : UnitId) (cmd : FieldCmd) (who : Sender)

/-- The handing of a command changes the line, and may set off the NAK of a full waiting list: nothing else. -/
theorem handTo_frame : ∃ l w, s.handTo u cmd who = { s with line := l, work := w } := by
  unfold State.handTo
  dsimp only
  split
  · split
    · exact ⟨_, s.work, rfl⟩
    · exact ⟨_, _, rfl⟩
  · exact ⟨_, s.work, rfl⟩

@[simp] theorem State.handTo_hall : (s.handTo u cmd who).hall = s.hall := by
  obtain ⟨l, w, h⟩ := handTo_frame s u cmd who
  rw [h]
@[simp] theorem State.handTo_stock : (s.handTo u cmd who).stock = s.stock := by
  obtain ⟨l, w, h⟩ := handTo_frame s u cmd who
  rw [h]
@[simp] theorem State.handTo_alloc : (s.handTo u cmd who).alloc = s.alloc := by
  obtain ⟨l, w, h⟩ := handTo_frame s u cmd who
  rw [h]
@[simp] theorem State.handTo_tables : (s.handTo u cmd who).tables = s.tables := by
  obtain ⟨l, w, h⟩ := handTo_frame s u cmd who
  rw [h]
@[simp] theorem State.handTo_composer : (s.handTo u cmd who).composer = s.composer := by
  obtain ⟨l, w, h⟩ := handTo_frame s u cmd who
  rw [h]
@[simp] theorem State.handTo_flags : (s.handTo u cmd who).flags = s.flags := by
  obtain ⟨l, w, h⟩ := handTo_frame s u cmd who
  rw [h]
@[simp] theorem State.handTo_guards : (s.handTo u cmd who).guards = s.guards := by
  obtain ⟨l, w, h⟩ := handTo_frame s u cmd who
  rw [h]
@[simp] theorem State.handTo_moves : (s.handTo u cmd who).moves = s.moves := by
  obtain ⟨l, w, h⟩ := handTo_frame s u cmd who
  rw [h]
@[simp] theorem State.handTo_host : (s.handTo u cmd who).host = s.host := by
  obtain ⟨l, w, h⟩ := handTo_frame s u cmd who
  rw [h]
@[simp] theorem State.handTo_now : (s.handTo u cmd who).now = s.now := by
  obtain ⟨l, w, h⟩ := handTo_frame s u cmd who
  rw [h]
@[simp] theorem State.handTo_pending : (s.handTo u cmd who).pending = s.pending := by
  obtain ⟨l, w, h⟩ := handTo_frame s u cmd who
  rw [h]
@[simp] theorem State.handTo_tab : (s.handTo u cmd who).tab = s.tab := by
  funext t; rw [State.tab, State.handTo_tables]; rfl
@[simp] theorem State.handTo_crane : (s.handTo u cmd who).crane = s.crane := by
  funext c; rw [State.crane, State.handTo_moves]; rfl

/-- The command as the line takes it. -/
def State.handing : Handed := { cmd := cmd, sender := who, hand := s.line.nextHand }

/-- The state with the number of the next handing stepped on. -/
def State.countHand : State := { s with line := { s.line with nextHand := s.line.nextHand + 1 } }

variable {s u cmd who}

/-- A handing that is not taken is discarded. -/
theorem handTo_of_not_takes (h : (s.unit u).takes who = false) : s.handTo u cmd who = s.countHand := by
  have htakes : ¬ (s.countHand.unit u).takes who = true := by rw [Bool.not_eq_true]; exact h
  unfold State.handTo
  dsimp only
  exact if_neg htakes

theorem handTo_of_take {r : UnitRec} (h : (s.unit u).takes who = true)
    (hr : (s.unit u).take (s.handing cmd who) = some r) : s.handTo u cmd who = s.countHand.modUnit u (fun _ => r) := by
  have htake : (s.countHand.unit u).take { cmd := cmd, sender := who, hand := s.line.nextHand } = some r := hr
  unfold State.handTo
  dsimp only
  refine (if_pos h).trans ?_
  change (match (s.countHand.unit u).take { cmd := cmd, sender := who, hand := s.line.nextHand } with
    | some r => s.countHand.modUnit u (fun _ => r)
    | none => s.countHand.push [.answered u { cmd := cmd, sender := who, hand := s.line.nextHand } .nak]) = _
  rw [htake]

/-- With no command outstanding the command becomes outstanding, DUE at attempt 1. -/
theorem handTo_of_free (h : (s.unit u).takes who = true) (hfree : (s.unit u).out = none) :
    s.handTo u cmd who = s.countHand.modUnit u (fun r => { r with
      out := some { cmd := s.handing cmd who, attempt := 1, inFlight := false } }) := by
  rw [handTo_of_take (r := { s.unit u with out := some { cmd := s.handing cmd who, attempt := 1, inFlight := false } }) h
    (by rw [UnitRec.take, hfree])]
  rfl

theorem UnitRec.takes_of_online {r : UnitRec} (h : r.link = .online) (who : Sender) : r.takes who = true := by
  simp [UnitRec.takes, h]

end Handing

/-! ## The hall stop input (R206, R207) -/

theorem exec_hallStopAsserted (ms : Nat) (s : State) : exec (.hallStopAsserted ms) s = execHallStopAsserted ms s := by rfl

theorem exec_hallStopReleased (ms : Nat) (s : State) : exec (.hallStopReleased ms) s = execHallStopReleased ms s := by rfl

section StopInput

variable {s : State} {ms : Nat} (hrun : s.hall.inReset = false) (hset : s.settled)
include hrun hset

theorem exec_hallStopAsserted_of_filtered (h : ms < 10 ∨ s.hall.stop = true) : exec (.hallStopAsserted ms) s = .next s := by
  rw [exec_hallStopAsserted, execHallStopAsserted, handled_of_running _ s hrun, if_pos (by simpa using h), settle_of_settled hset]

theorem exec_hallStopReleased_of_filtered (h : ms < 10 ∨ s.hall.stop = false) : exec (.hallStopReleased ms) s = .next s := by
  rw [exec_hallStopReleased, execHallStopReleased, handled_of_running _ s hrun, if_pos (by simpa using h), settle_of_settled hset]

theorem exec_hallStopAsserted_in_setup (hms : 10 ≤ ms) (hstop : s.hall.stop = false) (hmode : s.hall.mode = .setup) :
    exec (.hallStopAsserted ms) s = .next ({ s with hall := { s.hall with stop := true } } : State).followBeacons := by
  rw [exec_hallStopAsserted, execHallStopAsserted, handled_of_running _ s hrun, if_neg (by simp [hstop, hms]), if_pos hmode]
  exact congrArg _ (settle_of_hall_host s hset _ s.host)

omit hrun hset in
/-- With an empty mark queue the composer takes no table. -/
theorem settle_serveHead {t : State} (hwork : t.work = []) (hclean : t.stock.changed = false) (hqueue : t.composer.queue = []) :
    (t.push [.serveHead]).settle = t.followBeacons := by
  have hserve : runTask .serveHead t = t := by
    rw [runTask, runServeHead, hqueue]
    split <;> rfl
  exact settle_of_comesTo_clean (comesTo_push _ [] hserve) (by decide) hwork hclean

theorem exec_hallStopReleased_of_idle (hms : 10 ≤ ms) (hstop : s.hall.stop = true) (hqueue : s.composer.queue = []) :
    exec (.hallStopReleased ms) s = .next (if s.hall.mode = .setup then
        ({ s with hall := { s.hall with stop := false } } : State).followBeacons
      else ((({ s with hall := { s.hall with stop := false } } : State).raise
          (.hallMode s.hall.mode false .stopReleased s.hall.clock)).followBeacons)) := by
  obtain ⟨hwork, hclean, -⟩ := hset
  rw [exec_hallStopReleased, execHallStopReleased, handled_of_running _ s hrun, if_neg (by simp [hstop, hms])]
  dsimp only
  split
  · exact congrArg _ (settle_serveHead (t := { s with hall := { s.hall with stop := false } }) hwork hclean hqueue)
  · exact congrArg _ (settle_serveHead (t := State.raise { s with hall := { s.hall with stop := false } }
      (.hallMode s.hall.mode false .stopReleased s.hall.clock)) hwork hclean hqueue)

end StopInput

/-- Settles O21, by what the filter and the stop state let through. -/
theorem hallStopInputIsFiltered : Obligations.HallStopInputIsFiltered := by
  refine ⟨fun ms s hrun hset => ⟨fun hms => ?_, fun hstop => ?_, fun hstop => ?_, fun hms hstop hmode => ?_⟩,
    fun ms s hrun hset hms hstop hqueue => ⟨fun hmode => ?_, fun hmode => ?_⟩⟩
  · exact ⟨exec_hallStopAsserted_of_filtered hrun hset (.inl hms), exec_hallStopReleased_of_filtered hrun hset (.inl hms)⟩
  · exact exec_hallStopAsserted_of_filtered hrun hset (.inr hstop)
  · exact exec_hallStopReleased_of_filtered hrun hset (.inr hstop)
  · exact exec_hallStopAsserted_in_setup hrun hset hms hstop hmode
  · rw [exec_hallStopReleased_of_idle hrun hset hms hstop hqueue, if_pos hmode]
  · rw [exec_hallStopReleased_of_idle hrun hset hms hstop hqueue, if_neg hmode]

/-! ## HALL_RUN (R208) -/

theorem exec_hallRun (s : State) : exec .hallRun s = execHallRun s := by rfl

/-- Whether HALL_RUN asks a crane for its status: a fitted crane whose unit is ONLINE. -/
def State.asks (s : State) (c : CraneId) : Prop := (s.unit (craneUnit c)).link = .online ∧ (s.crane c).state ≠ .absent

theorem queryCrane_of_not_asks {s : State} {c : CraneId} (h : ¬ s.asks c) : s.queryCrane c = s := if_neg h

theorem queryCrane_of_asks {s : State} {c : CraneId} (h : s.asks c) (hfree : (s.unit (craneUnit c)).out = none) :
    s.queryCrane c = (s.modCrane c (fun r => { r with awaited := true })).countHand.modUnit (craneUnit c) (fun r => { r with
      out := some { cmd := s.handing .statusQuery .cranes, attempt := 1, inFlight := false } }) := by
  have hquery : s.queryCrane c
      = (s.modCrane c (fun r => { r with awaited := true })).handTo (craneUnit c) .statusQuery .cranes := if_pos h
  rw [hquery]
  exact handTo_of_free (s := s.modCrane c _) (UnitRec.takes_of_online h.1 _) hfree

theorem craneUnit_inj {c d : CraneId} : craneUnit c = craneUnit d ↔ c = d := by
  revert c d
  decide

theorem craneUnit_ne_tableUnit (c : CraneId) (k : TableId) : tableUnit k ≠ craneUnit c := by
  revert c k
  decide

theorem tableUnit_inj {c d : TableId} : tableUnit c = tableUnit d ↔ c = d := by
  revert c d
  decide

section QueryCrane

variable {s : State} {c : CraneId} (hfree : (s.unit (craneUnit c)).out = none)
include hfree

/-- A query changes nothing but its crane and its unit, and the count of handings. -/
theorem queryCrane_frame : ∃ cs us n, s.queryCrane c = { s with
    moves := { s.moves with cranes := cs }, line := { s.line with units := us, nextHand := n } } := by
  by_cases h : s.asks c
  · rw [queryCrane_of_asks h hfree]; exact ⟨_, _, _, rfl⟩
  · rw [queryCrane_of_not_asks h]; exact ⟨s.moves.cranes, s.line.units, s.line.nextHand, rfl⟩

theorem queryCrane_other {d : CraneId} (hd : d ≠ c) :
    (s.queryCrane c).crane d = s.crane d ∧ (s.queryCrane c).unit (craneUnit d) = s.unit (craneUnit d) := by
  by_cases h : s.asks c
  · rw [queryCrane_of_asks h hfree]
    refine ⟨?_, ?_⟩
    · exact (State.crane_modCrane s c d (fun r => { r with awaited := true })).trans (if_neg hd)
    · rw [State.unit_modUnit, if_neg (fun e => hd (craneUnit_inj.1 e))]
      rfl
  · rw [queryCrane_of_not_asks h]
    exact ⟨rfl, rfl⟩

theorem queryCrane_table (k : TableId) : (s.queryCrane c).unit (tableUnit k) = s.unit (tableUnit k) := by
  by_cases h : s.asks c
  · rw [queryCrane_of_asks h hfree, State.unit_modUnit, if_neg (craneUnit_ne_tableUnit c k)]
    rfl
  · rw [queryCrane_of_not_asks h]

theorem queryCrane_same (h : s.asks c) : (s.queryCrane c).crane c = { s.crane c with awaited := true }
    ∧ ∃ n, (s.queryCrane c).unit (craneUnit c) = { s.unit (craneUnit c) with
        out := some { cmd := { cmd := .statusQuery, sender := .cranes, hand := n }, attempt := 1, inFlight := false } } := by
  rw [queryCrane_of_asks h hfree]
  exact ⟨State.crane_modCrane_same s c (fun r => { r with awaited := true }), s.line.nextHand, State.unit_modUnit_same _ _ _⟩

end QueryCrane

/-- What the two queries of HALL_RUN leave of a crane that is asked, of one that is not, and of the table units. -/
theorem queryCranes_spec {s : State} (hfree : ∀ c, (s.unit (craneUnit c)).out = none) :
    (∃ cs us n, (s.queryCrane 0).queryCrane 1 = { s with
      moves := { s.moves with cranes := cs }, line := { s.line with units := us, nextHand := n } })
    ∧ (∀ c, s.asks c → ((s.queryCrane 0).queryCrane 1).crane c = { s.crane c with awaited := true }
      ∧ ∃ n, ((s.queryCrane 0).queryCrane 1).unit (craneUnit c) = { s.unit (craneUnit c) with
          out := some { cmd := { cmd := .statusQuery, sender := .cranes, hand := n }, attempt := 1, inFlight := false } })
    ∧ (∀ c, ¬ s.asks c → ((s.queryCrane 0).queryCrane 1).crane c = s.crane c
      ∧ ((s.queryCrane 0).queryCrane 1).unit (craneUnit c) = s.unit (craneUnit c))
    ∧ (∀ k, ((s.queryCrane 0).queryCrane 1).unit (tableUnit k) = s.unit (tableUnit k)) := by
  obtain ⟨hcrane1, hunit1⟩ := queryCrane_other (hfree 0) (show (1 : CraneId) ≠ 0 by decide)
  have hfree1 : ((s.queryCrane 0).unit (craneUnit 1)).out = none := by rw [hunit1]; exact hfree 1
  obtain ⟨hcrane0, hunit0⟩ := queryCrane_other hfree1 (show (0 : CraneId) ≠ 1 by decide)
  have hasks1 : (s.queryCrane 0).asks 1 ↔ s.asks 1 := by rw [State.asks, State.asks, hcrane1, hunit1]
  refine ⟨?_, fun c h => ?_, fun c h => ?_, fun k => ?_⟩
  · obtain ⟨cs, us, n, h0⟩ := queryCrane_frame (hfree 0)
    obtain ⟨cs', us', n', h1⟩ := queryCrane_frame hfree1
    rw [h1, h0]
    exact ⟨cs', us', n', rfl⟩
  · match c, h with
    | 0, h =>
      rw [hcrane0, hunit0]
      exact queryCrane_same (hfree 0) h
    | 1, h =>
      rw [← hcrane1, ← hunit1]
      exact queryCrane_same hfree1 (hasks1.2 h)
  · match c, h with
    | 0, h => rw [hcrane0, hunit0, queryCrane_of_not_asks h]; exact ⟨rfl, rfl⟩
    | 1, h => rw [queryCrane_of_not_asks (fun h' => h (hasks1.1 h')), hcrane1, hunit1]; exact ⟨rfl, rfl⟩
  · rw [queryCrane_table hfree1, queryCrane_table (hfree 0)]

/-- Settles O23: the three refusals in their order, and the two queries of the accepted request. -/
theorem hallRunStartsTheHall : Obligations.HallRunStartsTheHall := by
  intro s htakes hset
  have hexec := (exec_hallRun s).trans (request_of_takes _ _ s htakes)
  dsimp only at hexec
  refine ⟨fun hmode => ?_, fun hmode hstop => ?_, fun hmode hstop hmap => ?_, fun hmode hstop hmap hfree => ?_⟩
  · rw [hexec, if_pos hmode, settle_refuse s hset]
  · rw [hexec, if_neg (Classical.not_not.2 hmode), if_pos hstop, settle_refuse s hset]
  · rw [hexec, if_neg (Classical.not_not.2 hmode), if_neg (by simp [hstop]), if_pos hmap, settle_setHand s hset]
  · rw [if_neg (Classical.not_not.2 hmode), if_neg (by simp [hstop]), if_neg (Classical.not_not.2 hmap)] at hexec
    obtain ⟨⟨cs, us, n, hframe⟩, hasked, hleft, htable⟩ := queryCranes_spec
      (s := (({ s with hall := { s.hall with mode := .run } } : State).raise
        (.hallMode .run s.hall.stop .hallRun s.hall.clock)).accept (.mapTest .valid)) hfree
    obtain ⟨hwork, hclean, -⟩ := hset
    have hdone := congrArg State.work hframe
    have hunchanged := congrArg (fun t : State => t.stock.changed) hframe
    have hsettle := settle_of_done _ (hdone.trans hwork) (hunchanged.trans hclean)
    refine ⟨_, hexec.trans (congrArg _ hsettle), ?_⟩
    simp only [followBeacons_mode, followBeacons_stop, followBeacons_fault, followBeacons_clock, followBeacons_hostLine,
      followBeacons_crane, followBeacons_unit, followBeacons_stock, followBeacons_alloc, followBeacons_tables,
      followBeacons_composer, followBeacons_flags, followBeacons_guards, followBeacons_moves, followBeacons_now]
    refine ⟨by rw [hframe]; rfl, by rw [hframe]; exact hstop, by rw [hframe]; rfl, by rw [hframe]; rfl, ?_,
      fun c hon hfit => hasked c ⟨hon, hfit⟩, fun c hnot => hleft c (fun h => ?_), htable, by rw [hframe]; rfl,
      by rw [hframe]; rfl, by rw [hframe]; rfl, by rw [hframe]; rfl, by rw [hframe]; rfl, by rw [hframe]; rfl,
      by rw [hframe]; rfl, by rw [hframe]; rfl⟩
    · rw [hframe, ← hstop]; rfl
    · exact hnot.elim (fun hoff => hoff h.1) (fun habs => h.2 habs)

/-! ## The beacons (R213, R214) -/

theorem exec_beaconSet (n src arg pat : Nat) (s : State) :
    exec (.beaconSet n src arg pat) s = execBeaconSet n src arg pat s := by rfl

theorem exec_beaconQuery (s : State) : exec .beaconQuery s = execBeaconQuery s := by rfl

theorem exec_beaconPatternToggle (n : OutputId) (s : State) :
    exec (.beaconPatternToggle n) s = execBeaconPatternToggle n s := by rfl

/-- An output that is set anew follows its source at once, the others as before. -/
theorem followBeacons_setBeacon {s : State} (hfollow : s.followBeacons = s) (o : OutputId) (b : Beacon) :
    (s.setBeacon o b).followBeacons = s.setBeacon o (b.follow s.now (s.sourceHolds b.source)) := by
  have hsources : (s.setBeacon o b).sourceHolds = s.sourceHolds := sourceHolds_congr s _ rfl rfl rfl rfl rfl rfl rfl
  have hmap : s.hall.beacons.map (fun b => b.follow s.now (s.sourceHolds b.source)) = s.hall.beacons :=
    congrArg (fun t : State => t.hall.beacons) hfollow
  unfold State.followBeacons
  rw [hsources]
  simp only [State.setBeacon, Vector.map_set, hmap]

/-- Settles O28: the requests, and the end of a half period. -/
theorem beaconsFollowTheirSources : Obligations.BeaconsFollowTheirSources := by
  refine ⟨fun n src arg pat s htakes hset => ?_, fun n e s hrun hrunning htoggle hdue => ⟨fun hp => ?_, fun hp => ?_⟩,
    fun s htakes => ?_⟩
  · have hexec := (exec_beaconSet n src arg pat s).trans (request_of_takes _ _ s htakes)
    refine ⟨fun hbad => ?_, fun o b p hn hb hp => ⟨fun habsent => ?_, fun hfitted => ?_⟩⟩
    · have hrange : numbered 8 0 n = none ∨ beaconSourceOf src arg = none ∨ patternOf pat = none := by
        rw [numbered_eq_none_iff]
        exact hbad.imp_left (fun h => .inr (by omega))
      rw [hexec]
      split
      next o b p ho hb hp => simp [ho, hb, hp] at hrange
      next => rw [settle_refuse s hset]
    · subst hn
      rw [hexec, hb, hp, numbered_val]
      dsimp only
      rw [if_pos habsent, settle_refuse s hset]
    · subst hn
      obtain ⟨hwork, hclean, hfollow⟩ := hset
      have hset' : (s.setBeacon o { source := b, pattern := p, running := false, lit := false, toggle := none }).followBeacons
          = s.setBeacon o
              { source := b, pattern := p, running := s.sourceHolds b, lit := s.sourceHolds b,
                toggle := if s.sourceHolds b then p.half.map (fun h => s.now + h) else none } := by
        rw [followBeacons_setBeacon hfollow]
        cases s.sourceHolds b <;> rfl
      rw [hexec, hb, hp, numbered_val]
      dsimp only
      have hsettle := settle_of_done ((s.setBeacon o
        { source := b, pattern := p, running := false, lit := false, toggle := none }).accept
          (.beaconWas (s.beacon o).source (s.beacon o).pattern)) hwork hclean
      rw [if_neg (by simp [hfitted]), hsettle, State.accept, State.setHand, followBeacons_host, hset']
      rfl
  · rw [exec_beaconPatternToggle, execBeaconPatternToggle, plain_of_running _ s hrun]
    simp [htoggle, hp, Pattern.half, Config.slowHalfMs, hrunning, hdue]
  · rw [exec_beaconPatternToggle, execBeaconPatternToggle, plain_of_running _ s hrun]
    simp [htoggle, hp, Pattern.half, Config.fastHalfMs, hrunning, hdue]
  · rw [exec_beaconQuery, execBeaconQuery, ask_of_takes _ _ s htakes]
    have hlist : s.hall.beacons.toList = (List.finRange 8).map s.beacon :=
      List.ext_getElem (by simp) (fun i hi _ => by simp [State.beacon]; rfl)
    rw [hlist, List.map_map]
    rfl

end Sys2Proof.Machine

/-! The sync flags (R134 to R143) and the zone guard (R147 to R150, R157). -/

namespace Sys2Proof.Machine

/-! ## Rules of the records -/

theorem State.setFlagRec_setFlagRec (s : State) (f : FlagId) (r q : FlagRec) :
    (s.setFlagRec f r).setFlagRec f q = s.setFlagRec f q := by
  simp only [State.setFlagRec, Vector.set_set]

/-- A change of a move record, read back. -/
theorem State.move_modMove (s : State) (id k : Nat) (f : MoveRec → MoveRec) (hid : ∀ m, (f m).id = m.id) :
    (s.modMove id f).move k = (s.move k).map (fun m => if m.id = id then f m else m) := by
  have hkeep (m : MoveRec) : (if m.id = id then f m else m).id = m.id := by
    split
    · exact hid m
    · rfl
  show (s.moves.queue.map (fun m => if m.id = id then f m else m)).find? (fun m => m.id = k) = _
  rw [List.find?_map]
  simp only [Function.comp_def, hkeep]
  rfl

theorem State.move_id {s : State} {k : Nat} {m : MoveRec} (h : s.move k = some m) : m.id = k := by
  simpa using List.find?_some h

theorem State.move_modMove_same {s : State} {k : Nat} {m : MoveRec} (f : MoveRec → MoveRec) (hid : ∀ m, (f m).id = m.id)
    (h : s.move k = some m) : (s.modMove k f).move k = some (f m) := by
  rw [State.move_modMove s k k f hid, h, Option.map_some, if_pos (State.move_id h)]

/-- A change that no beacon sees keeps a settled state settled. -/
theorem Quiet.settled {s t : State} (h : Quiet s t) (hs : s.settled) : t.settled := by
  obtain ⟨hwork, hclean, hfollow⟩ := hs
  refine ⟨h.work.trans hwork, h.changed.trans hclean, ?_⟩
  rw [followBeacons_eq_iff] at hfollow ⊢
  intro n
  have hbeacon : t.beacon = s.beacon := by funext n; rw [State.beacon, h.hall]; rfl
  rw [hbeacon, h.sources, h.now]
  exact hfollow n

/-! ## The flags (R134 to R143) -/

theorem exec_flagSet (n : Nat) (s : State) : exec (.flagSet n) s = execFlagSet n s := by rfl

theorem exec_flagClear (n : Nat) (s : State) : exec (.flagClear n) s = execFlagClear n s := by rfl

theorem exec_flagQuery (n : Nat) (s : State) : exec (.flagQuery n) s = execFlagQuery n s := by rfl

section SetFlag

variable {s : State} {f : FlagId} (source : SetSource)

theorem runSetFlag_of_clear (hvalue : (s.flag f).value = false) (hwaiters : (s.flag f).waiters = []) :
    runSetFlag f source s = s.setFlagRec f { s.flag f with value := true } := by
  simp [runSetFlag, FlagRec.afterSet, FlagRec.outcome, hvalue, hwaiters]

theorem runSetFlag_of_waiter {t : TableId} {rest : List TableId} (hvalue : (s.flag f).value = false)
    (hwaiters : (s.flag f).waiters = t :: rest) :
    runSetFlag f source s = (s.setFlagRec f { s.flag f with waiters := rest }).push [.stepEnd t] := by
  simp [runSetFlag, FlagRec.afterSet, FlagRec.outcome, hvalue, hwaiters]

theorem runSetFlag_of_set (hvalue : (s.flag f).value = true) :
    runSetFlag f source s =
      (s.setFlagRec f { s.flag f with overrun := true }).raise (.flagOverrun f source s.hall.clock) := by
  simp [runSetFlag, FlagRec.afterSet, FlagRec.outcome, hvalue]

end SetFlag

theorem FlagRec.outcome_of_clear {r : FlagRec} (hvalue : r.value = false) (hwaiters : r.waiters = []) : r.outcome = .set := by
  simp [FlagRec.outcome, hvalue, hwaiters]

theorem FlagRec.outcome_of_waiter {r : FlagRec} {t : TableId} {rest : List TableId} (hvalue : r.value = false)
    (hwaiters : r.waiters = t :: rest) : r.outcome = .released t := by
  simp [FlagRec.outcome, hvalue, hwaiters]

theorem FlagRec.outcome_of_set {r : FlagRec} (hvalue : r.value = true) : r.outcome = .overrun := by
  simp [FlagRec.outcome, hvalue]

/-! ## A step that ends in front of a WAIT_FLAG step -/

/-- The step in progress of a table with a running program. -/
theorem TableRec.step_of_active {r : TableRec} {a : Active} (h : r.active = some a) : r.step = a.steps[a.index]? := by
  rw [TableRec.step, h]
  rfl

/-- A WAIT_FLAG step on a CLEAR flag: the table joins the flag's waiters (R138). -/
theorem runStepStart_of_wait {s : State} {t : TableId} {f : FlagId} (hstep : (s.tab t).step = some (.waitFlag f.val))
    (hclear : (s.flag f).value = false) :
    runStepStart t s = (s.setFlagRec f { s.flag f with waiters := (s.flag f).waiters ++ [t] }).enter t .flagWait := by
  unfold runStepStart
  rw [hstep]
  dsimp only
  rw [numbered_val]
  simp only [State.startWait, hclear, Bool.false_eq_true, if_false]

/-- A table that stands in a state and enters it again only loses its halt cause, and nothing is reported. -/
theorem enter_of_same {s : State} {t : TableId} {st : TableState} (h : (s.tab t).state = st) :
    s.enter t st = s.modTab t (fun r => { r with state := st, cause := none }) := by
  rw [State.enter, if_pos h]

theorem enter_of_other {s : State} {t : TableId} {st : TableState} (h : (s.tab t).state ≠ st) :
    s.enter t st = (s.modTab t (fun r => { r with state := st, cause := none })).raise
      ((s.modTab t (fun r => { r with state := st, cause := none })).tableReport t) := by
  rw [State.enter, if_neg h]

/-- The end of a step before a WAIT_FLAG step on a CLEAR flag: the table waits for it. -/
theorem comesTo_of_stepEnd_wait {s : State} {t : TableId} {f : FlagId} {a : Active}
    (hactive : (s.tab t).active = some a) (hnext : a.steps[a.index + 1]? = some (.waitFlag f.val))
    (hclear : (s.flag f).value = false) (ts : List Task) :
    (s.push (.stepEnd t :: ts)).comesTo 2 ((((s.push ts).modTab t (fun r =>
        { r with active := some { a with index := a.index + 1 } })).setFlagRec f
          { s.flag f with waiters := (s.flag f).waiters ++ [t] }).enter t .flagWait) := by
  let s1 : State := (s.push ts).modTab t (fun r => { r with active := some { a with index := a.index + 1 } })
  have hend : runTask (.stepEnd t) (s.push ts) = s1.push [.stepStart t] := by
    have hmod : (s.push ts).modActive t (fun a => { a with index := a.index + 1 }) = s1 := by
      show ({ s.push ts with tables := s.tables.set t.val { s.tab t with
        active := (s.tab t).active.map (fun a => { a with index := a.index + 1 }) } t.isLt } : State) = _
      rw [hactive]
      rfl
    show runStepEnd t (s.push ts) = _
    rw [runStepEnd, hmod]
  have hactive1 : (s1.tab t).active = some { a with index := a.index + 1 } := by rw [State.tab_modTab_same]
  have hstart : runTask (.stepStart t) s1
      = (s1.setFlagRec f { s.flag f with waiters := (s.flag f).waiters ++ [t] }).enter t .flagWait :=
    runStepStart_of_wait (s := s1) ((TableRec.step_of_active hactive1).trans hnext) hclear
  exact (comesTo_push _ ts hend).trans (comesTo_push _ [] hstart)

/-- FLAG_SET that releases a table whose next step waits on the same flag: it waits again at the tail. -/
theorem settle_flagSet_of_waiter {s : State} (hset : s.settled) {f : FlagId} {t : TableId} {rest : List TableId} {a : Active}
    (hvalue : (s.flag f).value = false) (hwaiters : (s.flag f).waiters = t :: rest) (hstate : (s.tab t).state = .flagWait)
    (hcause : (s.tab t).cause = none) (hactive : (s.tab t).active = some a)
    (hnext : a.steps[a.index + 1]? = some (.waitFlag f.val)) (b : Accept) :
    (runSetFlag f .host (s.accept b)).settle
      = ((s.setFlagRec f { s.flag f with waiters := rest ++ [t] }).modTab t (fun r =>
          { r with active := some { a with index := a.index + 1 } })).accept b := by
  let u : State := ((s.setFlagRec f { s.flag f with waiters := rest ++ [t] }).modTab t (fun r =>
    { r with active := some { a with index := a.index + 1 } })).accept b
  let s0 : State := (s.accept b).setFlagRec f { s.flag f with waiters := rest }
  have hrun : runSetFlag f .host (s.accept b) = s0.push [.stepEnd t] := runSetFlag_of_waiter (s := s.accept b) .host hvalue hwaiters
  have hflag : s0.flag f = { s.flag f with waiters := rest } := State.flag_setFlagRec_same _ _ _
  have hcomes := comesTo_of_stepEnd_wait (s := s0) (f := f) (t := t) hactive hnext
    (show (s0.flag f).value = false by rw [hflag]; exact hvalue) []
  have hend : (((s0.modTab t (fun r => { r with active := some { a with index := a.index + 1 } })).setFlagRec f
          { s0.flag f with waiters := (s0.flag f).waiters ++ [t] }).enter t .flagWait) = u := by
    have hstill : (((s0.modTab t (fun r => { r with active := some { a with index := a.index + 1 } })).setFlagRec f
        { s0.flag f with waiters := (s0.flag f).waiters ++ [t] }).tab t).state = .flagWait :=
      (congrArg TableRec.state (State.tab_modTab_same s t (fun r =>
        { r with active := some { a with index := a.index + 1 } }))).trans hstate
    have hcomm (r : FlagRec) (g : TableRec → TableRec) : (s0.modTab t g).setFlagRec f r = (s0.setFlagRec f r).modTab t g := rfl
    rw [enter_of_same hstill, hflag, hcomm, State.modTab_modTab, State.setFlagRec_setFlagRec]
    have htab : ((s.accept b).setFlagRec f { s.flag f with waiters := rest ++ [t] }).tab t = s.tab t := rfl
    simp only [State.modTab, htab, ← hstate, ← hcause]
    rfl
  have hquiet : Quiet s u := by
    refine ⟨rfl, rfl, rfl, rfl, rfl, rfl, fun k => ?_, fun _ => rfl⟩
    have htab : u.tab k = if k = t then { s.tab t with active := some { a with index := a.index + 1 } } else s.tab k :=
      State.tab_modTab s t k (fun r => { r with active := some { a with index := a.index + 1 } })
    rw [htab]
    split
    · next h => rw [h]; exact ⟨rfl, rfl⟩
    · exact ⟨rfl, rfl⟩
  obtain ⟨hwork, hclean, hfollow⟩ := hquiet.settled hset
  rw [State.push_nil, hend] at hcomes
  rw [hrun, settle_of_comesTo_clean hcomes (by decide) hwork hclean, hfollow]

/-- Settles O47: the set itself by the record, and the requests. -/
theorem flagsAreSetAndRead : Obligations.FlagsAreSetAndRead := by
  refine ⟨fun s f source => ⟨runSetFlag_of_clear source, fun t rest => runSetFlag_of_waiter source, runSetFlag_of_set source⟩,
    fun s n hset => ⟨fun hn => ?_, fun htakes => ?_, fun f => ⟨fun htakes => ?_, fun htakes => ?_, fun htakes => ?_⟩⟩⟩
  · have hnone : numbered 16 0 n = none := numbered_eq_none_iff.2 (.inr (by omega))
    refine ⟨fun htakes => ?_, fun htakes => ?_, fun hall htakes => ?_⟩
    · rw [exec_flagSet, execFlagSet, request_of_takes _ _ s htakes, hnone, settle_refuse s hset]
    · rw [exec_flagClear, execFlagClear, ask_of_takes _ _ s htakes, hnone]
    · rw [exec_flagQuery, execFlagQuery, ask_of_takes _ _ s htakes, if_neg hall, hnone]
  · rw [exec_flagQuery, execFlagQuery, ask_of_takes _ _ s htakes, if_pos rfl]
  · rw [exec_flagSet, execFlagSet, request_of_takes _ _ s htakes, numbered_val]
    refine ⟨fun hvalue hwaiters => ?_, fun hvalue => ?_, fun t rest a hvalue hwaiters hstate hcause hactive hnext => ?_⟩
    · dsimp only
      rw [FlagRec.outcome_of_clear hvalue hwaiters, runSetFlag_of_clear (s := s.accept _) .host hvalue hwaiters]
      have hquiet : Quiet s (s.setFlagRec f { s.flag f with value := true }) :=
        ⟨rfl, rfl, rfl, rfl, rfl, rfl, fun _ => ⟨rfl, rfl⟩, fun _ => rfl⟩
      exact congrArg _ (settle_accept _ (hquiet.settled hset) (.setMade .set))
    · dsimp only
      rw [FlagRec.outcome_of_set hvalue, runSetFlag_of_set (s := s.accept _) .host hvalue]
      have hraise : ((s.accept (.setMade .overrun)).setFlagRec f { s.flag f with overrun := true }).raise
            (.flagOverrun f .host s.hall.clock)
          = ((s.setFlagRec f { s.flag f with overrun := true }).raise (.flagOverrun f .host s.hall.clock)).accept
            (.setMade .overrun) := State.raise_accept (s.setFlagRec f { s.flag f with overrun := true }) _ _
      have hquiet : Quiet s ((s.setFlagRec f { s.flag f with overrun := true }).raise (.flagOverrun f .host s.hall.clock)) :=
        ⟨rfl, rfl, rfl, rfl, rfl, rfl, fun _ => ⟨rfl, rfl⟩, fun _ => rfl⟩
      exact congrArg _ ((congrArg State.settle hraise).trans (settle_accept _ (hquiet.settled hset) (.setMade .overrun)))
    · dsimp only
      rw [FlagRec.outcome_of_waiter hvalue hwaiters,
        settle_flagSet_of_waiter hset hvalue hwaiters hstate hcause hactive hnext]
  · rw [exec_flagClear, execFlagClear, ask_of_takes _ _ s htakes, numbered_val]
  · have hne : f.val ≠ 255 := by omega
    rw [exec_flagQuery, execFlagQuery, ask_of_takes _ _ s htakes, if_neg hne, numbered_val]

/-! ## The zone guard (R147 to R150) -/

theorem exec_settleExpiry (z : Zone) (s : State) : exec (.settleExpiry z) s = execSettleExpiry z s := by rfl

theorem exec_guardQuery (n : Nat) (s : State) : exec (.guardQuery n) s = execGuardQuery n s := by rfl

section GuardFree

variable {s : State} {z : Zone}

theorem guardFree_of_pending {h : Holder} (hp : (s.guard z).pending = some h) : s.guardFree z =
    (s.setGuard z { s.guard z with state := .transit h, pending := none }).push [.transitGranted h.move z] := by
  simp only [State.guardFree, hp]

theorem guardFree_of_waiter {t : TableId} (hp : (s.guard z).pending = none) (hw : (s.guard z).waiter = some t) :
    s.guardFree z = (s.setGuard z { state := .arc, pending := none, waiter := none }).push [.arcGranted t] := by
  simp only [State.guardFree, hp, hw]

theorem guardFree_of_nobody (hp : (s.guard z).pending = none) (hw : (s.guard z).waiter = none) :
    s.guardFree z = s.setGuard z { state := .free, pending := none, waiter := none } := by
  simp only [State.guardFree, hp, hw]
  rfl

end GuardFree

/-- Travel does not begin while a hold of the move is pending (R170). -/
theorem runTravelCheck_of_pending {s : State} {mv : Nat} {m : MoveRec} {k : Hold} (hm : s.move mv = some m) (hk : k ∈ m.holds)
    (hpending : k.granted = false) : runTravelCheck mv s = s := by
  have hall : m.holds.all Hold.granted = false := by
    rw [List.all_eq_false]
    exact ⟨k, hk, by simp [hpending]⟩
  unfold runTravelCheck
  rw [hm]
  dsimp only
  split
  · rfl
  · rw [if_neg (by simp [hall])]

/-- A zone that becomes FREE for a crane whose move lacks another hold. -/
theorem settle_guardFree_of_pending {s : State} (hset : s.settled) {z : Zone} {h : Holder} {m : MoveRec} {k : Hold}
    (hp : (s.guard z).pending = some h) (hm : s.move h.move = some m) (hk : k ∈ m.holds) (hkz : k.zone ≠ z)
    (hpending : k.granted = false) :
    (s.guardFree z).settle
      = ((s.setGuard z { s.guard z with state := .transit h, pending := none }).markGranted h.move z).followBeacons := by
  let s1 : State := s.setGuard z { s.guard z with state := .transit h, pending := none }
  have hmove : (s1.markGranted h.move z).move h.move = some { m with
      holds := m.holds.map (fun h => if h.zone = z then { h with granted := true } else h) } :=
    State.move_modMove_same (s := s1) _ (fun _ => rfl) hm
  have hcheck : runTask (.travelCheck h.move) (s1.markGranted h.move z) = s1.markGranted h.move z :=
    runTravelCheck_of_pending hmove (k := k) (List.mem_map.2 ⟨k, hk, if_neg hkz⟩) hpending
  have hcomes : (s1.push [.transitGranted h.move z]).comesTo 2 (s1.markGranted h.move z) :=
    (comesTo_push _ [] rfl).trans (comesTo_push _ [] hcheck)
  rw [guardFree_of_pending hp]
  exact settle_of_comesTo_clean hcomes (by decide) hset.1 hset.2.1

/-- Settles O48: the two tables of the guard record, and the expiry of a settle timer. -/
theorem guardsArbitrate : Obligations.GuardsArbitrate := by
  refine ⟨fun g t => ⟨fun h => ?_, fun e h hp => ?_, fun e k h hp => ?_, fun k h => ?_⟩,
    fun s z => ⟨fun h => guardFree_of_pending, fun t => guardFree_of_waiter, guardFree_of_nobody⟩,
    fun s z e hrun hset hstate => ?_⟩
  · simp [GuardRec.afterArcRequest, GuardRec.arcAnswer, h]
  · simp [GuardRec.afterArcRequest, GuardRec.arcAnswer, h, hp]
  · simp [GuardRec.afterArcRequest, GuardRec.arcAnswer, h, hp]
  · simp [GuardRec.afterArcRequest, GuardRec.arcAnswer, h]
  · have hexec := (exec_settleExpiry z s).trans (handled_of_running _ s hrun)
    simp only [hstate] at hexec
    refine ⟨fun hearly => ?_, fun hdue hp hw => ?_, fun h m k hdue hp hm hk hkz hpending => ?_⟩
    · rw [hexec, if_neg (Nat.not_le.2 hearly), settle_of_settled hset]
    · rw [hexec, if_pos hdue, guardFree_of_nobody hp hw]
      exact congrArg _ (settle_of_done _ hset.1 hset.2.1)
    · rw [hexec, if_pos hdue, settle_guardFree_of_pending hset hp hm hk hkz hpending]
      rfl

/-- Settles O49: the entry of a zone is what GUARD_QUERY returns of it. -/
theorem guardQueryAnswers : Obligations.GuardQueryAnswers := by
  intro s entry
  have hentry (z : Zone) : entry z = (s.guardEntry z).toList := by
    simp only [entry, State.guardEntry]
    cases s.kindOf z <;> simp [State.guardView] <;> rfl
  refine ⟨fun n hn hall htakes => ?_, fun z htakes => ?_, fun htakes => ?_⟩
  · rw [exec_guardQuery, execGuardQuery, ask_of_takes _ _ s htakes, if_neg hall,
      numbered_eq_none_iff.2 (.inr (by omega))]
  · have hne : z.val ≠ 255 := by omega
    rw [exec_guardQuery, execGuardQuery, ask_of_takes _ _ s htakes, if_neg hne, numbered_val, hentry]
    dsimp only
    cases s.guardEntry z with
    | none => exact ⟨fun _ => rfl, fun h => absurd rfl h⟩
    | some v => exact ⟨nofun, fun _ => rfl⟩
  · have hflat : (List.finRange 16).flatMap entry = allZones.filterMap s.guardEntry := by
      rw [← flatMap_toList]
      exact flatMap_eq_of_forall_mem (fun z _ => hentry z)
    rw [exec_guardQuery, execGuardQuery, ask_of_takes _ _ s htakes, if_pos rfl, hflat]

end Sys2Proof.Machine

/-! The turns of the field line (R193) and the pass-through frames (R200). -/

namespace Sys2Proof.Machine

/-! ## The arms -/

theorem exec_passThroughFrame (f : HostFrame) (s : State) : exec (.passThroughFrame f) s = execPassThroughFrame f s := by rfl

theorem exec_passThroughAnswer (n : Nat) (kind : Byte) (body : List Byte) (s : State) :
    exec (.passThroughAnswer n kind body) s = execPassThroughAnswer n kind body s := by rfl

theorem exec_passThroughTimeout (damaged : Bool) (s : State) :
    exec (.passThroughTimeout damaged) s = execPassThroughTimeout damaged s := by rfl

theorem exec_lineCommandTurn (s : State) : exec .lineCommandTurn s = execLineCommandTurn s := by rfl

theorem exec_lineOfferTurn (s : State) : exec .lineOfferTurn s = execLineOfferTurn s := by rfl

/-! ## Pass-through frames (R200) -/

/-- The kinds and lengths of a frame from a unit, listed. -/
theorem fieldIntact_iff (kind : Byte) (body : List Byte) : fieldIntact kind body = true ↔
    (kind.toNat % 128, body.length) ∈ [(11, 1), (12, 1), (13, 1), (13, 2), (14, 0), (15, 4), (16, 3), (17, 9), (18, 2),
      (19, 1), (20, 2), (21, 0), (22, 1)] := by
  rw [fieldIntact, List.contains_iff_mem]
  generalize kind.toNat % 128 = n
  generalize body.length = l
  unfold fieldLengths
  split
  case h_13 => simp_all
  all_goals simp

theorem windowOver_iff (s : State) (k : WindowKind) :
    s.windowOver k = true ↔ ∃ w, s.line.window = some w ∧ w.kind = k ∧ w.expiry ≤ s.now := by
  simp [State.windowOver, Option.any_eq_true]

/-- Settles O58: the request by the unit's state, and what the open window takes. -/
theorem passThroughFramesAreAnswered : Obligations.PassThroughFramesAreAnswered := by
  refine ⟨fun s f v htakes hunit => ?_, fun s v e hrun hwindow => ?_⟩
  · have hnumber : numbered 6 1 f.unit.toNat = some v := by rw [hunit]; exact numbered_val_add_one 6 v
    rw [exec_passThroughFrame, execPassThroughFrame, ask_of_takes _ _ s htakes, hnumber]
    dsimp only
    refine ⟨fun habsent => ?_, fun hfitted hnot => ?_, fun hmaintained hfree => ?_⟩
    · rw [if_pos habsent]
    · rw [if_neg hfitted, if_pos hnot]
    · have hneither : ¬ ((s.unit v).link ≠ .maintenance ∨ (s.unit v).restoring = true) := by simp [hmaintained, hfree]
      rw [if_neg (by simp [hmaintained]), if_neg hneither]
      rfl
  · intro intact
    have hanswer (n : Nat) (kind : Byte) (body : List Byte) := (exec_passThroughAnswer n kind body s).trans
      (plain_of_running _ s hrun)
    simp only [hwindow, ne_eq, not_true_eq_false, if_false] at hanswer
    have htimeout (damaged : Bool) : exec (.passThroughTimeout damaged) s
        = .next (if damaged = true ∨ e ≤ s.now then s.passLost else s) := by
      have hover : s.windowOver .pass = true ↔ e ≤ s.now := by simp [windowOver_iff, hwindow]
      rw [exec_passThroughTimeout, execPassThroughTimeout, plain_of_running _ s hrun]
      simp [hover, hwindow]
    refine ⟨fun kind body h => ?_, fun w kind body hw h hfitted => ?_, fun n kind body h => ?_, ?_, fun hdue => ?_,
      fun hearly => ?_⟩
    · rw [hanswer, (fieldIntact_iff kind body).2 h, numbered_val_add_one]
      simp [State.passAnswered, State.accept, State.setHand, State.closeWindow]
    · rw [hanswer, (fieldIntact_iff kind body).2 h, numbered_val_add_one]
      simp only [Bool.not_true, Bool.false_eq_true, if_false, if_neg hw.symm, State.strayFrame_of_fitted s w hfitted]
      rfl
    · rw [hanswer, Bool.eq_false_iff.2 (fun hi => h ((fieldIntact_iff kind body).1 hi))]
      rfl
    · rw [htimeout, if_pos (.inl rfl)]
      rfl
    · rw [htimeout, if_pos (.inr hdue)]
      rfl
    · rw [htimeout, if_neg (by simp [Nat.not_le.2 hearly])]

/-! ## The turns (R193) -/

/-- The first of the six units in rotation that has a property. -/
theorem find_rotation {p : UnitId → Bool} {u : UnitId} {j : Fin 6} (hj : p (j + u) = true)
    (hbefore : ∀ i < j, p (i + u) = false) : (rotation u).find? p = some (j + u) := by
  rw [List.find?_eq_some_iff_getElem]
  refine ⟨hj, j.val, by simp [rotation], by simp [rotation], fun i hi => ?_⟩
  have hlt : i < 6 := Nat.lt_trans hi j.isLt
  simpa [rotation] using hbefore ⟨i, hlt⟩ hi

theorem nextUnit_eq (u : UnitId) : nextUnit u = u + 1 := by
  revert u
  decide

section Turns

variable {s : State} {v : UnitId}

theorem commandTurn_of_unit (hwindow : s.line.window = none) (hunit : s.cmdUnit = some v)
    (hturn : s.line.turn = .command ∨ s.offerUnit = none) : s.commandTurn = s.transmit v := by
  unfold State.commandTurn
  rw [if_neg (by simp [hwindow]), hunit]
  exact if_pos hturn

theorem commandTurn_of_nobody (hunit : s.cmdUnit = none) : s.commandTurn = s := by
  unfold State.commandTurn
  rw [hunit]
  exact ite_self s

theorem offerTurn_of_nobody (hunit : s.offerUnit = none) : s.offerTurn = s := by
  unfold State.offerTurn
  rw [hunit]
  exact ite_self s

theorem transmit_of_command {o : Outstanding} (hout : (s.unit v).out = some o) : s.transmit v =
    ({ s with line := { s.line with
        window := some { unit := v, kind := .command, expiry := s.now + 50 }, cmdNext := v + 1, turn := .offer,
        sent := some (.command v o.cmd.cmd) } } : State).modUnit v
      (fun r => { r with out := some { o with inFlight := true } }) := by
  simp only [State.transmit, hout, Config.windowMs, nextUnit_eq]

theorem transmit_of_pass {f : PassFrame} (hout : (s.unit v).out = none) (hpass : s.line.pass = some f) : s.transmit v =
    { s with line := { s.line with
        window := some { unit := v, kind := .pass, expiry := s.now + 50 }, cmdNext := v + 1, turn := .offer,
        sent := some (.pass f), pass := none } } := by
  simp only [State.transmit, hout, hpass, Config.windowMs, nextUnit_eq]

end Turns

/-- Settles O59: the turn by what is due and what the units have to send. -/
theorem theLineTakesTurns : Obligations.TheLineTakesTurns := by
  intro s hrun
  have hcommand : exec .lineCommandTurn s = .next s.commandTurn := (exec_lineCommandTurn s).trans (plain_of_running _ s hrun)
  have hoffer : exec .lineOfferTurn s = .next s.offerTurn := (exec_lineOfferTurn s).trans (plain_of_running _ s hrun)
  refine ⟨fun hopen => ?_, fun _ hnobody => ?_, fun _ hnobody => ?_, fun v j hwindow hv hready hbefore hturn => ?_,
    fun v j hwindow hv hready hbefore hturn => ?_⟩
  · have hsome : s.line.window.isSome = true := Option.isSome_iff_ne_none.2 hopen
    rw [hcommand, hoffer, State.commandTurn, State.offerTurn, if_pos hsome, if_pos hsome]
    exact ⟨rfl, rfl⟩
  · rw [hcommand, commandTurn_of_nobody ((cmdUnit_eq_none_iff s).2 hnobody)]
  · rw [hoffer, offerTurn_of_nobody ((offerUnit_eq_none_iff s).2 hnobody)]
  · subst hv
    rw [← offerUnit_eq_none_iff] at hturn
    rw [hcommand, commandTurn_of_unit hwindow (find_rotation hready hbefore) hturn]
    refine ⟨fun o hout hfree => ?_, fun f hout hpass => ?_⟩
    · rw [transmit_of_command hout]
      exact ⟨_, rfl, State.unit_modUnit_same .., fun w hw => (State.unit_modUnit ..).trans (if_neg hw), rfl, rfl⟩
    · rw [transmit_of_pass hout hpass]
  · subst hv
    rw [← cmdUnit_eq_none_iff] at hturn
    have hunit : s.offerUnit = some (j + s.line.offerNext) := find_rotation hready hbefore
    rw [hoffer, State.offerTurn, if_neg (by simp [hwindow]), hunit]
    dsimp only
    rw [if_pos hturn, nextUnit_eq, Config.windowMs]

end Sys2Proof.Machine

/-! Failures on the field line (R194 to R198), and what a frame in an open window does. -/

namespace Sys2Proof.Machine

/-! ## The arms -/

theorem exec_fieldAnswerTimeout (s : State) : exec .fieldAnswerTimeout s = execFieldAnswerTimeout s := by rfl

theorem exec_damagedFieldFrame (s : State) : exec .damagedFieldFrame s = execDamagedFieldFrame s := by rfl

theorem exec_offerWindowTimeout (s : State) : exec .offerWindowTimeout s = execOfferWindowTimeout s := by rfl

theorem exec_ack (n : Nat) (marker : Bool) (k : NamedCmd) (s : State) : exec (.ack n marker k) s = execAck n marker k s := by rfl

theorem exec_nak (n : Nat) (marker : Bool) (k : NamedCmd) (s : State) : exec (.nak n marker k) s = execNak n marker k s := by rfl

theorem exec_status (n : Nat) (marker : Bool) (c : StatusContent) (s : State) :
    exec (.status n marker c) s = execStatus n marker c s := by rfl

theorem exec_empty (n : Nat) (marker : Bool) (s : State) : exec (.empty n marker) s = execEmpty n marker s := by rfl

/-! ## A record read after an update of something else -/

section Readers

variable (s : State)

@[simp] theorem State.push_tab (ts : List Task) : (s.push ts).tab = s.tab := rfl
@[simp] theorem State.push_crane (ts : List Task) : (s.push ts).crane = s.crane := rfl
@[simp] theorem State.push_unit (ts : List Task) : (s.push ts).unit = s.unit := rfl
@[simp] theorem State.push_guard (ts : List Task) : (s.push ts).guard = s.guard := rfl
@[simp] theorem State.push_flag (ts : List Task) : (s.push ts).flag = s.flag := rfl
@[simp] theorem State.push_move (ts : List Task) : (s.push ts).move = s.move := rfl

@[simp] theorem State.raise_tab (r : Report) : (s.raise r).tab = s.tab := rfl
@[simp] theorem State.raise_crane (r : Report) : (s.raise r).crane = s.crane := rfl
@[simp] theorem State.raise_unit (r : Report) : (s.raise r).unit = s.unit := rfl
@[simp] theorem State.raise_guard (r : Report) : (s.raise r).guard = s.guard := rfl
@[simp] theorem State.raise_flag (r : Report) : (s.raise r).flag = s.flag := rfl
@[simp] theorem State.raise_move (r : Report) : (s.raise r).move = s.move := rfl

@[simp] theorem State.setHand_tab (h : Hand) : (s.setHand h).tab = s.tab := rfl
@[simp] theorem State.setHand_crane (h : Hand) : (s.setHand h).crane = s.crane := rfl
@[simp] theorem State.setHand_unit (h : Hand) : (s.setHand h).unit = s.unit := rfl
@[simp] theorem State.setHand_guard (h : Hand) : (s.setHand h).guard = s.guard := rfl
@[simp] theorem State.setHand_flag (h : Hand) : (s.setHand h).flag = s.flag := rfl
@[simp] theorem State.setHand_move (h : Hand) : (s.setHand h).move = s.move := rfl

@[simp] theorem State.accept_tab (b : Accept) : (s.accept b).tab = s.tab := rfl
@[simp] theorem State.accept_crane (b : Accept) : (s.accept b).crane = s.crane := rfl
@[simp] theorem State.accept_unit (b : Accept) : (s.accept b).unit = s.unit := rfl
@[simp] theorem State.accept_guard (b : Accept) : (s.accept b).guard = s.guard := rfl
@[simp] theorem State.accept_flag (b : Accept) : (s.accept b).flag = s.flag := rfl
@[simp] theorem State.accept_move (b : Accept) : (s.accept b).move = s.move := rfl

@[simp] theorem State.refuse_tab (c : Code) : (s.refuse c).tab = s.tab := rfl
@[simp] theorem State.refuse_crane (c : Code) : (s.refuse c).crane = s.crane := rfl
@[simp] theorem State.refuse_unit (c : Code) : (s.refuse c).unit = s.unit := rfl
@[simp] theorem State.refuse_guard (c : Code) : (s.refuse c).guard = s.guard := rfl
@[simp] theorem State.refuse_flag (c : Code) : (s.refuse c).flag = s.flag := rfl
@[simp] theorem State.refuse_move (c : Code) : (s.refuse c).move = s.move := rfl

@[simp] theorem State.closeWindow_tab : s.closeWindow.tab = s.tab := rfl
@[simp] theorem State.closeWindow_crane : s.closeWindow.crane = s.crane := rfl
@[simp] theorem State.closeWindow_unit : s.closeWindow.unit = s.unit := rfl
@[simp] theorem State.closeWindow_guard : s.closeWindow.guard = s.guard := rfl
@[simp] theorem State.closeWindow_flag : s.closeWindow.flag = s.flag := rfl
@[simp] theorem State.closeWindow_move : s.closeWindow.move = s.move := rfl

@[simp] theorem State.countHand_tab : s.countHand.tab = s.tab := rfl
@[simp] theorem State.countHand_crane : s.countHand.crane = s.crane := rfl
@[simp] theorem State.countHand_unit : s.countHand.unit = s.unit := rfl
@[simp] theorem State.countHand_guard : s.countHand.guard = s.guard := rfl
@[simp] theorem State.countHand_flag : s.countHand.flag = s.flag := rfl
@[simp] theorem State.countHand_move : s.countHand.move = s.move := rfl

@[simp] theorem State.wantAttempt_tab : s.wantAttempt.tab = s.tab := rfl
@[simp] theorem State.wantAttempt_crane : s.wantAttempt.crane = s.crane := rfl
@[simp] theorem State.wantAttempt_unit : s.wantAttempt.unit = s.unit := rfl
@[simp] theorem State.wantAttempt_guard : s.wantAttempt.guard = s.guard := rfl
@[simp] theorem State.wantAttempt_flag : s.wantAttempt.flag = s.flag := rfl
@[simp] theorem State.wantAttempt_move : s.wantAttempt.move = s.move := rfl

@[simp] theorem State.stockChanged_tab : s.stockChanged.tab = s.tab := rfl
@[simp] theorem State.stockChanged_crane : s.stockChanged.crane = s.crane := rfl
@[simp] theorem State.stockChanged_unit : s.stockChanged.unit = s.unit := rfl
@[simp] theorem State.stockChanged_guard : s.stockChanged.guard = s.guard := rfl
@[simp] theorem State.stockChanged_flag : s.stockChanged.flag = s.flag := rfl
@[simp] theorem State.stockChanged_move : s.stockChanged.move = s.move := rfl

@[simp] theorem State.setSpaceWaits_tab (l : List TableId) : (s.setSpaceWaits l).tab = s.tab := rfl
@[simp] theorem State.setSpaceWaits_crane (l : List TableId) : (s.setSpaceWaits l).crane = s.crane := rfl
@[simp] theorem State.setSpaceWaits_unit (l : List TableId) : (s.setSpaceWaits l).unit = s.unit := rfl
@[simp] theorem State.setSpaceWaits_guard (l : List TableId) : (s.setSpaceWaits l).guard = s.guard := rfl
@[simp] theorem State.setSpaceWaits_flag (l : List TableId) : (s.setSpaceWaits l).flag = s.flag := rfl
@[simp] theorem State.setSpaceWaits_move (l : List TableId) : (s.setSpaceWaits l).move = s.move := rfl

@[simp] theorem State.setWaits_tab (l : List WaitEntry) : (s.setWaits l).tab = s.tab := rfl
@[simp] theorem State.setWaits_crane (l : List WaitEntry) : (s.setWaits l).crane = s.crane := rfl
@[simp] theorem State.setWaits_unit (l : List WaitEntry) : (s.setWaits l).unit = s.unit := rfl
@[simp] theorem State.setWaits_guard (l : List WaitEntry) : (s.setWaits l).guard = s.guard := rfl
@[simp] theorem State.setWaits_flag (l : List WaitEntry) : (s.setWaits l).flag = s.flag := rfl
@[simp] theorem State.setWaits_move (l : List WaitEntry) : (s.setWaits l).move = s.move := rfl

@[simp] theorem State.setComposer_tab (c : Composer) : (s.setComposer c).tab = s.tab := rfl
@[simp] theorem State.setComposer_crane (c : Composer) : (s.setComposer c).crane = s.crane := rfl
@[simp] theorem State.setComposer_unit (c : Composer) : (s.setComposer c).unit = s.unit := rfl
@[simp] theorem State.setComposer_guard (c : Composer) : (s.setComposer c).guard = s.guard := rfl
@[simp] theorem State.setComposer_flag (c : Composer) : (s.setComposer c).flag = s.flag := rfl
@[simp] theorem State.setComposer_move (c : Composer) : (s.setComposer c).move = s.move := rfl

@[simp] theorem State.setRecs_tab (l : List StockRec) : (s.setRecs l).tab = s.tab := rfl
@[simp] theorem State.setRecs_crane (l : List StockRec) : (s.setRecs l).crane = s.crane := rfl
@[simp] theorem State.setRecs_unit (l : List StockRec) : (s.setRecs l).unit = s.unit := rfl
@[simp] theorem State.setRecs_guard (l : List StockRec) : (s.setRecs l).guard = s.guard := rfl
@[simp] theorem State.setRecs_flag (l : List StockRec) : (s.setRecs l).flag = s.flag := rfl
@[simp] theorem State.setRecs_move (l : List StockRec) : (s.setRecs l).move = s.move := rfl

@[simp] theorem State.modRec_tab (id : Nat) (f : StockRec → StockRec) : (s.modRec id f).tab = s.tab := rfl
@[simp] theorem State.modRec_crane (id : Nat) (f : StockRec → StockRec) : (s.modRec id f).crane = s.crane := rfl
@[simp] theorem State.modRec_unit (id : Nat) (f : StockRec → StockRec) : (s.modRec id f).unit = s.unit := rfl
@[simp] theorem State.modRec_guard (id : Nat) (f : StockRec → StockRec) : (s.modRec id f).guard = s.guard := rfl
@[simp] theorem State.modRec_flag (id : Nat) (f : StockRec → StockRec) : (s.modRec id f).flag = s.flag := rfl
@[simp] theorem State.modRec_move (id : Nat) (f : StockRec → StockRec) : (s.modRec id f).move = s.move := rfl

@[simp] theorem State.modTab_crane (t : TableId) (f : TableRec → TableRec) : (s.modTab t f).crane = s.crane := rfl
@[simp] theorem State.modTab_unit (t : TableId) (f : TableRec → TableRec) : (s.modTab t f).unit = s.unit := rfl
@[simp] theorem State.modTab_guard (t : TableId) (f : TableRec → TableRec) : (s.modTab t f).guard = s.guard := rfl
@[simp] theorem State.modTab_flag (t : TableId) (f : TableRec → TableRec) : (s.modTab t f).flag = s.flag := rfl
@[simp] theorem State.modTab_move (t : TableId) (f : TableRec → TableRec) : (s.modTab t f).move = s.move := rfl

@[simp] theorem State.modCrane_tab (c : CraneId) (f : CraneRec → CraneRec) : (s.modCrane c f).tab = s.tab := rfl
@[simp] theorem State.modCrane_unit (c : CraneId) (f : CraneRec → CraneRec) : (s.modCrane c f).unit = s.unit := rfl
@[simp] theorem State.modCrane_guard (c : CraneId) (f : CraneRec → CraneRec) : (s.modCrane c f).guard = s.guard := rfl
@[simp] theorem State.modCrane_flag (c : CraneId) (f : CraneRec → CraneRec) : (s.modCrane c f).flag = s.flag := rfl
@[simp] theorem State.modCrane_move (c : CraneId) (f : CraneRec → CraneRec) : (s.modCrane c f).move = s.move := rfl

@[simp] theorem State.modUnit_tab (u : UnitId) (f : UnitRec → UnitRec) : (s.modUnit u f).tab = s.tab := rfl
@[simp] theorem State.modUnit_crane (u : UnitId) (f : UnitRec → UnitRec) : (s.modUnit u f).crane = s.crane := rfl
@[simp] theorem State.modUnit_guard (u : UnitId) (f : UnitRec → UnitRec) : (s.modUnit u f).guard = s.guard := rfl
@[simp] theorem State.modUnit_flag (u : UnitId) (f : UnitRec → UnitRec) : (s.modUnit u f).flag = s.flag := rfl
@[simp] theorem State.modUnit_move (u : UnitId) (f : UnitRec → UnitRec) : (s.modUnit u f).move = s.move := rfl

@[simp] theorem State.setGuard_tab (z : Zone) (g : GuardRec) : (s.setGuard z g).tab = s.tab := rfl
@[simp] theorem State.setGuard_crane (z : Zone) (g : GuardRec) : (s.setGuard z g).crane = s.crane := rfl
@[simp] theorem State.setGuard_unit (z : Zone) (g : GuardRec) : (s.setGuard z g).unit = s.unit := rfl
@[simp] theorem State.setGuard_flag (z : Zone) (g : GuardRec) : (s.setGuard z g).flag = s.flag := rfl
@[simp] theorem State.setGuard_move (z : Zone) (g : GuardRec) : (s.setGuard z g).move = s.move := rfl

@[simp] theorem State.setFlagRec_tab (f : FlagId) (r : FlagRec) : (s.setFlagRec f r).tab = s.tab := rfl
@[simp] theorem State.setFlagRec_crane (f : FlagId) (r : FlagRec) : (s.setFlagRec f r).crane = s.crane := rfl
@[simp] theorem State.setFlagRec_unit (f : FlagId) (r : FlagRec) : (s.setFlagRec f r).unit = s.unit := rfl
@[simp] theorem State.setFlagRec_guard (f : FlagId) (r : FlagRec) : (s.setFlagRec f r).guard = s.guard := rfl
@[simp] theorem State.setFlagRec_move (f : FlagId) (r : FlagRec) : (s.setFlagRec f r).move = s.move := rfl

@[simp] theorem State.setQueue_tab (q : List MoveRec) : (s.setQueue q).tab = s.tab := rfl
@[simp] theorem State.setQueue_crane (q : List MoveRec) : (s.setQueue q).crane = s.crane := rfl
@[simp] theorem State.setQueue_unit (q : List MoveRec) : (s.setQueue q).unit = s.unit := rfl
@[simp] theorem State.setQueue_guard (q : List MoveRec) : (s.setQueue q).guard = s.guard := rfl
@[simp] theorem State.setQueue_flag (q : List MoveRec) : (s.setQueue q).flag = s.flag := rfl

@[simp] theorem State.modMove_tab (id : Nat) (f : MoveRec → MoveRec) : (s.modMove id f).tab = s.tab := rfl
@[simp] theorem State.modMove_crane (id : Nat) (f : MoveRec → MoveRec) : (s.modMove id f).crane = s.crane := rfl
@[simp] theorem State.modMove_unit (id : Nat) (f : MoveRec → MoveRec) : (s.modMove id f).unit = s.unit := rfl
@[simp] theorem State.modMove_guard (id : Nat) (f : MoveRec → MoveRec) : (s.modMove id f).guard = s.guard := rfl
@[simp] theorem State.modMove_flag (id : Nat) (f : MoveRec → MoveRec) : (s.modMove id f).flag = s.flag := rfl

end Readers

/-! ## Owners and updates -/

@[simp] theorem ownerOf_tableUnit (t : TableId) : ownerOf (tableUnit t) = .table t := by
  revert t
  decide

@[simp] theorem ownerOf_craneUnit (c : CraneId) : ownerOf (craneUnit c) = .crane c := by
  revert c
  decide

/-- An update of a record depends on what it makes of that record alone. -/
theorem State.modUnit_congr {s : State} {u : UnitId} {f g : UnitRec → UnitRec} (h : f (s.unit u) = g (s.unit u)) :
    s.modUnit u f = s.modUnit u g := by
  rw [State.modUnit, State.modUnit, h]

theorem State.modTab_congr {s : State} {t : TableId} {f g : TableRec → TableRec} (h : f (s.tab t) = g (s.tab t)) :
    s.modTab t f = s.modTab t g := by
  rw [State.modTab, State.modTab, h]

theorem State.modCrane_congr {s : State} {c : CraneId} {f g : CraneRec → CraneRec} (h : f (s.crane c) = g (s.crane c)) :
    s.modCrane c f = s.modCrane c g := by
  rw [State.modCrane, State.modCrane, h]

theorem State.unit_modUnit_of_ne (s : State) {u v : UnitId} (f : UnitRec → UnitRec) (h : v ≠ u) :
    (s.modUnit u f).unit v = s.unit v := by rw [State.unit_modUnit, if_neg h]

theorem State.tab_modTab_of_ne (s : State) {t k : TableId} (f : TableRec → TableRec) (h : k ≠ t) :
    (s.modTab t f).tab k = s.tab k := by rw [State.tab_modTab, if_neg h]

theorem State.crane_modCrane_of_ne (s : State) {c k : CraneId} (f : CraneRec → CraneRec) (h : k ≠ c) :
    (s.modCrane c f).crane k = s.crane k := by rw [State.crane_modCrane, if_neg h]

/-- A change that no beacon sees needs no further work. -/
theorem Quiet.settle {s t : State} (h : Quiet s t) (hs : s.settled) : t.settle = t := settle_of_settled (h.settled hs)

/-! ## A frame in the window of its unit (R194, R196) -/

section Window

variable {s : State} {v : UnitId} {e : Nat} (marker : Bool) (m : FieldMsg)

theorem receive_of_command (h : s.line.window = some { unit := v, kind := .command, expiry := e }) :
    s.receive (v.val + 1) marker m = s.receiveAnswer v marker m := by
  simp [State.receive, h]

theorem receive_of_offer (h : s.line.window = some { unit := v, kind := .offer, expiry := e }) :
    s.receive (v.val + 1) marker m = s.receiveReport v marker m := by
  simp [State.receive, h]

end Window

/-- What is no report and no EMPTY on the main channel is stray in an offer window. -/
theorem receiveReport_of_stray {s : State} {v : UnitId} {marker : Bool} {m : FieldMsg} (hreport : m.isReport = false)
    (hempty : m ≠ .empty) : s.receiveReport v marker m = s.stray v := by
  simp [State.receiveReport, hreport, hempty]

/-! ## Failures (R195) -/

section Failures

variable {s : State} {v : UnitId} {o : Outstanding}

/-- A failure that is not the last leaves the command DUE again at its next attempt. -/
theorem failCommand_again (cause : LossCause) (honline : (s.unit v).link = .online) (hfew : (s.unit v).fails < 2)
    (hout : (s.unit v).out = some o) : s.failCommand v cause = s.closeWindow.modUnit v (fun r =>
      { r with fails := (s.unit v).fails + 1, out := some { o with attempt := o.attempt + 1, inFlight := false } }) := by
  have hmin : min ((s.unit v).fails + 1) 3 = (s.unit v).fails + 1 := Nat.min_eq_left (by omega)
  have hmain : ¬ (s.unit v).link = .maintenance := by simp [honline]
  have hcount : ¬ 3 ≤ (s.unit v).fails + 1 := by omega
  simp only [State.failCommand, Config.maxFailures, hmin, honline, if_true, if_false, hcount, reduceCtorEq]
  have hout' : (s.closeWindow.unit v).out = some o := hout
  exact State.modUnit_congr (by rw [hout', Option.map_some])

/-- The third failure takes an ONLINE unit OFFLINE. -/
theorem failCommand_third (cause : LossCause) (honline : (s.unit v).link = .online) (hmany : 2 ≤ (s.unit v).fails) :
    s.failCommand v cause = s.closeWindow.lose v cause := by
  have hcount : 3 ≤ min ((s.unit v).fails + 1) 3 := by omega
  simp only [State.failCommand, Config.maxFailures, honline, if_true, if_false, hcount, reduceCtorEq]

/-- A failed attempt of a restore that is not its last. -/
theorem failCommand_restore_again (cause : LossCause) (hoff : (s.unit v).link ≠ .online)
    (hrestoring : (s.unit v).restoring = true) (hout : (s.unit v).out = some o) (hfew : o.attempt < 3) :
    s.failCommand v cause = s.closeWindow.modUnit v (fun r => { r with
      fails := if (s.unit v).link = .maintenance then (s.unit v).fails else min ((s.unit v).fails + 1) 3
      out := some { o with attempt := o.attempt + 1, inFlight := false } }) := by
  have hcount : ¬ 3 ≤ o.attempt := by omega
  simp only [State.failCommand, Config.maxFailures, hoff, hrestoring, hout, Option.any_some, decide_eq_true_eq, hcount,
    if_true, if_false]
  have hout' : (s.closeWindow.unit v).out = some o := hout
  exact State.modUnit_congr (by rw [hout', Option.map_some])

/-- The last attempt of a restore that fails. -/
theorem failCommand_restore_last (cause : LossCause) (hoff : (s.unit v).link ≠ .online)
    (hrestoring : (s.unit v).restoring = true) (hout : (s.unit v).out = some o) (hmany : 3 ≤ o.attempt) :
    s.failCommand v cause
      = s.closeWindow.restoreFailed v (if (s.unit v).link = .maintenance then 0 else 3) := by
  simp only [State.failCommand, Config.maxFailures, hoff, hrestoring, hout, Option.any_some, decide_eq_true_eq, hmany,
    if_true, if_false]

/-- The two events that fail the command in the open window without a frame. -/
theorem exec_of_failure {e : Nat} {i : Instr} {cause : LossCause} (hrun : s.hall.inReset = false)
    (hwindow : s.line.window = some { unit := v, kind := .command, expiry := e })
    (hi : (i = .fieldAnswerTimeout ∧ cause = .noAnswer ∧ e ≤ s.now) ∨ (i = .damagedFieldFrame ∧ cause = .badAnswer)) :
    exec i s = .next (s.failCommand v cause).settle := by
  obtain ⟨rfl, rfl, hdue⟩ | ⟨rfl, rfl⟩ := hi
  · have hover : s.windowOver .command = true := (windowOver_iff s _).2 ⟨_, hwindow, rfl, hdue⟩
    rw [exec_fieldAnswerTimeout, execFieldAnswerTimeout, handled_of_running _ s hrun, hwindow]
    simp only [hover, if_true]
  · rw [exec_damagedFieldFrame, execDamagedFieldFrame, handled_of_running _ s hrun, State.receiveDamaged, hwindow]

/-- An ACK that does not name the command in flight is a bad answer. -/
theorem exec_of_wrong_ack {e : Nat} (marker : Bool) {k : NamedCmd} (hrun : s.hall.inReset = false)
    (hwindow : s.line.window = some { unit := v, kind := .command, expiry := e }) (hout : (s.unit v).out = some o)
    (hk : k ≠ .cmd o.cmd.cmd.kind) : exec (.ack (v.val + 1) marker k) s = .next (s.failCommand v .badAnswer).settle := by
  rw [exec_ack, execAck, handled_of_running _ s hrun, receive_of_command _ _ hwindow, State.receiveAnswer, hout]
  simp [goodAnswerOf, hk]

end Failures

/-! ## The loss of a table's unit (R93, R197) -/

/-- Out of the lists of flags, queue space and arc waiters: what else is kept. -/
theorem leaveLists_frame (s : State) (t : TableId) (hwaits : ∀ k ∈ s.alloc.waits, k.table ≠ t)
    (hqueue : ∀ k ∈ s.composer.queue, k.table ≠ t) :
    ∃ fs ms gs, ((((s.dropWait t).dropMark t).dropWaiter t).leaveSpace t).dropArcWaiter t
      = { s with flags := fs, moves := ms, guards := gs } := by
  have hwait : s.dropWait t = s := by
    rw [State.dropWait, List.filter_eq_self.2 (fun k hk => by simpa using hwaits k hk)]
    rfl
  have hmark : s.dropMark t = s := by
    rw [State.dropMark, List.filter_eq_self.2 (fun k hk => by simpa using hqueue k hk)]
    rfl
  rw [hwait, hmark]
  unfold State.dropArcWaiter
  split
  · exact ⟨_, _, s.guards, rfl⟩
  · exact ⟨_, _, _, rfl⟩

/-- An IDLE table without a program, that no list holds, is OFFLINE after the loss of its unit. -/
theorem runTableLost_of_idle {s : State} {t : TableId} (hidle : (s.tab t).state = .idle)
    (hwaits : ∀ k ∈ s.alloc.waits, k.table ≠ t) (hqueue : ∀ k ∈ s.composer.queue, k.table ≠ t)
    (hclaim : (s.tab t).claim = .none) (hactive : (s.tab t).active = none) :
    ∃ fs ms gs, runTableLost t s = (({ s with flags := fs, moves := ms, guards := gs } : State).modTab t (fun r =>
      { r with state := .offline, cause := none, timer := none })).raise (.tableState t .offline none none none) := by
  obtain ⟨fs, ms, gs, hframe⟩ := leaveLists_frame s t hwaits hqueue
  let s1 : State := { s with flags := fs, moves := ms, guards := gs }
  let s2 := s1.modTab t (fun r => { r with timer := none })
  have htab : s2.tab t = { s.tab t with timer := none } := State.tab_modTab_same ..
  have hkeep : s2.returnReservation t = s2 := by
    rw [State.returnReservation, htab, hclaim]
  have hreport (s3 : State) (h : s3.tab t = { s.tab t with state := .offline, cause := none, timer := none }) :
      s3.tableReport t = .tableState t .offline none none none := by
    simp [State.tableReport, h, hactive]
  have htwice : (s2.modTab t (fun r => { r with state := .offline, cause := none }))
      = s1.modTab t (fun r => { r with state := .offline, cause := none, timer := none }) := State.modTab_modTab ..
  refine ⟨fs, ms, gs, ?_⟩
  rw [runTableLost, hframe, hkeep, enter_of_other (by rw [htab, hidle]; decide), htwice, hreport]
  exact State.tab_modTab_same s1 t _

/-- The loss of the unit of an IDLE table. -/
theorem settle_lose_of_idle {s : State} (hset : s.settled) {t : TableId} (cause : LossCause)
    (hwindow : s.line.window = none) (hidle : (s.tab t).state = .idle)
    (hwaits : ∀ k ∈ s.alloc.waits, k.table ≠ t) (hqueue : ∀ k ∈ s.composer.queue, k.table ≠ t)
    (hctx : ∀ k, s.composer.ctx = some k → k.entry.table ≠ t) (hclaim : (s.tab t).claim = .none)
    (hactive : (s.tab t).active = none) :
    ∃ fs ms gs, (s.lose (tableUnit t) cause).settle = ((({ ((s.modUnit (tableUnit t) (fun r =>
        { r with link := .offline, fails := 3, out := none, waiting := [] })).raise
          (.unitOffline (tableUnit t) cause ((s.unit (tableUnit t)).out.map (fun o => (o.cmd.cmd.kind, o.attempt)))
            s.hall.clock)).capture .unit (.table t) .unitLost none with flags := fs, moves := ms, guards := gs } : State).modTab t
        (fun r => { r with state := .offline, cause := none, timer := none })).raise
          (.tableState t .offline none none none)).followBeacons := by
  let s1 := ((s.modUnit (tableUnit t) (fun r =>
      { r with link := .offline, fails := 3, out := none, waiting := [] })).raise
        (.unitOffline (tableUnit t) cause ((s.unit (tableUnit t)).out.map (fun o => (o.cmd.cmd.kind, o.attempt)))
          s.hall.clock)).capture .unit (.table t) .unitLost none
  obtain ⟨fault, host, hcapture⟩ := capture_frame ((s.modUnit (tableUnit t) (fun r =>
      { r with link := .offline, fails := 3, out := none, waiting := [] })).raise
        (.unitOffline (tableUnit t) cause ((s.unit (tableUnit t)).out.map (fun o => (o.cmd.cmd.kind, o.attempt)))
          s.hall.clock)) .unit (.table t) .unitLost none
  have hs1 : s1 = _ := hcapture
  have hlose : s.lose (tableUnit t) cause = s1.push [.tableLost t, .composerLost t] := by
    unfold State.lose
    simp only [State.modUnit_line, hwindow, Option.any_none, Bool.false_eq_true, if_false, ownerOf_tableUnit]
    rfl
  have htab : s1.tab = s.tab := by rw [hs1]; rfl
  obtain ⟨fs, ms, gs, hlost⟩ := runTableLost_of_idle (s := s1.push [.composerLost t]) (t := t)
    (show (s1.tab t).state = .idle by rw [htab]; exact hidle)
    (show ∀ k ∈ s1.alloc.waits, k.table ≠ t by rw [hs1]; exact hwaits)
    (show ∀ k ∈ s1.composer.queue, k.table ≠ t by rw [hs1]; exact hqueue)
    (show (s1.tab t).claim = .none by rw [htab]; exact hclaim) (show (s1.tab t).active = none by rw [htab]; exact hactive)
  refine ⟨fs, ms, gs, ?_⟩
  let s2 := (({ s1 with flags := fs, moves := ms, guards := gs } : State).modTab t
    (fun r => { r with state := .offline, cause := none, timer := none })).raise (.tableState t .offline none none none)
  have hserved : runTask (.composerLost t) s2 = s2 := by
    have hcomposer : s2.composer.ctx = s.composer.ctx := by
      show s1.composer.ctx = _
      rw [hs1]
      rfl
    have hnot : s2.composer.ctx.any (fun c => c.entry.table = t) = false := by
      rw [hcomposer, Option.any_eq_false]
      exact fun k hk => by simpa using hctx k hk
    show runComposerLost t s2 = s2
    rw [runComposerLost, if_neg (by simp [hnot])]
  have hcomes : (s1.push [.tableLost t, .composerLost t]).comesTo 2 s2 :=
    (comesTo_push (.tableLost t) [.composerLost t] hlost).trans (comesTo_push (s := s2) _ [] hserved)
  have hwork : s2.work = [] := by show s1.work = []; rw [hs1]; exact hset.1
  have hclean : s2.stock.changed = false := by show s1.stock.changed = false; rw [hs1]; exact hset.2.1
  rw [hlose, settle_of_comesTo_clean hcomes (by decide) hwork hclean]

/-! ## A restore that fails (R198) -/

/-- The end of a restore changes the unit, the line's window, the reply, and for a crane what it awaits. -/
theorem restoreFailed_spec {s : State} {v : UnitId} (fails : Nat) (hwaiting : (s.unit v).waiting = []) :
    Quiet s (s.restoreFailed v fails)
    ∧ (s.restoreFailed v fails).unit v = { s.unit v with restoring := false, out := none, fails := fails }
    ∧ (∀ w, w ≠ v → (s.restoreFailed v fails).unit w = s.unit w)
    ∧ (s.restoreFailed v fails).line.window = s.line.window
    ∧ (s.restoreFailed v fails).host = (if s.host.hand = .waiting (.unitRestore v) then
        { s.host with hand := .ready (.refuse .unitLost .none) } else s.host)
    ∧ (s.restoreFailed v fails).tables = s.tables ∧ (s.restoreFailed v fails).stock = s.stock
    ∧ (s.restoreFailed v fails).moves.queue = s.moves.queue ∧ (s.restoreFailed v fails).hall = s.hall := by
  let s1 := s.modUnit v (fun r => { r.next with restoring := false, fails := fails })
  have hnext : (s.unit v).next = { s.unit v with out := none } := by simp only [UnitRec.next, hwaiting]
  obtain ⟨cs, hawaited⟩ : ∃ cs, s1.endAwaited v = { s1 with moves := { s1.moves with cranes := cs } } := by
    unfold State.endAwaited
    split
    · exact ⟨s1.moves.cranes, rfl⟩
    · exact ⟨_, rfl⟩
  have hquiet : Quiet s (s1.endAwaited v) := by
    unfold State.endAwaited
    split <;> simp [s1, Quiet.refl]
  have hunit : s1.unit v = { s.unit v with restoring := false, out := none, fails := fails } := by
    rw [State.unit_modUnit_same, hnext]
  have hother (w : UnitId) (hw : w ≠ v) : s1.unit w = s.unit w := State.unit_modUnit_of_ne s _ hw
  have heq : s.restoreFailed v fails = if s.host.hand = .waiting (.unitRestore v) then
      (s1.endAwaited v).refuse .unitLost else s1.endAwaited v := by
    unfold State.restoreFailed
    dsimp only
    rw [hawaited]
    rfl
  rw [heq]
  split
  · refine ⟨(quiet_refuse _).2 hquiet, ?_⟩
    rw [hawaited]
    exact ⟨hunit, hother, rfl, rfl, rfl, rfl, rfl, rfl⟩
  · refine ⟨hquiet, ?_⟩
    rw [hawaited]
    exact ⟨hunit, hother, rfl, rfl, rfl, rfl, rfl, rfl⟩

end Sys2Proof.Machine

/-! Settles the failures on the field line (R194 to R198), and what UNIT_MAINTAIN and UNIT_RESTORE do (R94, R177, R198,
R199). -/

namespace Sys2Proof.Machine

/-! ## Failures of an ONLINE unit -/

/-- A first or second failure, whatever the unit's owner. -/
theorem settle_failCommand_again {s : State} (hset : s.settled) {v : UnitId} {o : Outstanding} (cause : LossCause)
    (honline : (s.unit v).link = .online) (hfew : (s.unit v).fails < 2) (hout : (s.unit v).out = some o) :
    (s.failCommand v cause).settle = s.closeWindow.modUnit v (fun r =>
      { r with fails := (s.unit v).fails + 1, out := some { o with attempt := o.attempt + 1, inFlight := false } }) := by
  rw [failCommand_again cause honline hfew hout]
  exact Quiet.settle (by simp [Quiet.refl]) hset

/-- What the loss of the unit of an IDLE table leaves, field by field. -/
theorem lost_spec {s : State} (hset : s.settled) {t : TableId} {o : Outstanding} (cause : LossCause)
    (hwindow : s.line.window = none) (hout : (s.unit (tableUnit t)).out = some o)
    (hidle : (s.tab t).state = .idle) (hwaits : ∀ k ∈ s.alloc.waits, k.table ≠ t)
    (hqueue : ∀ k ∈ s.composer.queue, k.table ≠ t) (hctx : ∀ k, s.composer.ctx = some k → k.entry.table ≠ t)
    (hclaim : (s.tab t).claim = .none) (hactive : (s.tab t).active = none) :
    ∃ u : State, (s.lose (tableUnit t) cause).settle = u
      ∧ u.unit (tableUnit t) = { s.unit (tableUnit t) with link := .offline, fails := 3, out := none, waiting := [] }
      ∧ (∀ w, w ≠ tableUnit t → u.unit w = s.unit w)
      ∧ u.line.window = none
      ∧ u.tab t = { s.tab t with state := .offline, cause := none, timer := none }
      ∧ (∀ k, k ≠ t → u.tab k = s.tab k)
      ∧ (s.hall.fault.held = none → u.hall.fault.held = some
          { cls := .unit, src := .table t, code := .unitLost, clock := s.hall.clock, index := none })
      ∧ (∀ g, s.hall.fault.held = some g → 2 ≤ g.cls.rank → u.host =
          (s.host.report (.unitOffline (tableUnit t) cause (some (o.cmd.cmd.kind, o.attempt)) s.hall.clock)).report
            (.tableState t .offline none none none))
      ∧ u.stock = s.stock ∧ u.alloc = s.alloc ∧ u.composer = s.composer := by
  let s1 := (s.modUnit (tableUnit t) (fun r => { r with link := .offline, fails := 3, out := none, waiting := [] })).raise
    (.unitOffline (tableUnit t) cause (some (o.cmd.cmd.kind, o.attempt)) s.hall.clock)
  obtain ⟨fs, ms, gs, hsettle⟩ := settle_lose_of_idle hset cause hwindow hidle hwaits hqueue hctx hclaim hactive
  rw [hout, Option.map_some] at hsettle
  obtain ⟨fault, host, hcapture⟩ := capture_frame s1 .unit (.table t) .unitLost none
  obtain ⟨hempty, -, hheld⟩ := firstFaultRecordKeepsTheMostSerious .unit (.table t) .unitLost none s1
  refine ⟨_, hsettle, ?_, fun w hw => ?_, ?_, ?_, fun k hk => ?_, fun hnone => ?_, fun g hg hrank => ?_, ?_, ?_, ?_⟩
  · show (s1.capture .unit (.table t) .unitLost none).unit (tableUnit t) = _
    rw [hcapture]
    exact State.unit_modUnit_same s (tableUnit t) (fun r => { r with link := .offline, fails := 3, out := none, waiting := [] })
  · show (s1.capture .unit (.table t) .unitLost none).unit w = _
    rw [hcapture]
    exact State.unit_modUnit_of_ne s (fun r => { r with link := .offline, fails := 3, out := none, waiting := [] }) hw
  · show (s1.capture .unit (.table t) .unitLost none).line.window = none
    rw [hcapture]
    exact hwindow
  · have htab : (s1.capture .unit (.table t) .unitLost none).tab t = s.tab t := by rw [hcapture]; rfl
    rw [← htab]
    rw [followBeacons_tab, State.raise_tab]
    exact State.tab_modTab_same { s1.capture .unit (.table t) .unitLost none with flags := fs, moves := ms, guards := gs } t _
  · have htab : (s1.capture .unit (.table t) .unitLost none).tab k = s.tab k := by rw [hcapture]; rfl
    rw [← htab]
    rw [followBeacons_tab, State.raise_tab]
    exact State.tab_modTab_of_ne { s1.capture .unit (.table t) .unitLost none with flags := fs, moves := ms, guards := gs } _ hk
  · show (s1.capture .unit (.table t) .unitLost none).hall.fault.held = _
    rw [hempty hnone]
    rfl
  · have hhost : (s1.capture .unit (.table t) .unitLost none).host = s1.host := by rw [hheld g hg hrank]
    exact congrArg (fun h : HostLine => h.report (.tableState t .offline none none none)) hhost
  · show (s1.capture .unit (.table t) .unitLost none).stock = _
    rw [hcapture]
    rfl
  · show (s1.capture .unit (.table t) .unitLost none).alloc = _
    rw [hcapture]
    rfl
  · show (s1.capture .unit (.table t) .unitLost none).composer = _
    rw [hcapture]
    rfl

section OfferWindow

variable {s : State} {v : UnitId} {e : Nat} (hrun : s.hall.inReset = false) (hset : s.settled)
  (hwindow : s.line.window = some { unit := v, kind := .offer, expiry := e })
include hrun hset hwindow

theorem exec_empty_of_offer : exec (.empty (v.val + 1) false) s = .next s.closeWindow := by
  have hreport : s.receiveReport v false .empty = s.closeWindow := rfl
  rw [exec_empty, execEmpty, handled_of_running _ s hrun, receive_of_offer _ _ hwindow, hreport]
  exact congrArg _ (Quiet.settle (by simp [Quiet.refl]) hset)

/-- An answer to no command in an offer window is stray and leaves the window open. -/
theorem exec_stray_of_offer (marker : Bool) {m : FieldMsg} {i : Instr}
    (hi : exec i s = handled (fun s => s.receive (v.val + 1) marker m) s) (hreport : m.isReport = false) (hempty : m ≠ .empty) :
    exec i s = .next (s.modUnit v (fun r => { r with strays := min (r.strays + 1) 65535 })) := by
  rw [hi, handled_of_running _ s hrun, receive_of_offer _ _ hwindow, receiveReport_of_stray hreport hempty]
  exact congrArg _ (Quiet.settle (by simp [State.stray, Quiet.refl]) hset)

omit hset in
theorem exec_offerWindowTimeout_of_offer :
    exec .offerWindowTimeout s = .next (if e ≤ s.now then s.closeWindow else s) := by
  have hover : s.windowOver .offer = true ↔ e ≤ s.now := by simp [windowOver_iff, hwindow]
  rw [exec_offerWindowTimeout, execOfferWindowTimeout, plain_of_running _ s hrun]
  simp only [hover]

/-- A damaged frame in an offer window counts a failure. -/
theorem exec_damaged_of_offer (honline : (s.unit v).link = .online) (hfew : (s.unit v).fails < 2) :
    exec .damagedFieldFrame s = .next (s.closeWindow.modUnit v (fun r => { r with fails := r.fails + 1 })) := by
  have hcount : ¬ 3 ≤ (s.unit v).fails + 1 := by omega
  have hfail : s.receiveDamaged = s.closeWindow.modUnit v (fun r => { r with fails := r.fails + 1 }) := by
    have honline' : (s.closeWindow.unit v).link = .online := honline
    have hcount' : ¬ 3 ≤ (s.closeWindow.unit v).fails + 1 := hcount
    simp only [State.receiveDamaged, hwindow, State.failReport, honline', Config.maxFailures, hcount', if_true, if_false]
  rw [exec_damagedFieldFrame, execDamagedFieldFrame, handled_of_running _ s hrun, hfail]
  exact congrArg _ (Quiet.settle (by simp [Quiet.refl]) hset)

end OfferWindow

/-- Settles O60: by the window that is open, the failures counted and the unit's link. -/
theorem failuresTakeAUnitOffline : Obligations.FailuresTakeAUnitOffline := by
  refine ⟨fun s v e hrun hset honline => ⟨fun o i cause hwindow hout hi => ?_, fun hwindow => ⟨?_, fun marker k x i hi => ?_,
    fun hdue => ?_, fun hearly => ?_, fun hfew => ?_⟩⟩,
    fun s v e o i hrun hset hoff hrestoring hwindow hout hi => ⟨fun hfew => ?_, fun hmany hwaiting => ?_⟩⟩
  · have hexec : exec i s = .next (s.failCommand v cause).settle := by
      obtain h | h | ⟨rfl, marker, k, rfl, hk⟩ := hi
      · exact exec_of_failure hrun hwindow (.inl h)
      · exact exec_of_failure hrun hwindow (.inr h)
      · exact exec_of_wrong_ack marker hrun hwindow hout hk
    rw [hexec]
    refine ⟨fun hfew => ?_, fun t hmany hv hidle hwaits hqueue hctx hclaim hactive => ?_⟩
    · rw [settle_failCommand_again hset cause honline hfew hout]
      exact ⟨_, rfl, State.unit_modUnit_same .., fun w hw => State.unit_modUnit_of_ne s.closeWindow _ hw, rfl, rfl⟩
    · subst hv
      rw [failCommand_third cause honline hmany]
      obtain ⟨u, hu, hspec⟩ := lost_spec (s := s.closeWindow)
        (Quiet.settled (by simp [Quiet.refl]) hset) cause rfl hout hidle hwaits hqueue hctx hclaim hactive
      exact ⟨u, congrArg _ hu, hspec⟩
  · exact exec_empty_of_offer hrun hset hwindow
  · simp only [List.mem_cons, List.not_mem_nil, or_false] at hi
    obtain rfl | rfl | rfl := hi
    · exact exec_stray_of_offer hrun hset hwindow marker (exec_ack ..) rfl nofun
    · exact exec_stray_of_offer hrun hset hwindow marker (exec_nak ..) rfl nofun
    · exact exec_stray_of_offer hrun hset hwindow marker (exec_status ..) rfl nofun
  · rw [exec_offerWindowTimeout_of_offer hrun hwindow, if_pos hdue]
    rfl
  · rw [exec_offerWindowTimeout_of_offer hrun hwindow, if_neg (Nat.not_le.2 hearly)]
  · exact ⟨_, exec_damaged_of_offer hrun hset hwindow honline hfew, State.unit_modUnit_same ..,
      fun w hw => State.unit_modUnit_of_ne s.closeWindow _ hw, rfl, rfl⟩
  · have hnot : (s.unit v).link ≠ .online := by rintro h; simp [h] at hoff
    have hexec : exec i s = .next (s.failCommand v (if i = .damagedFieldFrame then .badAnswer else .noAnswer)).settle := by
      obtain ⟨rfl, hdue⟩ | rfl := hi
      · exact exec_of_failure hrun hwindow (.inl ⟨rfl, rfl, hdue⟩)
      · exact exec_of_failure hrun hwindow (.inr ⟨rfl, rfl⟩)
    rw [hexec, failCommand_restore_again _ hnot hrestoring hout hfew]
    exact ⟨_, congrArg _ (Quiet.settle (by simp [Quiet.refl]) hset), State.unit_modUnit_same ..,
      fun w hw => State.unit_modUnit_of_ne s.closeWindow _ hw, rfl, rfl⟩
  · have hnot : (s.unit v).link ≠ .online := by rintro h; simp [h] at hoff
    have hexec : exec i s = .next (s.failCommand v (if i = .damagedFieldFrame then .badAnswer else .noAnswer)).settle := by
      obtain ⟨rfl, hdue⟩ | rfl := hi
      · exact exec_of_failure hrun hwindow (.inl ⟨rfl, rfl, hdue⟩)
      · exact exec_of_failure hrun hwindow (.inr ⟨rfl, rfl⟩)
    obtain ⟨hquiet, hunit, hother, hclosed, hhost, htables, hstock, hmoves, hhall⟩ :=
      restoreFailed_spec (s := s.closeWindow) (v := v) (if (s.unit v).link = .maintenance then 0 else 3) hwaiting
    have hquiet' : Quiet s s.closeWindow := by simp [Quiet.refl]
    rw [hexec, failCommand_restore_last _ hnot hrestoring hout hmany]
    exact ⟨_, congrArg _ (hquiet.settle (hquiet'.settled hset)), hunit, hother, hclosed, hhost, htables, hstock, hmoves, hhall⟩

end Sys2Proof.Machine

/-! The common tests of the requests (R53, R180, R198), and the requests UNIT_RESTORE, UNIT_MAINTAIN and UNIT_QUERY with the
restore of a unit (R94, R177, R198, R199, R201). -/

namespace Sys2Proof.Machine

/-! ## The common tests of the requests -/

section Tests

variable {s : State} {n : Nat}

theorem withTable_of_range {f : TableId → State} (h : n < 1 ∨ 4 < n) : s.withTable n f = s.refuse .range := by
  rw [State.withTable, numbered_eq_none_iff.2 (by omega)]

theorem withTable_of_absent {f : TableId → State} {t : TableId} (h : (s.tab t).state = .absent) :
    s.withTable (t.val + 1) f = s.refuse .unitAbsent := by
  rw [State.withTable, numbered_val_add_one]
  exact if_pos h

theorem withTable_of_fitted {f : TableId → State} {t : TableId} (h : (s.tab t).state ≠ .absent) :
    s.withTable (t.val + 1) f = f t := by
  rw [State.withTable, numbered_val_add_one]
  exact if_neg h

theorem withCrane_of_range {f : CraneId → State} (h : n < 1 ∨ 2 < n) : s.withCrane n f = s.refuse .range := by
  rw [State.withCrane, numbered_eq_none_iff.2 (by omega)]

theorem withCrane_of_absent {f : CraneId → State} {c : CraneId} (h : (s.crane c).state = .absent) :
    s.withCrane (c.val + 1) f = s.refuse .unitAbsent := by
  rw [State.withCrane, numbered_val_add_one]
  exact if_pos h

theorem withCrane_of_fitted {f : CraneId → State} {c : CraneId} (h : (s.crane c).state ≠ .absent) :
    s.withCrane (c.val + 1) f = f c := by
  rw [State.withCrane, numbered_val_add_one]
  exact if_neg h

theorem withUnit_of_range {f : UnitId → State} (h : n < 1 ∨ 6 < n) : s.withUnit n f = s.refuse .range := by
  rw [State.withUnit, numbered_eq_none_iff.2 (by omega)]

theorem withUnit_of_absent {f : UnitId → State} {v : UnitId} (h : (s.unit v).link = .absent) :
    s.withUnit (v.val + 1) f = s.refuse .unitAbsent := by
  rw [State.withUnit, numbered_val_add_one]
  exact if_pos h

theorem withUnit_of_fitted {f : UnitId → State} {v : UnitId} (h : (s.unit v).link ≠ .absent) :
    s.withUnit (v.val + 1) f = f v := by
  rw [State.withUnit, numbered_val_add_one]
  exact if_neg h

theorem notInSetup_of_setup {k : State} (h : s.hall.mode = .setup) : s.notInSetup k = s.refuse .badState := if_pos h

theorem notInSetup_of_running {k : State} (h : s.hall.mode ≠ .setup) : s.notInSetup k = k := if_neg h

end Tests

/-! ## The arms -/

theorem exec_unitRestore (n : Nat) (s : State) : exec (.unitRestore n) s = execUnitRestore n s := by rfl

theorem exec_unitMaintain (n : Nat) (s : State) : exec (.unitMaintain n) s = execUnitMaintain n s := by rfl

theorem exec_unitQuery (n : Nat) (s : State) : exec (.unitQuery n) s = execUnitQuery n s := by rfl

/-! ## UNIT_RESTORE (R198) -/

section UnitRestore

variable {s : State} {n : Nat} (hset : s.settled)
include hset

theorem exec_unitRestore_of_range (htakes : s.takes (.unitRestore n)) (h : n < 1 ∨ 6 < n) :
    exec (.unitRestore n) s = .next (s.refuse .range) := by
  rw [exec_unitRestore, execUnitRestore, request_of_takes _ _ s htakes, withUnit_of_range h, settle_refuse s hset]

variable {v : UnitId} (htakes : s.takes (.unitRestore (v.val + 1)))
include htakes

theorem exec_unitRestore_of_absent (h : (s.unit v).link = .absent) :
    exec (.unitRestore (v.val + 1)) s = .next (s.refuse .unitAbsent) := by
  rw [exec_unitRestore, execUnitRestore, request_of_takes _ _ s htakes, withUnit_of_absent h, settle_refuse s hset]

theorem exec_unitRestore_of_online (h : (s.unit v).link = .online) :
    exec (.unitRestore (v.val + 1)) s = .next (s.refuse .badState) := by
  rw [exec_unitRestore, execUnitRestore, request_of_takes _ _ s htakes, withUnit_of_fitted (by rw [h]; decide), if_pos h,
    settle_refuse s hset]

variable (hlink : (s.unit v).link = .offline ∨ (s.unit v).link = .maintenance)
include hlink

theorem exec_unitRestore_of_restoring (h : (s.unit v).restoring = true) :
    exec (.unitRestore (v.val + 1)) s = .next (s.refuse .busy) := by
  have habsent : (s.unit v).link ≠ .absent := by rintro h; simp [h] at hlink
  have honline : (s.unit v).link ≠ .online := by rintro h; simp [h] at hlink
  rw [exec_unitRestore, execUnitRestore, request_of_takes _ _ s htakes, withUnit_of_fitted habsent, if_neg honline, if_pos h,
    settle_refuse s hset]

omit hset htakes hlink in
/-- The state of a unit whose restore begins, with its STATUS_QUERY outstanding. -/
theorem beginRestore_spec (hfree : (s.unit v).out = none) :
    let u := (((s.modUnit v (fun r => { r with restoring := true, fails := 0 })).awaitRestore v).handTo v .statusQuery
      .restore).setHand (.waiting (.unitRestore v))
    Quiet s u
    ∧ u.host = { s.host with hand := .waiting (.unitRestore v) }
    ∧ u.unit v = { s.unit v with
        restoring := true, fails := 0
        out := some { cmd := { cmd := .statusQuery, sender := .restore, hand := s.line.nextHand },
                      attempt := 1, inFlight := false } }
    ∧ (∀ w, w ≠ v → u.unit w = s.unit w)
    ∧ u.tables = s.tables ∧ u.stock = s.stock ∧ u.guards = s.guards ∧ u.moves.queue = s.moves.queue := by
  intro u
  let s1 := s.modUnit v (fun r => { r with restoring := true, fails := 0 })
  obtain ⟨cs, hawait⟩ : ∃ cs, s1.awaitRestore v = { s1 with moves := { s1.moves with cranes := cs } } := by
    unfold State.awaitRestore
    split
    · exact ⟨s1.moves.cranes, rfl⟩
    · exact ⟨_, rfl⟩
  have hquiet : Quiet s (s1.awaitRestore v) := by
    unfold State.awaitRestore
    split <;> simp [s1, Quiet.refl]
  have hunit : (s1.awaitRestore v).unit v = { s.unit v with restoring := true, fails := 0 } := by
    rw [hawait]
    exact State.unit_modUnit_same s v (fun r => { r with restoring := true, fails := 0 })
  have hu : u = (((s1.awaitRestore v).countHand).modUnit v (fun r => { r with
      out := some { cmd := (s1.awaitRestore v).handing .statusQuery .restore, attempt := 1, inFlight := false } })).setHand
        (.waiting (.unitRestore v)) :=
    congrArg (fun t : State => t.setHand (.waiting (.unitRestore v)))
      (handTo_of_free (by rw [hunit]; simp [UnitRec.takes]) (by rw [hunit]; exact hfree))
  have hnumber : (s1.awaitRestore v).line.nextHand = s.line.nextHand := by rw [hawait]; rfl
  rw [hu]
  refine ⟨by simpa [State.countHand] using hquiet, ?_, ?_, fun w hw => ?_, ?_, ?_, ?_, ?_⟩
  · rw [hawait]; rfl
  · rw [State.setHand_unit, State.unit_modUnit_same, State.countHand_unit, hunit, State.handing, hnumber]
  · rw [State.setHand_unit, State.unit_modUnit_of_ne _ _ hw, State.countHand_unit, hawait]
    exact State.unit_modUnit_of_ne s (fun r => { r with restoring := true, fails := 0 }) hw
  all_goals rw [hawait]; rfl

theorem exec_unitRestore_of_free (hfree : (s.unit v).out = none) (hrestoring : (s.unit v).restoring = false) :
    ∃ u : State, exec (.unitRestore (v.val + 1)) s = .next u
      ∧ u.host = { s.host with hand := .waiting (.unitRestore v) }
      ∧ u.unit v = { s.unit v with
          restoring := true, fails := 0
          out := some { cmd := { cmd := .statusQuery, sender := .restore, hand := s.line.nextHand },
                        attempt := 1, inFlight := false } }
      ∧ (∀ w, w ≠ v → u.unit w = s.unit w)
      ∧ u.tables = s.tables ∧ u.stock = s.stock ∧ u.guards = s.guards ∧ u.moves.queue = s.moves.queue := by
  have habsent : (s.unit v).link ≠ .absent := by rintro h; simp [h] at hlink
  have honline : (s.unit v).link ≠ .online := by rintro h; simp [h] at hlink
  obtain ⟨hquiet, hspec⟩ := beginRestore_spec hfree
  refine ⟨_, ?_, hspec⟩
  rw [exec_unitRestore, execUnitRestore, request_of_takes _ _ s htakes, withUnit_of_fitted habsent, if_neg honline,
    if_neg (by simp [hrestoring])]
  exact congrArg _ (hquiet.settle hset)

end UnitRestore

/-! ## A good STATUS of a restore (R94, R177, R198) -/

theorem State.modUnit_modUnit (s : State) (u : UnitId) (f g : UnitRec → UnitRec) :
    (s.modUnit u f).modUnit u g = s.modUnit u (fun r => g (f r)) := by
  have hunit := State.unit_modUnit_same s u f
  show ({ s with line := { s.line with units := ((s.modUnit u f).line.units).set u.val (g ((s.modUnit u f).unit u)) u.isLt } }
    : State) = _
  rw [hunit, State.modUnit_line, Vector.set_set]
  rfl

/-- The unit of a restore whose exchange has ended well (R198). -/
def State.backOnline (s : State) (v : UnitId) (content : StatusContent) : State :=
  (s.closeWindow.modUnit v (fun r => { r with out := none, restoring := false, fails := 0, link := .online })).raise
    (.unitBack v (s.unit v).link content s.hall.clock)

/-- The exchange of a restore ends, and the unit is ONLINE. -/
theorem backOnline_eq {s t : State} {v : UnitId} (content : StatusContent) (hwaiting : (s.unit v).waiting = [])
    (ht : t = s.closeWindow.modUnit v (fun r => { r.next with fails := 0 })) :
    (t.unit v).link = (s.unit v).link
    ∧ (t.modUnit v (fun r => { r with restoring := false, fails := 0, link := .online })).raise
      (.unitBack v (t.unit v).link content t.hall.clock) = s.backOnline v content := by
  have hnext : (s.unit v).next = { s.unit v with out := none } := by simp only [UnitRec.next, hwaiting]
  have hlink : (t.unit v).link = (s.unit v).link := by
    rw [ht, State.unit_modUnit_same, State.closeWindow_unit, hnext]
  have htwice : t.modUnit v (fun r => { r with restoring := false, fails := 0, link := .online })
      = s.closeWindow.modUnit v (fun r => { r with out := none, restoring := false, fails := 0, link := .online }) := by
    rw [ht, State.modUnit_modUnit]
    exact State.modUnit_congr (by rw [State.closeWindow_unit, hnext])
  refine ⟨hlink, ?_⟩
  rw [htwice, hlink, ht]
  rfl

theorem restoreGood_table (s : State) (t : TableId) (on : Bool) : s.restoreGood (tableUnit t) (.arc on)
    = ((s.modUnit (tableUnit t) (fun r => { r with restoring := false, fails := 0, link := .online })).raise
        (.unitBack (tableUnit t) (s.unit (tableUnit t)).link (.arc on) s.hall.clock)).push
          [.tableBack t on, .replyRestored (tableUnit t) (s.unit (tableUnit t)).link (.arc on)] := by
  simp only [State.restoreGood, ownerOf_tableUnit]
  rfl

theorem restoreGood_crane (s : State) (c : CraneId) (z : Zone) (load : Bool) :
    s.restoreGood (craneUnit c) (.crane z.val load)
      = ((s.modUnit (craneUnit c) (fun r => { r with restoring := false, fails := 0, link := .online })).raise
        (.unitBack (craneUnit c) (s.unit (craneUnit c)).link (.crane z.val load) s.hall.clock)).push
          [.craneBack c z load, .replyRestored (craneUnit c) (s.unit (craneUnit c)).link (.crane z.val load)] := by
  simp only [State.restoreGood, ownerOf_craneUnit, z.isLt, dif_pos]
  rfl

/-- The STATUS that answers the STATUS_QUERY of a restore goes to the field line itself. -/
theorem comesTo_of_restore {s : State} {v : UnitId} {o : Outstanding} (content : StatusContent)
    (hsender : o.cmd.sender = .restore) : (s.goodAnswer v o (.status content)).comesTo 1
      ((s.closeWindow.modUnit v (fun r => { r.next with fails := 0 })).restoreGood v content) :=
  comesTo_push _ [] (by simp only [State.push_nil, runTask, runAnswered, hsender])

theorem comesTo_of_restore_table {s : State} {t : TableId} {o : Outstanding} (on : Bool)
    (hwaiting : (s.unit (tableUnit t)).waiting = []) (hsender : o.cmd.sender = .restore) :
    (s.goodAnswer (tableUnit t) o (.status (.arc on))).comesTo 1 ((s.backOnline (tableUnit t) (.arc on)).push
      [.tableBack t on, .replyRestored (tableUnit t) (s.unit (tableUnit t)).link (.arc on)]) := by
  have hcomes := comesTo_of_restore (s := s) (v := tableUnit t) (.arc on) hsender
  obtain ⟨hlink, hback⟩ := backOnline_eq (.arc on) hwaiting rfl
  rwa [restoreGood_table, hback, hlink] at hcomes

theorem comesTo_of_restore_crane {s : State} {c : CraneId} {o : Outstanding} (z : Zone) (load : Bool)
    (hwaiting : (s.unit (craneUnit c)).waiting = []) (hsender : o.cmd.sender = .restore) :
    (s.goodAnswer (craneUnit c) o (.status (.crane z.val load))).comesTo 1
      ((s.backOnline (craneUnit c) (.crane z.val load)).push [.craneBack c z load,
        .replyRestored (craneUnit c) (s.unit (craneUnit c)).link (.crane z.val load)]) := by
  have hcomes := comesTo_of_restore (s := s) (v := craneUnit c) (.crane z.val load) hsender
  obtain ⟨hlink, hback⟩ := backOnline_eq (.crane z.val load) hwaiting rfl
  rwa [restoreGood_crane, hback, hlink] at hcomes

/-- The state and halt cause of a table whose unit is back (R94). -/
def TableRec.upState (r : TableRec) : TableState := if r.active = none then .idle else .halted

def TableRec.upCause (r : TableRec) : Option HaltCause := if r.active = none then none else some .unitLost

theorem runTableUp_eq {s : State} {t : TableId} (hstate : (s.tab t).state = .offline ∨ (s.tab t).state = .maintenance) :
    runTableUp t s = (s.modTab t (fun r => { r with state := r.upState, cause := r.upCause })).raise
      (.tableState t (s.tab t).upState ((s.tab t).active.map Active.index) (s.tab t).upCause
        ((s.tab t).active.bind Active.loaded)) := by
  have hreport (s' : State) (h : s'.tab t = { s.tab t with state := (s.tab t).upState, cause := (s.tab t).upCause }) :
      s'.tableReport t = .tableState t (s.tab t).upState ((s.tab t).active.map Active.index) (s.tab t).upCause
        ((s.tab t).active.bind Active.loaded) := by
    rw [State.tableReport, h]
    cases hactive : (s.tab t).active <;> simp [TableRec.upState, TableRec.upCause, hactive]
  have hup (st : TableState) (cause : Option HaltCause) (hst : st = (s.tab t).upState) (hcause : cause = (s.tab t).upCause) :
      s.modTab t (fun r => { r with state := st, cause := cause })
        = s.modTab t (fun r => { r with state := r.upState, cause := r.upCause }) :=
    State.modTab_congr (by rw [hst, hcause])
  unfold runTableUp
  cases hactive : (s.tab t).active with
  | none =>
    have hne : (s.tab t).state ≠ .idle := by rintro h; simp [h] at hstate
    rw [if_neg (by simp), enter_of_other hne,
      hup .idle none (by simp [TableRec.upState, hactive]) (by simp [TableRec.upCause, hactive]), ← hactive]
    exact congrArg _ (hreport _ (State.tab_modTab_same ..))
  | some a =>
    have hhalt : runHalt t .unitLost s = (s.modTab t (fun r => { r with state := .halted, cause := some .unitLost })).raise
        ((s.modTab t (fun r => { r with state := .halted, cause := some .unitLost })).tableReport t) := rfl
    rw [if_pos Option.isSome_some, hhalt,
      hup .halted (some .unitLost) (by simp [TableRec.upState, hactive]) (by simp [TableRec.upCause, hactive]), ← hactive]
    exact congrArg _ (hreport _ (State.tab_modTab_same ..))

/-- The state of a restored table with the reply that names it. -/
def State.upAndReplied (s : State) (t : TableId) (from_ : Link) (content : StatusContent) : State :=
  ((s.modTab t (fun r => { r with state := r.upState, cause := r.upCause })).raise
    (.tableState t (s.tab t).upState ((s.tab t).active.map Active.index) (s.tab t).upCause
      ((s.tab t).active.bind Active.loaded))).accept (.restoredTable from_ content (s.tab t).upState)

/-- The end of the restore of a table's unit: the table's new state, its report and the reply. -/
theorem comesTo_of_tableUp {s : State} {t : TableId} (from_ : Link) (content : StatusContent)
    (hstate : (s.tab t).state = .offline ∨ (s.tab t).state = .maintenance)
    (hhand : s.host.hand = .waiting (.unitRestore (tableUnit t))) :
    (s.push [.tableUp t, .replyRestored (tableUnit t) from_ content]).comesTo 2 (s.upAndReplied t from_ content) := by
  let s1 := (s.modTab t (fun r => { r with state := r.upState, cause := r.upCause })).raise
    (.tableState t (s.tab t).upState ((s.tab t).active.map Active.index) (s.tab t).upCause ((s.tab t).active.bind Active.loaded))
  have hup : runTask (.tableUp t) (s.push [.replyRestored (tableUnit t) from_ content])
      = s1.push [.replyRestored (tableUnit t) from_ content] := runTableUp_eq hstate
  have hhand1 : s1.host.hand = .waiting (.unitRestore (tableUnit t)) := by
    rw [State.raise_host, HostLine.report_spec]
    exact hhand
  have htab : (s1.tab t).state = (s.tab t).upState := by
    rw [State.raise_tab, State.tab_modTab_same]
  have hreply : runTask (.replyRestored (tableUnit t) from_ content) s1
      = s1.accept (.restoredTable from_ content (s.tab t).upState) := by
    show runReplyRestored (tableUnit t) from_ content s1 = _
    rw [runReplyRestored, if_pos hhand1, ownerOf_tableUnit]
    dsimp only
    rw [htab]
  exact (comesTo_push _ _ hup).trans (comesTo_push _ [] hreply)

/-- The release of an arc hold with a settle time: the guard settles, and nothing goes on (R148). -/
theorem runArcRelease_frame {s : State} {t : TableId} (hsettle : 0 < (s.tab t).cfg.settle) :
    ∃ gs, runArcRelease t s = { s with guards := gs } := by
  unfold runArcRelease
  split
  · exact ⟨s.guards, rfl⟩
  · dsimp only
    split
    · rw [if_neg (Nat.ne_of_gt hsettle)]
      exact ⟨_, rfl⟩
    · exact ⟨s.guards, rfl⟩

theorem runArcRelease_of_arc {s : State} {t : TableId} {z : Zone} (hsettle : 0 < (s.tab t).cfg.settle)
    (hzone : s.tableZone t = some z) (harc : (s.guard z).state = .arc) :
    runArcRelease t s = s.setGuard z { s.guard z with state := .settling (s.now + 1000 * (s.tab t).cfg.settle) } := by
  simp only [runArcRelease, hzone, harc, if_true, if_neg (Nat.ne_of_gt hsettle)]

/-- The table of a unit that is back with its arc on: ARC_KILL is sent, and kill awaited is set (R94). -/
def State.killing (s : State) (t : TableId) : State :=
  (s.countHand.modUnit (tableUnit t) (fun r => { r with
    out := some { cmd := s.handing .arcKill .sequencer, attempt := 1, inFlight := false } })).modTab t
      (fun r => { r with killAwaited := true })

/-- The table of a unit that is back with its arc off: the contour in flight is cleared, its arc hold given back (R94). -/
def State.arcOff (s : State) (t : TableId) : State :=
  let s' := s.modTab t (fun r => { r with contour := none, killAwaited := false })
  if (s.tab t).contour.any Contour.arcHeld then runArcRelease t s' else s'

@[simp] theorem killing_host (s : State) (t : TableId) : (s.killing t).host = s.host := rfl
@[simp] theorem killing_stock (s : State) (t : TableId) : (s.killing t).stock = s.stock := rfl
@[simp] theorem killing_work (s : State) (t : TableId) : (s.killing t).work = s.work := rfl
@[simp] theorem killing_guards (s : State) (t : TableId) : (s.killing t).guards = s.guards := rfl
@[simp] theorem killing_moves (s : State) (t : TableId) : (s.killing t).moves = s.moves := rfl
@[simp] theorem killing_composer (s : State) (t : TableId) : (s.killing t).composer = s.composer := rfl
@[simp] theorem killing_flags (s : State) (t : TableId) : (s.killing t).flags = s.flags := rfl

theorem killing_tab (s : State) (t : TableId) : (s.killing t).tab t = { s.tab t with killAwaited := true } :=
  State.tab_modTab_same s t (fun r => { r with killAwaited := true })

theorem comesTo_of_tableBack_on {s : State} {t : TableId} (ts : List Task) (honline : (s.unit (tableUnit t)).link = .online)
    (hfree : (s.unit (tableUnit t)).out = none) :
    (s.push (.tableBack t true :: ts)).comesTo 1 ((s.killing t).push (.tableUp t :: ts)) := by
  have hkill : (s.push ts).handTo (tableUnit t) .arcKill .sequencer
      = ((s.push ts).countHand.modUnit (tableUnit t) (fun r => { r with
        out := some { cmd := (s.push ts).handing .arcKill .sequencer, attempt := 1, inFlight := false } })) :=
    handTo_of_free (UnitRec.takes_of_online honline _) hfree
  refine comesTo_push _ _ ?_
  show runTableBack t true (s.push ts) = _
  rw [runTableBack, if_pos rfl, State.sendKill, hkill]
  rfl

/-- An arc release with a settle time leaves the work alone. -/
theorem runArcRelease_push {s : State} {t : TableId} (hsettle : 0 < (s.tab t).cfg.settle) (ts : List Task) :
    runArcRelease t (s.push ts) = (runArcRelease t s).push ts := by
  have hne : (s.tab t).cfg.settle ≠ 0 := Nat.ne_of_gt hsettle
  have hzone : (s.push ts).tableZone t = s.tableZone t := rfl
  simp only [runArcRelease, hzone, State.push_guard, State.push_tab, State.push_now, hne, if_false]
  cases s.tableZone t with
  | none => rfl
  | some z =>
    by_cases harc : (s.guard z).state = .arc <;> simp only [harc, if_true, if_false]
    all_goals rfl

theorem comesTo_of_tableBack_off {s : State} {t : TableId} (ts : List Task) (hsettle : 0 < (s.tab t).cfg.settle) :
    ∃ k, k ≤ 2 ∧ (s.push (.tableBack t false :: ts)).comesTo k ((s.arcOff t).push (.tableUp t :: ts)) := by
  let s1 := s.modTab t (fun r => { r with contour := none, killAwaited := false })
  have hsettle1 : 0 < (s1.tab t).cfg.settle := by rw [State.tab_modTab_same]; exact hsettle
  have hfirst : runTask (.tableBack t false) (s.push ts) = s1.push
      ((if (s.tab t).contour.any Contour.arcHeld then [Task.arcRelease t] else []) ++ .tableUp t :: ts) := by
    show runTableBack t false (s.push ts) = _
    rw [runTableBack, if_neg (by decide)]
    show (s1.push ts).push ((if (s.tab t).contour.any Contour.arcHeld then [Task.arcRelease t] else []) ++ [.tableUp t]) = _
    cases (s.tab t).contour.any Contour.arcHeld <;> rfl
  cases hheld : (s.tab t).contour.any Contour.arcHeld with
  | true =>
    rw [hheld] at hfirst
    have hoff : s.arcOff t = runArcRelease t s1 := if_pos hheld
    rw [hoff, ← runArcRelease_push hsettle1]
    exact ⟨2, Nat.le_refl _, (comesTo_push _ _ hfirst).trans (comesTo_push _ _ rfl)⟩
  | false =>
    rw [hheld] at hfirst
    have hoff : s.arcOff t = s1 := if_neg (by simp [hheld])
    rw [hoff]
    exact ⟨1, by decide, comesTo_push _ _ hfirst⟩

theorem arcOff_frame {s : State} {t : TableId} (hsettle : 0 < (s.tab t).cfg.settle) :
    ∃ gs, s.arcOff t
      = { s.modTab t (fun r => { r with contour := none, killAwaited := false }) with guards := gs } := by
  unfold State.arcOff
  dsimp only
  split
  · exact runArcRelease_frame (by rw [State.tab_modTab_same]; exact hsettle)
  · exact ⟨s.guards, rfl⟩

section BackOnline

variable (s : State) (v : UnitId) (content : StatusContent)

theorem backOnline_unit : (s.backOnline v content).unit v = { s.unit v with
    out := none, restoring := false, fails := 0, link := .online } :=
  State.unit_modUnit_same s.closeWindow v (fun r => { r with out := none, restoring := false, fails := 0, link := .online })

theorem backOnline_unit_of_ne {w : UnitId} (hw : w ≠ v) : (s.backOnline v content).unit w = s.unit w :=
  State.unit_modUnit_of_ne s.closeWindow (fun r => { r with out := none, restoring := false, fails := 0, link := .online }) hw

theorem backOnline_hand : (s.backOnline v content).host.hand = s.host.hand := by
  have hhost : (s.backOnline v content).host = _ := HostLine.report_spec _ _
  rw [hhost]
  rfl

end BackOnline

/-- What the restore of a table's unit makes of the state before the table goes on. -/
def State.restoredArc (s : State) (t : TableId) (on : Bool) : State :=
  if on then (s.backOnline (tableUnit t) (.arc on)).killing t else (s.backOnline (tableUnit t) (.arc on)).arcOff t

/-- The handling of the STATUS that ends the restore of a table's unit. -/
theorem comesTo_restored_table {s : State} {t : TableId} {o : Outstanding}
    (hhand : s.host.hand = .waiting (.unitRestore (tableUnit t))) (hwaiting : (s.unit (tableUnit t)).waiting = [])
    (hsender : o.cmd.sender = .restore) (hstate : (s.tab t).state = .offline ∨ (s.tab t).state = .maintenance)
    (hsettle : 0 < (s.tab t).cfg.settle) (on : Bool) :
    ∃ k, k ≤ 5 ∧ (s.goodAnswer (tableUnit t) o (.status (.arc on))).comesTo k
      ((s.restoredArc t on).upAndReplied t (s.unit (tableUnit t)).link (.arc on)) := by
  have hstart := comesTo_of_restore_table (o := o) on hwaiting hsender
  have hunit := backOnline_unit s (tableUnit t) (.arc on)
  have hhand0 : (s.backOnline (tableUnit t) (.arc on)).host.hand = .waiting (.unitRestore (tableUnit t)) :=
    (backOnline_hand s _ _).trans hhand
  cases on with
  | true =>
    have htab : ((s.backOnline (tableUnit t) (.arc true)).killing t).tab t = { s.tab t with killAwaited := true } :=
      killing_tab _ t
    have hback := comesTo_of_tableBack_on (s := s.backOnline (tableUnit t) (.arc true)) (t := t)
      [.replyRestored (tableUnit t) (s.unit (tableUnit t)).link (.arc true)] (by rw [hunit]) (by rw [hunit])
    have hup := comesTo_of_tableUp (s := (s.backOnline (tableUnit t) (.arc true)).killing t) (t := t)
      (s.unit (tableUnit t)).link (.arc true) (by rw [htab]; exact hstate) (by rw [killing_host]; exact hhand0)
    exact ⟨_, by decide, (hstart.trans hback).trans hup⟩
  | false =>
    obtain ⟨gs, hframe⟩ := arcOff_frame (s := s.backOnline (tableUnit t) (.arc false)) (t := t) hsettle
    have htab : ((s.backOnline (tableUnit t) (.arc false)).arcOff t).tab t
        = { s.tab t with contour := none, killAwaited := false } := by
      rw [hframe]
      exact State.tab_modTab_same s t (fun r => { r with contour := none, killAwaited := false })
    obtain ⟨k, hk, hback⟩ := comesTo_of_tableBack_off (s := s.backOnline (tableUnit t) (.arc false)) (t := t)
      [.replyRestored (tableUnit t) (s.unit (tableUnit t)).link (.arc false)] hsettle
    have hup := comesTo_of_tableUp (s := (s.backOnline (tableUnit t) (.arc false)).arcOff t) (t := t)
      (s.unit (tableUnit t)).link (.arc false) (by rw [htab]; exact hstate) (by rw [hframe]; exact hhand0)
    exact ⟨2 + (k + 1), by omega, (hstart.trans hback).trans hup⟩

end Sys2Proof.Machine

/-! Settles what UNIT_RESTORE, UNIT_MAINTAIN and UNIT_QUERY do, with the STATUS that ends a restore (R94, R177, R198, R199,
R201). -/

namespace Sys2Proof.Machine

/-! ## The STATUS that ends a restore -/

/-- A STATUS in the window of a STATUS_QUERY of a unit's own kind is a good answer (R194). -/
theorem exec_status_of_table {s : State} {t : TableId} {o : Outstanding} {e : Nat} (hrun : s.hall.inReset = false)
    (hwindow : s.line.window = some { unit := tableUnit t, kind := .command, expiry := e })
    (hout : (s.unit (tableUnit t)).out = some o) (hcmd : o.cmd.cmd = .statusQuery) (on : Bool) :
    exec (.status (t.val + 1) false (.arc on)) s = .next (s.goodAnswer (tableUnit t) o (.status (.arc on))).settle := by
  have hgood : goodAnswerOf (tableUnit t) o.cmd.cmd.kind false (.status (.arc on)) = some (.status (.arc on)) := by
    simp [goodAnswerOf, hcmd, FieldCmd.kind]
  have haddr : t.val + 1 = (tableUnit t).val + 1 := rfl
  rw [exec_status, execStatus, handled_of_running _ s hrun, haddr, receive_of_command _ _ hwindow, State.receiveAnswer, hout]
  simp only [hgood]

theorem exec_status_of_crane {s : State} {c : CraneId} {o : Outstanding} {e : Nat} (hrun : s.hall.inReset = false)
    (hwindow : s.line.window = some { unit := craneUnit c, kind := .command, expiry := e })
    (hout : (s.unit (craneUnit c)).out = some o) (hcmd : o.cmd.cmd = .statusQuery) (z : Zone) (load : Bool) :
    exec (.status (c.val + 5) false (.crane z.val load)) s
      = .next (s.goodAnswer (craneUnit c) o (.status (.crane z.val load))).settle := by
  have hgood : goodAnswerOf (craneUnit c) o.cmd.cmd.kind false (.status (.crane z.val load))
      = some (.status (.crane z.val load)) := by
    simp [goodAnswerOf, hcmd, FieldCmd.kind]
  have haddr : c.val + 5 = (craneUnit c).val + 1 := rfl
  rw [exec_status, execStatus, handled_of_running _ s hrun, haddr, receive_of_command _ _ hwindow, State.receiveAnswer, hout]
  simp only [hgood]

/-! ## A restored table -/

section UpAndReplied

variable (s : State) (t : TableId) (from_ : Link) (content : StatusContent)

theorem upAndReplied_tab : (s.upAndReplied t from_ content).tab t
    = { s.tab t with state := (s.tab t).upState, cause := (s.tab t).upCause } := by
  simp only [State.upAndReplied, State.accept_tab, State.raise_tab, State.tab_modTab_same]

theorem upAndReplied_tab_of_ne {k : TableId} (hk : k ≠ t) : (s.upAndReplied t from_ content).tab k = s.tab k := by
  simp only [State.upAndReplied, State.accept_tab, State.raise_tab, State.tab_modTab_of_ne _ _ hk]

theorem upAndReplied_host : (s.upAndReplied t from_ content).host = { s.host.report
    (.tableState t (s.tab t).upState ((s.tab t).active.map Active.index) (s.tab t).upCause
      ((s.tab t).active.bind Active.loaded)) with
    hand := .ready (.accept (.restoredTable from_ content (s.tab t).upState)) } := rfl

@[simp] theorem upAndReplied_unit : (s.upAndReplied t from_ content).unit = s.unit := rfl
@[simp] theorem upAndReplied_guard : (s.upAndReplied t from_ content).guard = s.guard := rfl
@[simp] theorem upAndReplied_guards : (s.upAndReplied t from_ content).guards = s.guards := rfl
@[simp] theorem upAndReplied_line : (s.upAndReplied t from_ content).line = s.line := rfl
@[simp] theorem upAndReplied_stock : (s.upAndReplied t from_ content).stock = s.stock := rfl
@[simp] theorem upAndReplied_moves : (s.upAndReplied t from_ content).moves = s.moves := rfl
@[simp] theorem upAndReplied_composer : (s.upAndReplied t from_ content).composer = s.composer := rfl
@[simp] theorem upAndReplied_flags : (s.upAndReplied t from_ content).flags = s.flags := rfl
@[simp] theorem upAndReplied_work : (s.upAndReplied t from_ content).work = s.work := rfl

end UpAndReplied

section BackOnline

variable (s : State) (v : UnitId) (content : StatusContent)

@[simp] theorem backOnline_tab : (s.backOnline v content).tab = s.tab := rfl
@[simp] theorem backOnline_crane : (s.backOnline v content).crane = s.crane := rfl
@[simp] theorem backOnline_guard : (s.backOnline v content).guard = s.guard := rfl
@[simp] theorem backOnline_guards : (s.backOnline v content).guards = s.guards := rfl
@[simp] theorem backOnline_tables : (s.backOnline v content).tables = s.tables := rfl
@[simp] theorem backOnline_stock : (s.backOnline v content).stock = s.stock := rfl
@[simp] theorem backOnline_moves : (s.backOnline v content).moves = s.moves := rfl
@[simp] theorem backOnline_composer : (s.backOnline v content).composer = s.composer := rfl
@[simp] theorem backOnline_flags : (s.backOnline v content).flags = s.flags := rfl
@[simp] theorem backOnline_work : (s.backOnline v content).work = s.work := rfl
@[simp] theorem backOnline_hall : (s.backOnline v content).hall = s.hall := rfl
@[simp] theorem backOnline_window : (s.backOnline v content).line.window = none := rfl
@[simp] theorem backOnline_host : (s.backOnline v content).host
    = s.host.report (.unitBack v (s.unit v).link content s.hall.clock) := rfl

end BackOnline

/-- What a table whose arc is off keeps. -/
theorem arcOff_spec {s : State} {t : TableId} (hsettle : 0 < (s.tab t).cfg.settle) :
    (s.arcOff t).unit = s.unit ∧ (s.arcOff t).tab t = { s.tab t with contour := none, killAwaited := false }
    ∧ (∀ k, k ≠ t → (s.arcOff t).tab k = s.tab k) ∧ (s.arcOff t).host = s.host ∧ (s.arcOff t).line = s.line
    ∧ (s.arcOff t).stock = s.stock ∧ (s.arcOff t).moves = s.moves ∧ (s.arcOff t).composer = s.composer
    ∧ (s.arcOff t).flags = s.flags ∧ (s.arcOff t).work = s.work := by
  obtain ⟨gs, hframe⟩ := arcOff_frame hsettle
  rw [hframe]
  exact ⟨rfl, State.tab_modTab_same s t (fun r => { r with contour := none, killAwaited := false }),
    fun k hk => State.tab_modTab_of_ne s (fun r => { r with contour := none, killAwaited := false }) hk,
    rfl, rfl, rfl, rfl, rfl, rfl, rfl⟩

theorem arcOff_of_free {s : State} {t : TableId} (hfree : (s.tab t).contour.any Contour.arcHeld = false) :
    (s.arcOff t).guards = s.guards := by
  unfold State.arcOff
  rw [hfree]
  rfl

theorem arcOff_of_held {s : State} {t : TableId} {z : Zone} (hsettle : 0 < (s.tab t).cfg.settle)
    (hheld : (s.tab t).contour.any Contour.arcHeld = true) (hzone : s.tableZone t = some z)
    (harc : (s.guard z).state = .arc) :
    (s.arcOff t).guard z = { s.guard z with state := .settling (s.now + 1000 * (s.tab t).cfg.settle) }
    ∧ ∀ y, y ≠ z → (s.arcOff t).guard y = s.guard y := by
  let s1 := s.modTab t (fun r => { r with contour := none, killAwaited := false })
  have htab : s1.tab t = { s.tab t with contour := none, killAwaited := false } := State.tab_modTab_same ..
  have hoff : s.arcOff t = runArcRelease t s1 := if_pos hheld
  rw [hoff, runArcRelease_of_arc (s := s1) (t := t) (z := z) (by rw [htab]; exact hsettle) hzone harc, htab]
  exact ⟨State.guard_setGuard_same .., fun y hy => (State.guard_setGuard ..).trans (if_neg hy)⟩

theorem killing_unit (s : State) (t : TableId) : (s.killing t).unit (tableUnit t) = { s.unit (tableUnit t) with
    out := some { cmd := s.handing .arcKill .sequencer, attempt := 1, inFlight := false } } := by
  simp only [State.killing, State.modTab_unit, State.unit_modUnit_same, State.countHand_unit]

theorem killing_unit_of_ne (s : State) {t : TableId} {w : UnitId} (hw : w ≠ tableUnit t) :
    (s.killing t).unit w = s.unit w := by
  simp only [State.killing, State.modTab_unit, State.unit_modUnit_of_ne _ _ hw, State.countHand_unit]

theorem killing_tab_of_ne (s : State) {t k : TableId} (hk : k ≠ t) : (s.killing t).tab k = s.tab k := by
  simp only [State.killing, State.tab_modTab_of_ne _ _ hk, State.modUnit_tab, State.countHand_tab]

@[simp] theorem killing_window (s : State) (t : TableId) : (s.killing t).line.window = s.line.window := rfl

theorem restoredArc_on (s : State) (t : TableId) :
    s.restoredArc t true = (s.backOnline (tableUnit t) (.arc true)).killing t := rfl

theorem restoredArc_off (s : State) (t : TableId) :
    s.restoredArc t false = (s.backOnline (tableUnit t) (.arc false)).arcOff t := rfl

/-- The parts of the state that a restored table's arc does not touch, whether it is on or off. -/
theorem restoredArc_spec {s : State} {t : TableId} (hsettle : 0 < (s.tab t).cfg.settle) (on : Bool) :
    (∃ n, (s.restoredArc t on).unit (tableUnit t) = { s.unit (tableUnit t) with
        fails := 0, restoring := false, link := .online
        out := if on then some { cmd := { cmd := .arcKill, sender := .sequencer, hand := n }, attempt := 1,
                                 inFlight := false } else none })
    ∧ (∀ w, w ≠ tableUnit t → (s.restoredArc t on).unit w = s.unit w)
    ∧ (s.restoredArc t on).tab t
      = { s.tab t with contour := if on then (s.tab t).contour else none, killAwaited := on }
    ∧ (∀ k, k ≠ t → (s.restoredArc t on).tab k = s.tab k)
    ∧ (s.restoredArc t on).host
      = s.host.report (.unitBack (tableUnit t) (s.unit (tableUnit t)).link (.arc on) s.hall.clock)
    ∧ (s.restoredArc t on).line.window = none ∧ (s.restoredArc t on).stock = s.stock
    ∧ (s.restoredArc t on).moves = s.moves ∧ (s.restoredArc t on).composer = s.composer
    ∧ (s.restoredArc t on).flags = s.flags ∧ (s.restoredArc t on).work = s.work := by
  cases on with
  | true =>
    rw [restoredArc_on]
    refine ⟨⟨(s.backOnline (tableUnit t) (.arc true)).line.nextHand, ?_⟩, fun w hw => ?_, ?_, fun k hk => ?_, ?_⟩
    · rw [killing_unit, backOnline_unit]
      rfl
    · rw [killing_unit_of_ne _ hw, backOnline_unit_of_ne _ _ _ hw]
    · rw [killing_tab, backOnline_tab]
      rfl
    · rw [killing_tab_of_ne _ hk, backOnline_tab]
    · simp
  | false =>
    obtain ⟨hunit, htab, htabs, hhost, hline, hstock, hmoves, hcomposer, hflags, hwork⟩ :=
      arcOff_spec (s := s.backOnline (tableUnit t) (.arc false)) (t := t) hsettle
    rw [restoredArc_off]
    refine ⟨⟨0, ?_⟩, fun w hw => ?_, ?_, fun k hk => ?_, ?_⟩
    · rw [hunit, backOnline_unit]
      rfl
    · rw [hunit, backOnline_unit_of_ne _ _ _ hw]
    · rw [htab, backOnline_tab]
      rfl
    · rw [htabs k hk, backOnline_tab]
    · simp [hhost, hline, hstock, hmoves, hcomposer, hflags, hwork]

/-- The guards after the arc of a restored table. -/
theorem restoredArc_guards {s : State} {t : TableId} (hsettle : 0 < (s.tab t).cfg.settle) (on : Bool) :
    ((on = true ∨ ∀ k, (s.tab t).contour = some k → k.arcHeld = false) → (s.restoredArc t on).guards = s.guards)
    ∧ (∀ k z, on = false → (s.tab t).contour = some k → k.arcHeld = true → s.tableZone t = some z →
        (s.guard z).state = .arc →
        (s.restoredArc t on).guard z = { s.guard z with state := .settling (s.now + 1000 * (s.tab t).cfg.settle) }
        ∧ ∀ y, y ≠ z → (s.restoredArc t on).guard y = s.guard y) := by
  refine ⟨fun hnot => ?_, fun k z hoff hk hheld hzone harc => ?_⟩
  · cases on with
    | true => rw [restoredArc_on, killing_guards, backOnline_guards]
    | false =>
      have hfree : (s.tab t).contour.any Contour.arcHeld = false := by
        rw [Option.any_eq_false]
        exact fun k hk => by simp [hnot.resolve_left nofun k hk]
      rw [restoredArc_off, arcOff_of_free (by rw [backOnline_tab]; exact hfree), backOnline_guards]
  · subst hoff
    have hheld' : (s.tab t).contour.any Contour.arcHeld = true := by simp only [hk, Option.any_some, hheld]
    rw [restoredArc_off]
    exact arcOff_of_held (s := s.backOnline (tableUnit t) (.arc false)) hsettle hheld' hzone harc

/-! ## A restored crane -/

/-- A position inside the span of the crane's move leaves the span as it is (R161). -/
theorem setPosition_of_inside {s : State} {c : CraneId} {z : Zone}
    (hinside : ∀ m, (s.crane c).move.bind s.move = some m → ∃ a, m.span = some a ∧ a.has z = true) :
    s.setPosition c z = s.modCrane c (fun r => { r with pos := some z }) := by
  have hmove : ((s.modCrane c (fun r => { r with pos := some z })).crane c).move.bind
      (s.modCrane c (fun r => { r with pos := some z })).move = (s.crane c).move.bind s.move := by
    rw [State.crane_modCrane_same, State.modCrane_move]
  unfold State.setPosition
  dsimp only
  rw [hmove]
  split
  · rfl
  next m hm =>
    obtain ⟨a, hspan, hhas⟩ := hinside m hm
    rw [hspan]
    exact if_pos hhas

theorem State.modCrane_modCrane (s : State) (c : CraneId) (f g : CraneRec → CraneRec) :
    (s.modCrane c f).modCrane c g = s.modCrane c (fun r => g (f r)) := by
  have hcrane := State.crane_modCrane_same s c f
  show ({ s with moves := { s.moves with
    cranes := ((s.modCrane c f).moves.cranes).set c.val (g ((s.modCrane c f).crane c)) c.isLt } } : State) = _
  rw [hcrane, State.modCrane_moves, Vector.set_set]
  rfl

/-- The crane of a unit that is back (R177). -/
def State.craneUp (s : State) (c : CraneId) (z : Zone) (load halt : Bool) : State :=
  (s.modCrane c (fun r => { r with
    pos := some z, sensed := if load then .yes else .no, awaited := false, state := if halt then .halted else .idle
    cause := if halt then some .stop else none })).wantAttempt

theorem runCraneBack_of_inside {s : State} {c : CraneId} {z : Zone} (load halt : Bool)
    (hinside : ∀ m, (s.crane c).move.bind s.move = some m → ∃ a, m.span = some a ∧ a.has z = true)
    (hhalt : halt = true ↔ s.hall.stop = true ∨ ∃ m, (s.crane c).move.bind s.move = some m ∧ m.state = .stopped) :
    runCraneBack c z load s = s.craneUp c z load halt := by
  let s1 := s.modCrane c (fun r => { r with pos := some z, sensed := if load then .yes else .no, awaited := false })
  have hset : (s.setPosition c z).modCrane c (fun r => { r with sensed := if load then .yes else .no, awaited := false })
      = s1 := by
    rw [setPosition_of_inside hinside, State.modCrane_modCrane]
  have hmove : s1.craneMove c = (s.crane c).move.bind s.move := by
    show ((s1.crane c).move.bind s1.move) = _
    rw [State.crane_modCrane_same, State.modCrane_move]
  have hstop : (s1.hall.stop || (s1.craneMove c).any (fun m => m.state = .stopped)) = halt := by
    rw [Bool.eq_iff_iff, hhalt, hmove, Bool.or_eq_true, Option.any_eq_true]
    simp only [State.modCrane_hall, decide_eq_true_eq, s1]
  unfold runCraneBack
  rw [hset]
  dsimp only
  rw [hstop, State.modCrane_modCrane]
  rfl

/-- The handling of the STATUS that ends the restore of a crane's unit. -/
theorem comesTo_restored_crane {s : State} {c : CraneId} {o : Outstanding} {z : Zone} {load halt : Bool}
    (hhand : s.host.hand = .waiting (.unitRestore (craneUnit c))) (hwaiting : (s.unit (craneUnit c)).waiting = [])
    (hsender : o.cmd.sender = .restore)
    (hinside : ∀ m, (s.crane c).move.bind s.move = some m → ∃ a, m.span = some a ∧ a.has z = true)
    (hhalt : halt = true ↔ s.hall.stop = true ∨ ∃ m, (s.crane c).move.bind s.move = some m ∧ m.state = .stopped) :
    (s.goodAnswer (craneUnit c) o (.status (.crane z.val load))).comesTo 3
      (((s.backOnline (craneUnit c) (.crane z.val load)).craneUp c z load halt).accept
        (.restoredCrane (s.unit (craneUnit c)).link (.crane z.val load) (if halt then .halted else .idle))) := by
  let s0 := s.backOnline (craneUnit c) (.crane z.val load)
  let reply : Task := .replyRestored (craneUnit c) (s.unit (craneUnit c)).link (.crane z.val load)
  have hstart := comesTo_of_restore_crane (o := o) z load hwaiting hsender
  have hback : runTask (.craneBack c z load) (s0.push [reply]) = (s0.craneUp c z load halt).push [reply] :=
    runCraneBack_of_inside (s := s0.push [reply]) load halt hinside hhalt
  have hhand' : (s0.craneUp c z load halt).host.hand = .waiting (.unitRestore (craneUnit c)) :=
    (backOnline_hand s (craneUnit c) (.crane z.val load)).trans hhand
  have hstate : ((s0.craneUp c z load halt).crane c).state = if halt then .halted else .idle :=
    congrArg CraneRec.state (State.crane_modCrane_same s0 c (fun r => { r with
      pos := some z, sensed := if load then .yes else .no, awaited := false, state := if halt then .halted else .idle
      cause := if halt then some .stop else none }))
  have hreply : runTask reply (s0.craneUp c z load halt) = (s0.craneUp c z load halt).accept
      (.restoredCrane (s.unit (craneUnit c)).link (.crane z.val load) (if halt then .halted else .idle)) := by
    show runReplyRestored _ _ _ _ = _
    rw [runReplyRestored, if_pos hhand', ownerOf_craneUnit]
    dsimp only
    rw [hstate]
  exact (hstart.trans (comesTo_push _ _ hback)).trans (comesTo_push _ [] hreply)

end Sys2Proof.Machine

/-! Settles what UNIT_RESTORE, UNIT_MAINTAIN and UNIT_QUERY do (R198, R199, R201). -/

namespace Sys2Proof.Machine

section CraneUp

variable (s : State) (c : CraneId) (z : Zone) (load halt : Bool)

theorem craneUp_crane : (s.craneUp c z load halt).crane c = { s.crane c with
    pos := some z, sensed := if load then .yes else .no, awaited := false, state := if halt then .halted else .idle
    cause := if halt then some .stop else none } := by
  simp only [State.craneUp, State.wantAttempt_crane, State.crane_modCrane_same]

theorem craneUp_crane_of_ne {k : CraneId} (hk : k ≠ c) : (s.craneUp c z load halt).crane k = s.crane k := by
  simp only [State.craneUp, State.wantAttempt_crane, State.crane_modCrane_of_ne _ _ hk]

@[simp] theorem craneUp_unit : (s.craneUp c z load halt).unit = s.unit := rfl
@[simp] theorem craneUp_line : (s.craneUp c z load halt).line = s.line := rfl
@[simp] theorem craneUp_host : (s.craneUp c z load halt).host = s.host := rfl
@[simp] theorem craneUp_stock : (s.craneUp c z load halt).stock = s.stock := rfl
@[simp] theorem craneUp_tables : (s.craneUp c z load halt).tables = s.tables := rfl
@[simp] theorem craneUp_guards : (s.craneUp c z load halt).guards = s.guards := rfl
@[simp] theorem craneUp_work : (s.craneUp c z load halt).work = s.work := rfl
@[simp] theorem craneUp_queue : (s.craneUp c z load halt).moves.queue = s.moves.queue := rfl
@[simp] theorem craneUp_attempts : (s.craneUp c z load halt).moves.attempts = s.moves.attempts + 1 := rfl

end CraneUp

/-! ## UNIT_MAINTAIN (R199) -/

section UnitMaintain

variable {s : State} (hset : s.settled)
include hset

theorem exec_unitMaintain_of_range {n : Nat} (htakes : s.takes (.unitMaintain n)) (h : n < 1 ∨ 6 < n) :
    exec (.unitMaintain n) s = .next (s.refuse .range) := by
  rw [exec_unitMaintain, execUnitMaintain, request_of_takes _ _ s htakes, withUnit_of_range h, settle_refuse s hset]

variable {v : UnitId} (htakes : s.takes (.unitMaintain (v.val + 1)))
include htakes

theorem exec_unitMaintain_of_absent (h : (s.unit v).link = .absent) :
    exec (.unitMaintain (v.val + 1)) s = .next (s.refuse .unitAbsent) := by
  rw [exec_unitMaintain, execUnitMaintain, request_of_takes _ _ s htakes, withUnit_of_absent h, settle_refuse s hset]

theorem exec_unitMaintain_of_badState (h : (s.unit v).link ≠ .absent)
    (hbad : s.hall.mode = .setup ∨ (s.unit v).link ≠ .online) :
    exec (.unitMaintain (v.val + 1)) s = .next (s.refuse .badState) := by
  rw [exec_unitMaintain, execUnitMaintain, request_of_takes _ _ s htakes, withUnit_of_fitted h]
  dsimp only
  by_cases hmode : s.hall.mode = .setup
  · rw [if_pos hmode, settle_refuse s hset]
  · rw [if_neg hmode, if_pos (hbad.resolve_left hmode), settle_refuse s hset]

variable (hmode : s.hall.mode ≠ .setup) (honline : (s.unit v).link = .online)
include hmode honline

theorem exec_unitMaintain_of_waiting (h : (s.unit v).out ≠ none ∨ (s.unit v).waiting ≠ []) :
    exec (.unitMaintain (v.val + 1)) s = .next (s.refuse .busy) := by
  have hbusy : (s.unit v).out.isSome = true ∨ (s.unit v).waiting ≠ [] := h.imp_left Option.isSome_iff_ne_none.2
  rw [exec_unitMaintain, execUnitMaintain, request_of_takes _ _ s htakes, withUnit_of_fitted (by rw [honline]; decide)]
  dsimp only
  rw [if_neg hmode, if_neg (Classical.not_not.2 honline), if_pos hbusy, settle_refuse s hset]

variable (hout : (s.unit v).out = none) (hwaiting : (s.unit v).waiting = [])
include hout hwaiting

/-- With its unit free, the owner decides. -/
theorem exec_unitMaintain_of_free : exec (.unitMaintain (v.val + 1)) s = .next (if s.ownerBusy v then s.refuse .busy
    else (((s.modUnit v (fun r => { r with link := .maintenance, fails := 0 })).ownerMaintained v).accept .none).settle) := by
  have hfree : ¬ ((s.unit v).out.isSome = true ∨ (s.unit v).waiting ≠ []) := by simp [hout, hwaiting]
  rw [exec_unitMaintain, execUnitMaintain, request_of_takes _ _ s htakes, withUnit_of_fitted (by rw [honline]; decide)]
  dsimp only
  rw [if_neg hmode, if_neg (Classical.not_not.2 honline), if_neg hfree]
  split
  · rw [settle_refuse s hset]
  · rfl

end UnitMaintain

theorem ownerBusy_table_iff (s : State) (t : TableId) : s.ownerBusy (tableUnit t) = true ↔
    (s.tab t).state ≠ .idle ∨ (s.tab t).killAwaited = true ∨ ∃ z, s.tableZone t = some z ∧ (s.guard z).state = .arc := by
  simp only [State.ownerBusy, ownerOf_tableUnit, Bool.or_eq_true, decide_eq_true_eq, Option.any_eq_true, or_assoc]

theorem ownerBusy_crane_iff (s : State) (c : CraneId) : s.ownerBusy (craneUnit c) = true ↔
    (s.crane c).state ≠ .idle ∨ (s.crane c).move ≠ none ∨ (s.crane c).hook ≠ .empty ∨ (s.crane c).awaited = true := by
  simp only [State.ownerBusy, ownerOf_craneUnit, Bool.or_eq_true, decide_eq_true_eq, or_assoc, Option.isSome_iff_ne_none]

/-- A table that enters MAINTENANCE out of IDLE (R95). -/
theorem settle_maintained_table {s : State} (hset : s.settled) {t : TableId} (hidle : (s.tab t).state = .idle)
    (hactive : (s.tab t).active = none) :
    ∃ u : State, (((s.modUnit (tableUnit t) (fun r => { r with link := .maintenance, fails := 0 })).ownerMaintained
        (tableUnit t)).accept .none).settle = u
      ∧ u.unit (tableUnit t) = { s.unit (tableUnit t) with link := .maintenance, fails := 0 }
      ∧ (∀ w, w ≠ tableUnit t → u.unit w = s.unit w)
      ∧ u.tab t = { s.tab t with state := .maintenance, cause := none }
      ∧ (∀ k, k ≠ t → u.tab k = s.tab k)
      ∧ u.host = { s.host.report (.tableState t .maintenance none none none) with hand := .ready (.accept .none) }
      ∧ u.stock = s.stock ∧ u.moves = s.moves ∧ u.guards = s.guards := by
  let s1 := s.modUnit (tableUnit t) (fun r => { r with link := .maintenance, fails := 0 })
  let s2 := s1.modTab t (fun r => { r with state := .maintenance, cause := none })
  have htab : s2.tab t = { s.tab t with state := .maintenance, cause := none } := State.tab_modTab_same ..
  have hreport : s2.tableReport t = .tableState t .maintenance none none none := by
    simp [State.tableReport, htab, hactive]
  have henter : s1.ownerMaintained (tableUnit t) = s2.raise (.tableState t .maintenance none none none) := by
    have hne : (s1.tab t).state ≠ .maintenance := by rw [State.modUnit_tab, hidle]; decide
    rw [← hreport]
    simp only [State.ownerMaintained, ownerOf_tableUnit]
    exact enter_of_other hne
  rw [henter]
  refine ⟨_, settle_of_done _ hset.1 hset.2.1, ?_, fun w hw => ?_, ?_, fun k hk => ?_, rfl, rfl, rfl, rfl⟩
  · simp only [followBeacons_unit, State.accept_unit, State.raise_unit, s2, State.modTab_unit, s1, State.unit_modUnit_same]
  · simp only [followBeacons_unit, State.accept_unit, State.raise_unit, s2, State.modTab_unit, s1,
      State.unit_modUnit_of_ne _ _ hw]
  · simp only [followBeacons_tab, State.accept_tab, State.raise_tab, htab]
  · simp only [followBeacons_tab, State.accept_tab, State.raise_tab, s2, State.tab_modTab_of_ne _ _ hk, s1, State.modUnit_tab]

/-- No beacon sees an IDLE crane enter MAINTENANCE (R177, R213). -/
theorem settle_maintained_crane {s : State} (hset : s.settled) {c : CraneId} (hidle : (s.crane c).state = .idle) :
    (((s.modUnit (craneUnit c) (fun r => { r with link := .maintenance, fails := 0 })).ownerMaintained
        (craneUnit c)).accept .none).settle
      = ((s.modUnit (craneUnit c) (fun r => { r with link := .maintenance, fails := 0 })).modCrane c
          (fun r => { r with state := .maintenance })).accept .none := by
  let u := ((s.modUnit (craneUnit c) (fun r => { r with link := .maintenance, fails := 0 })).modCrane c
    (fun r => { r with state := .maintenance })).accept .none
  have howner : ((s.modUnit (craneUnit c) (fun r => { r with link := .maintenance, fails := 0 })).ownerMaintained
      (craneUnit c)).accept .none = u := by
    simp only [State.ownerMaintained, ownerOf_craneUnit, u]
  have hsources : u.sourceHolds = s.sourceHolds := by
    have hcrane (d : CraneId) : decide ((u.crane d).state = .busy) = decide ((s.crane d).state = .busy) := by
      show decide (((s.modCrane c (fun r => { r with state := .maintenance })).crane d).state = .busy) = _
      rw [State.crane_modCrane]
      split
      next h => rw [h, hidle]; rfl
      next => rfl
    funext b
    cases b with
    | craneBusy d => exact hcrane d
    | _ => rfl
  have hfollow : u.followBeacons = u := by
    rw [followBeacons_eq_iff]
    intro n
    rw [hsources]
    exact (followBeacons_eq_iff s).1 hset.2.2 n
  rw [howner, settle_of_done u hset.1 hset.2.1, hfollow]

/-- Settles O57: the requests by the unit's link and its owner, and the STATUS that ends a restore. -/
theorem unitsAreMaintainedAndRestored : Obligations.UnitsAreMaintainedAndRestored := by
  refine ⟨fun s n hset => ⟨fun htakes => ⟨exec_unitRestore_of_range hset htakes, fun v hn => ?_⟩,
      fun t o e hrun hhand hwindow hout hwaiting hcmd hsender hstate hsettle on => ?_,
      fun c o e z load halt hrun hhand hwindow hout hwaiting hcmd hsender hinside hhalt => ?_⟩,
    fun s n hset => ⟨fun htakes => ⟨exec_unitMaintain_of_range hset htakes, fun v hn => ?_⟩, fun htakes => ?_⟩⟩
  · subst hn
    exact ⟨exec_unitRestore_of_absent hset htakes, exec_unitRestore_of_online hset htakes, fun hlink =>
      ⟨exec_unitRestore_of_restoring hset htakes hlink,
        fun hrestoring hfree => exec_unitRestore_of_free hset htakes hlink hfree hrestoring⟩⟩
  · intro after cause
    obtain ⟨k, hk, hcomes⟩ := comesTo_restored_table (o := o) hhand hwaiting hsender hstate hsettle on
    obtain ⟨hunit, hunits, htab, htabs, hhost, hline, hstock, hmoves, hcomposer, hflags, hwork⟩ :=
      restoredArc_spec hsettle on
    obtain ⟨hfree, hheld⟩ := restoredArc_guards hsettle on
    have hend := settle_of_comesTo_clean hcomes (Nat.le_trans hk (by decide))
      (by rw [upAndReplied_work, hwork]; exact hset.1) (by rw [upAndReplied_stock, hstock]; exact hset.2.1)
    refine ⟨_, (exec_status_of_table hrun hwindow hout hcmd on).trans (congrArg _ hend), ?_⟩
    simp only [followBeacons_unit, followBeacons_tab, followBeacons_hostLine, followBeacons_guards, followBeacons_guard,
      followBeacons_line, followBeacons_stock, followBeacons_moves, followBeacons_composer, followBeacons_flags,
      upAndReplied_unit, upAndReplied_guards, upAndReplied_guard, upAndReplied_line, upAndReplied_stock, upAndReplied_moves,
      upAndReplied_composer, upAndReplied_flags, upAndReplied_host, upAndReplied_tab]
    refine ⟨hunit, hunits, ?_, fun k hk => ?_, ?_, hfree, hheld, hline, hstock, hmoves, hcomposer, hflags⟩
    · rw [htab]
      rfl
    · rw [upAndReplied_tab_of_ne _ _ _ _ hk, htabs k hk]
    · rw [hhost, htab]
      rfl
  · intro after
    have hcomes := comesTo_restored_crane (o := o) (load := load) hhand hwaiting hsender hinside hhalt
    have hend := settle_of_comesTo_clean hcomes (by decide) (by simpa using hset.1) (by simpa using hset.2.1)
    refine ⟨_, (exec_status_of_crane hrun hwindow hout hcmd z load).trans (congrArg _ hend), ?_⟩
    simp only [followBeacons_unit, followBeacons_crane, followBeacons_moves, followBeacons_hostLine, followBeacons_line,
      followBeacons_stock, followBeacons_tables, followBeacons_guards, State.accept_unit, State.accept_crane,
      State.accept_moves, State.accept_line, State.accept_stock, State.accept_tables, State.accept_guards, craneUp_unit,
      craneUp_line, craneUp_stock, craneUp_tables, craneUp_guards, craneUp_queue, craneUp_attempts, craneUp_crane,
      backOnline_crane, backOnline_moves, backOnline_window, backOnline_stock, backOnline_tables, backOnline_guards]
    refine ⟨backOnline_unit .., fun w hw => backOnline_unit_of_ne _ _ _ hw, rfl, fun k hk => ?_, trivial, trivial, rfl,
      trivial, trivial, trivial, trivial⟩
    rw [craneUp_crane_of_ne _ _ _ _ _ hk, backOnline_crane]
  · subst hn
    refine ⟨exec_unitMaintain_of_absent hset htakes, exec_unitMaintain_of_badState hset htakes, fun hmode honline =>
      ⟨exec_unitMaintain_of_waiting hset htakes hmode honline, fun hout hwaiting => ⟨fun t hv => ⟨fun hbusy => ?_,
        fun hidle hkill harc hactive => ?_⟩, fun c hv => ⟨fun hbusy => ?_, fun hidle hmove hhook hawaited => ?_⟩⟩⟩⟩
    · have hfree := exec_unitMaintain_of_free hset htakes hmode honline hout hwaiting
      subst hv
      rw [hfree, if_pos ((ownerBusy_table_iff s t).2 hbusy)]
    · have hfree := exec_unitMaintain_of_free hset htakes hmode honline hout hwaiting
      subst hv
      have hnot : ¬ s.ownerBusy (tableUnit t) = true := by
        rw [ownerBusy_table_iff]
        rintro (h | h | ⟨z, hz, h⟩)
        · exact h hidle
        · rw [hkill] at h; cases h
        · exact harc z hz h
      obtain ⟨u, hu, hspec⟩ := settle_maintained_table hset hidle hactive
      exact ⟨u, hfree.trans (congrArg _ ((if_neg hnot).trans hu)), hspec⟩
    · have hfree := exec_unitMaintain_of_free hset htakes hmode honline hout hwaiting
      subst hv
      rw [hfree, if_pos ((ownerBusy_crane_iff s c).2 hbusy)]
    · have hfree := exec_unitMaintain_of_free hset htakes hmode honline hout hwaiting
      subst hv
      have hnot : ¬ s.ownerBusy (craneUnit c) = true := by
        rw [ownerBusy_crane_iff]
        simp [hidle, hmove, hhook, hawaited]
      rw [hfree, if_neg hnot, settle_maintained_crane hset hidle]
  · intro view
    have hview : view = UnitRec.view := rfl
    rw [exec_unitQuery, execUnitQuery, ask_of_takes _ _ s htakes, hview]
    refine ⟨fun hall => by rw [if_pos hall], fun hrange => ?_, fun v hv => ?_⟩
    · rw [if_neg (by omega), numbered_eq_none_iff.2 (by omega)]
    · have hne : n ≠ 255 := by omega
      rw [if_neg hne, hv, numbered_val_add_one]

end Sys2Proof.Machine

/-! The hall map and the requests about one stock record (R2 to R4, R15, R17 to R19): HALL_MAP and the map test,
STOCK_QUARANTINE, STOCK_RELEASE and STOCK_REMOVE. -/

namespace Sys2Proof.Machine

/-! ## The arms of the requests -/

theorem exec_hallMap (es : List (Nat × Nat)) (s : State) : exec (.hallMap es) s = execHallMap es s := by rfl

theorem exec_mapQuery (s : State) : exec .mapQuery s = execMapQuery s := by rfl

theorem exec_stockQuarantine (id : Nat) (s : State) : exec (.stockQuarantine id) s = execStockQuarantine id s := by rfl

theorem exec_stockRelease (id : Nat) (s : State) : exec (.stockRelease id) s = execStockRelease id s := by rfl

theorem exec_stockRemove (id : Nat) (s : State) : exec (.stockRemove id) s = execStockRemove id s := by rfl

/-! ## The entries of HALL_MAP -/

theorem zoneKindOf_eq_none_iff (e : Nat × Nat) : zoneKindOf e = none ↔ 4 < e.1 ∨ (e.1 = 3 ∧ (e.2 < 1 ∨ 4 < e.2)) := by
  obtain ⟨k, t⟩ := e
  match k with
  | 0 | 1 | 2 | 4 => simp [zoneKindOf]
  | 3 =>
    simp only [zoneKindOf, Option.map_eq_none_iff, numbered_eq_none_iff, true_and]
    omega
  | k + 5 => simp [zoneKindOf]

theorem mapKinds_eq_none_iff (es : List (Nat × Nat)) : mapKinds es = none ↔ ∃ e ∈ es, zoneKindOf e = none := by
  induction es with
  | nil => simp [mapKinds]
  | cons e es ih =>
    simp only [mapKinds, List.mem_cons, exists_eq_or_imp, ← ih]
    cases zoneKindOf e <;> cases mapKinds es <;> simp

theorem mapKinds_of_map {es : List (Nat × Nat)} {ks : List ZoneKind} (h : es.map zoneKindOf = ks.map some) :
    mapKinds es = some ks := by
  induction es generalizing ks with
  | nil => simp_all [mapKinds]
  | cons e es ih =>
    cases ks with
    | nil => simp at h
    | cons k ks =>
      obtain ⟨hk, hks⟩ := List.cons_eq_cons.1 h
      simp [mapKinds, hk, ih hks]

/-! ## HALL_MAP (R2) -/

section HallMap

variable {es : List (Nat × Nat)} {s : State} (htakes : s.takes (.hallMap es)) (hset : s.settled)
include htakes

theorem exec_hallMap_of_kinds (hmode : s.hall.mode = .setup) {m : Vector ZoneKind 16}
    (hm : es.map zoneKindOf = m.toList.map some) : exec (.hallMap es) s = .next
      (if allZones.any (fun z => m.get z ≠ s.kindOf z && s.zoneHolds z) then s.refuse .badState
        else ({ s with stock := { s.stock with map := m } } : State).accept .none).settle := by
  rw [exec_hallMap, execHallMap, request_of_takes _ _ _ htakes, if_neg (not_not_intro hmode), mapKinds_of_map hm]
  dsimp only
  rw [dif_pos (by simp)]
  rfl

include hset

theorem exec_hallMap_of_running (hmode : s.hall.mode ≠ .setup) : exec (.hallMap es) s = .next (s.refuse .badState) := by
  rw [exec_hallMap, execHallMap, request_of_takes _ _ _ htakes, if_pos hmode, settle_refuse s hset]

theorem exec_hallMap_of_unknown (hmode : s.hall.mode = .setup) (h : ∃ e ∈ es, zoneKindOf e = none) :
    exec (.hallMap es) s = .next (s.refuse .range) := by
  rw [exec_hallMap, execHallMap, request_of_takes _ _ _ htakes, if_neg (not_not_intro hmode), (mapKinds_eq_none_iff es).2 h]
  exact congrArg _ (settle_refuse s hset .range)

end HallMap

/-! ## The map test (R3, R4) -/

theorem mapTest_eq_valid_iff (s : State) : s.mapTest = .valid ↔
    (∀ k : TableId, s.fitted k = true → (s.zonesOf k).length = 1) ∧ (∀ k : TableId, s.fitted k = false → s.zonesOf k = [])
      ∧ ∃ z, s.kindOf z = .stock ∨ s.kindOf z = .rack := by
  have hall : ∀ k : TableId, k ∈ ([0, 1, 2, 3] : List TableId) := by decide
  unfold State.mapTest
  dsimp only
  split
  next k hk =>
    have hbad := List.find?_some hk
    rw [Bool.and_eq_true, decide_eq_true_eq] at hbad
    exact ⟨nofun, fun h => absurd (h.1 k hbad.1) hbad.2⟩
  next hone =>
    have hone : ∀ k : TableId, s.fitted k = true → (s.zonesOf k).length = 1 := fun k hfit => by
      simpa [hfit] using List.find?_eq_none.1 hone k (hall k)
    split
    next k hk =>
      have hbad := List.find?_some hk
      rw [Bool.and_eq_true, Bool.not_eq_true', Bool.not_eq_true', List.isEmpty_eq_false_iff] at hbad
      exact ⟨nofun, fun h => absurd (h.2.1 k hbad.1) hbad.2⟩
    next hnone =>
      have hnone : ∀ k : TableId, s.fitted k = false → s.zonesOf k = [] := fun k hfit => by
        simpa [hfit] using List.find?_eq_none.1 hnone k (hall k)
      split
      next hstore => exact ⟨fun _ => ⟨hone, hnone, by simpa [allZones] using hstore⟩, fun _ => rfl⟩
      next hstore => exact ⟨nofun, fun h => absurd (by simpa [allZones] using h.2.2) hstore⟩

theorem zonesOf_eq_nil_iff (s : State) (k : TableId) : s.zonesOf k = [] ↔ ∀ z, s.kindOf z ≠ .table k := by
  simp [State.zonesOf, allZones, List.filter_eq_nil_iff]

theorem any_changed_of {s : State} {m : Vector ZoneKind 16} {z : Zone} (hz : m.get z ≠ s.kindOf z)
    (hholds : s.zoneHolds z = true) : allZones.any (fun z => m.get z ≠ s.kindOf z && s.zoneHolds z) = true :=
  List.any_eq_true.2 ⟨z, List.mem_finRange z, by simpa [hz] using hholds⟩

/-- Settles O29. -/
theorem hallMapReplacesTheMap : Obligations.HallMapReplacesTheMap := by
  unfold Obligations.HallMapReplacesTheMap
  refine ⟨fun es s _ htakes hset => ⟨exec_hallMap_of_running htakes hset, fun hmode hbad => ?_, fun m hmode hm => ⟨?_, ?_⟩⟩,
    fun s => ⟨?_, fun htakes => (exec_mapQuery s).trans (ask_of_takes _ _ _ htakes)⟩⟩
  · exact exec_hallMap_of_unknown htakes hset hmode (by simpa only [zoneKindOf_eq_none_iff] using hbad)
  · rintro ⟨z, hz, hholds⟩
    rw [exec_hallMap_of_kinds htakes hmode hm,
      if_pos (any_changed_of hz hholds), settle_refuse s hset]
  · intro hfree
    rw [exec_hallMap_of_kinds htakes hmode hm, if_neg (by simpa [allZones] using hfree)]
    exact congrArg _ (settle_of_done _ hset.1 hset.2.1)
  · rw [mapTest_eq_valid_iff]
    simp only [zonesOf_eq_nil_iff, State.fitted, decide_eq_true_eq, decide_eq_false_iff_not, Nat.not_le]

/-! ## STOCK_QUARANTINE (R18) and STOCK_RELEASE (R19) -/

theorem settle_accept_modRec {s : State} (hset : s.settled) (id : Nat) (f : StockRec → StockRec) (b : Accept) :
    ((s.modRec id f).accept b).settle = (s.modRec id f).accept b :=
  Quiet.settle (by simp) hset

/-- A handling that owes a stock-change event and has done nothing else that the beacons see ends with one event more. -/
theorem settle_of_quiet_change {s u : State} (hset : s.settled) (hwork : u.work = []) (hquiet : Quiet s u.takeChanged) :
    u.settle = u.takeChanged := by
  rw [settle_of_comesTo (State.comesTo_refl u) (Nat.zero_le _) hwork, (hquiet.settled hset).2.2]

section QuietStock

variable {s t : State}

@[simp] theorem quiet_setRecs (l : List StockRec) : Quiet s (t.setRecs l) ↔ Quiet s t :=
  Quiet.congr { work := rfl, changed := rfl, now := rfl, hall := rfl, map := rfl, guards := rfl,
                tabs := fun _ => ⟨rfl, rfl⟩, cranes := fun _ => rfl }

@[simp] theorem quiet_setLock (r : SlotRef) (l : SlotLock) : Quiet s (t.setLock r l) ↔ Quiet s t :=
  Quiet.congr { work := rfl, changed := rfl, now := rfl, hall := rfl, map := rfl, guards := rfl,
                tabs := fun _ => ⟨rfl, rfl⟩, cranes := fun _ => rfl }

@[simp] theorem quiet_wantAttempt : Quiet s t.wantAttempt ↔ Quiet s t :=
  Quiet.congr { work := rfl, changed := rfl, now := rfl, hall := rfl, map := rfl, guards := rfl,
                tabs := fun _ => ⟨rfl, rfl⟩, cranes := fun _ => rfl }

@[simp] theorem quiet_setQueue (q : List MoveRec) : Quiet s (t.setQueue q) ↔ Quiet s t :=
  Quiet.congr { work := rfl, changed := rfl, now := rfl, hall := rfl, map := rfl, guards := rfl,
                tabs := fun _ => ⟨rfl, rfl⟩, cranes := fun _ => rfl }

/-- A state that owes a stock-change event, and one event more in its place. -/
theorem quiet_takeChanged_of {s u : State} (hchanged : u.stock.changed = true)
    (hquiet : Quiet s { u with stock := { u.stock with changed := false } }) : Quiet s u.takeChanged := by
  rw [takeChanged_of_changed _ hchanged]
  exact { work := hquiet.work, changed := hquiet.changed, now := hquiet.now, hall := hquiet.hall, map := hquiet.map,
          guards := hquiet.guards, tabs := hquiet.tabs, cranes := hquiet.cranes }

end QuietStock

theorem State.stock_changed_false {s : State} (h : s.stock.changed = false) :
    s = { s with stock := { s.stock with changed := false } } := by
  rw [← h]

/-- A reply after a change of the records that owes a stock-change event. -/
theorem settle_accept_stockChanged {s : State} (hset : s.settled) (l : List StockRec) (b : Accept) :
    (((s.setRecs l).stockChanged).accept b).settle
      = ({ s with stock := { s.stock with recs := l, events := s.stock.events + 1 } } : State).accept b := by
  obtain ⟨hwork, hclean, hfollow⟩ := hset
  have hquiet : Quiet s (((s.setRecs l).stockChanged).accept b).takeChanged :=
    quiet_takeChanged_of rfl { work := rfl, changed := hclean.symm, now := rfl, hall := rfl, map := rfl, guards := rfl,
                               tabs := fun _ => ⟨rfl, rfl⟩, cranes := fun _ => rfl }
  rw [settle_of_quiet_change (u := ((s.setRecs l).stockChanged).accept b) ⟨hwork, hclean, hfollow⟩ hwork hquiet, takeChanged_of_changed _ rfl]
  conv => rhs; rw [State.stock_changed_false hclean]
  rfl

section OneRecord

variable {id : Nat} {s : State} {x : StockRec} (hset : s.settled)

theorem exec_stockQuarantine_of_none (htakes : s.takes (.stockQuarantine id)) (hx : s.stockRec id = none) :
    exec (.stockQuarantine id) s = .next (s.refuse .notFound) := by
  rw [exec_stockQuarantine, execStockQuarantine, ask_of_takes _ _ _ htakes, hx]

theorem exec_stockQuarantine_of_some (htakes : s.takes (.stockQuarantine id)) (hx : s.stockRec id = some x) :
    exec (.stockQuarantine id) s = .next (if x.state = .available then
      (s.modRec id (fun y => { y with state := .quarantined })).accept .none else s.refuse .badState) := by
  rw [exec_stockQuarantine, execStockQuarantine, ask_of_takes _ _ _ htakes, hx]

theorem exec_stockRelease_of_none (htakes : s.takes (.stockRelease id)) (hx : s.stockRec id = none) :
    exec (.stockRelease id) s = .next (s.refuse .notFound).settle := by
  rw [exec_stockRelease, execStockRelease, request_of_takes _ _ _ htakes, hx]

theorem exec_stockRelease_of_some (htakes : s.takes (.stockRelease id)) (hx : s.stockRec id = some x) :
    exec (.stockRelease id) s = .next (if x.state ≠ .quarantined then s.refuse .badState
      else if s.onBed x then (s.modRec id (fun y => { y with state := .onBed })).accept .none
      else (s.makeAvailable id).accept .none).settle := by
  rw [exec_stockRelease, execStockRelease, request_of_takes _ _ _ htakes, hx]

/-! ## STOCK_REMOVE (R17) -/

theorem exec_stockRemove_of_none (htakes : s.takes (.stockRemove id)) (hx : s.stockRec id = none) :
    exec (.stockRemove id) s = .next (s.refuse .notFound).settle := by
  rw [exec_stockRemove, execStockRemove, request_of_takes _ _ _ htakes, hx]

variable (htakes : s.takes (.stockRemove id)) (hx : s.stockRec id = some x)
include htakes hx

theorem exec_stockRemove_of_slot (hstate : x.state = .available ∨ x.state = .quarantined) :
    exec (.stockRemove id) s = .next (s.removeFromSlot x).settle := by
  rw [exec_stockRemove, execStockRemove, request_of_takes _ _ _ htakes, hx]
  obtain hst | hst := hstate <;> simp only [hst]

theorem exec_stockRemove_of_busy (hstate : x.state = .reserved ∨ x.state = .moving ∨ x.state = .onBed) :
    exec (.stockRemove id) s = .next (s.refuse .badState).settle := by
  rw [exec_stockRemove, execStockRemove, request_of_takes _ _ _ htakes, hx]
  obtain hst | hst | hst := hstate <;> simp only [hst]

theorem exec_stockRemove_of_held (hstate : x.state = .held) :
    exec (.stockRemove id) s = .next (s.removeHeld x).settle := by
  rw [exec_stockRemove, execStockRemove, request_of_takes _ _ _ htakes, hx]
  simp only [hstate]

end OneRecord

theorem removeFromSlot_of_slot {s : State} {x : StockRec} {r : SlotRef} {d : Nat} (hloc : x.loc = .slot r d) :
    s.removeFromSlot x = if d + 1 ≠ (s.slotRecs r).length then s.refuse .notAccessible
      else if (s.lock r).pick ≠ none then s.refuse .slotLocked
      else ((s.dropRec x.id).slotLeft r).accept .none := by
  simp [State.removeFromSlot, State.accessible, hloc, Option.isSome_iff_ne_none]

theorem slotLeft_of_other {s : State} {r : SlotRef} (h : s.bedTable r = none) : s.slotLeft r = s.stockChanged := by
  rw [State.slotLeft, h]

theorem removeHeld_of_free {s : State} {x : StockRec} {c : CraneId} (hmove : x.move = none) (hloc : x.loc = .hook c) :
    s.removeHeld x = (((s.dropRec x.id).modCrane c (fun k => { k with hook := .empty })).wantAttempt).accept .none := by
  rw [State.removeHeld, hmove]
  simp only [State.clearHook, hloc]

/-- Settles O31. -/
theorem stockRequestsChangeOneRecord : Obligations.StockRequestsChangeOneRecord := by
  unfold Obligations.StockRequestsChangeOneRecord
  refine ⟨fun id s hset => ⟨fun htakes => ⟨exec_stockQuarantine_of_none htakes, fun x hx => ?_⟩,
    fun htakes => ⟨fun hx => ?_, fun x hx => ?_⟩⟩, fun id s htakes hset => ⟨fun hx => ?_, fun x hx => ⟨fun hstate => ?_,
      fun r d hstate hloc => ?_, fun c hstate hmove hloc => ?_⟩⟩⟩
  · rw [exec_stockQuarantine_of_some htakes hx]
    exact ⟨fun h => by rw [if_neg h], fun h => by rw [if_pos h]; rfl⟩
  · rw [exec_stockRelease_of_none htakes hx, settle_refuse s hset]
  · rw [exec_stockRelease_of_some htakes hx]
    refine ⟨fun h => ?_, fun h hbed => ?_, fun h hbed => ?_⟩
    · rw [if_pos h, settle_refuse s hset]
    · rw [if_neg (not_not_intro h), if_pos hbed, settle_accept_modRec hset]
      rfl
    · rw [if_neg (not_not_intro h), if_neg (by simp [hbed])]
      exact congrArg _ (settle_accept_stockChanged hset _ _)
  · rw [exec_stockRemove_of_none htakes hx, settle_refuse s hset]
  · rw [exec_stockRemove_of_busy htakes hx hstate, settle_refuse s hset]
  · rw [exec_stockRemove_of_slot htakes hx hstate, removeFromSlot_of_slot hloc]
    refine ⟨fun h => ?_, fun h hpick => ?_, fun h hpick hbed => ?_⟩
    · rw [if_pos h, settle_refuse s hset]
    · rw [if_neg (not_not_intro h), if_pos hpick, settle_refuse s hset]
    · rw [if_neg (not_not_intro h), if_neg (not_not_intro hpick), slotLeft_of_other (s := s.dropRec x.id) hbed]
      exact congrArg _ (settle_accept_stockChanged hset _ _)
  · rw [exec_stockRemove_of_held htakes hx hstate, removeHeld_of_free hmove hloc]
    refine congrArg _ (Quiet.settle ((quiet_accept _).2 (quiet_wantAttempt.2 ((quiet_modCrane c (fun k => { k with hook := .empty }) (fun _ => rfl)).2
      ((quiet_setRecs _).2 (Quiet.refl s))))) hset)

end Sys2Proof.Machine

/-! STOCK_QUERY, STOCK_LIST and SLOT_QUERY (R20 to R22): the image of a record byte by byte, and the location order. -/

namespace Sys2Proof.Machine

/-! ## The arms of the requests -/

theorem exec_stockQuery (id : Nat) (s : State) : exec (.stockQuery id) s = execStockQuery id s := by rfl

theorem exec_stockList (filter arg start : Nat) (s : State) :
    exec (.stockList filter arg start) s = execStockList filter arg start s := by rfl

theorem exec_slotQuery (zone slot : Nat) (s : State) : exec (.slotQuery zone slot) s = execSlotQuery zone slot s := by rfl

/-! ## A list cut into disjoint parts -/

/-- The parts of a list that pairwise disjoint tests pick, put together, are the members that some test picks. -/
theorem perm_flatMap_filter {α β : Type} (l : List α) (p : β → α → Bool) (ks : List β)
    (hdisjoint : ∀ x ∈ l, ks.Pairwise (fun a b => p a x = true → p b x = false)) :
    (ks.flatMap (fun k => l.filter (p k))).Perm (l.filter (fun x => ks.any (p · x))) := by
  induction ks generalizing l with
  | nil => simp
  | cons k ks ih =>
    have hrest : ∀ j ∈ ks, l.filter (p j) = (l.filter (fun x => !p k x)).filter (p j) := fun j hj => by
      rw [List.filter_filter]
      refine List.filter_congr fun x hx => ?_
      have hkj := List.rel_of_pairwise_cons (hdisjoint x hx) hj
      cases hk : p k x
      · simp
      · simp [hkj hk]
    have hsplit := List.filter_append_perm (p k) (l.filter (fun x => (k :: ks).any (p · x)))
    rw [List.flatMap_cons, flatMap_eq_of_forall_mem hrest]
    refine ((ih (l.filter (fun x => !p k x)) fun x hx => ((List.pairwise_cons.1
      (hdisjoint x (List.mem_filter.1 hx).1)).2)).append_left _).trans (.trans (.of_eq ?_) hsplit)
    rw [List.filter_filter, List.filter_filter, List.filter_filter]
    congr 1
    · refine List.filter_congr fun x _ => ?_
      cases hk : p k x <;> simp [hk]
    · refine List.filter_congr fun x _ => ?_
      cases hk : p k x <;> simp [hk]

/-! ## The location order (R21) -/

section Order

variable (s : State)

theorem mem_slotRecs {x : StockRec} {r : SlotRef} : x ∈ s.slotRecs r ↔ x ∈ s.stock.recs ∧ ∃ d, x.loc = .slot r d := by
  rw [State.slotRecs, List.mem_filter]
  refine and_congr_right fun _ => ?_
  unfold StockRec.inSlot
  split
  next q d hloc => simp [hloc]
  next hloc => simp [hloc]

theorem mem_slotOrder {x : StockRec} {r : SlotRef} (h : x ∈ s.slotOrder r) : x ∈ s.slotRecs r := by
  obtain ⟨d, _, hx⟩ := List.mem_flatMap.1 h
  exact (List.mem_filter.1 hx).1

theorem slotOrder_pairwise (r : SlotRef) : (s.slotOrder r).Pairwise (fun x y => x.depth ≤ y.depth) := by
  refine List.pairwise_flatMap.2 ⟨fun d _ => ?_, ?_⟩
  · refine List.Pairwise.imp_of_mem (R := fun _ _ => True) (fun hx hy _ => ?_) (List.pairwise_of_forall fun _ _ => trivial)
    simp only [List.mem_filter, decide_eq_true_eq] at hx hy
    omega
  · refine List.pairwise_lt_range.imp fun hlt x hx y hy => ?_
    simp only [List.mem_filter, decide_eq_true_eq] at hx hy
    omega

/-- Every record lies below the number of records of its slot. -/
def State.depthsOk : Prop := ∀ x ∈ s.stock.recs, ∀ r d, x.loc = .slot r d → d < (s.slotRecs r).length

variable {s}

theorem slotOrder_perm (hdepths : s.depthsOk) (r : SlotRef) : (s.slotOrder r).Perm (s.slotRecs r) := by
  refine (perm_flatMap_filter (s.slotRecs r) (fun d x => decide (x.depth = d)) (List.range (s.slotRecs r).length)
    fun x _ => List.pairwise_lt_range.imp fun hlt => by simp only [decide_eq_true_eq, decide_eq_false_iff_not]; omega).trans
    (.of_eq (List.filter_eq_self.2 fun x hx => ?_))
  obtain ⟨hrec, d, hloc⟩ := (mem_slotRecs s).1 hx
  exact List.any_eq_true.2 ⟨d, List.mem_range.2 (hdepths x hrec r d hloc), by simp [StockRec.depth, hloc]⟩

end Order

/-- Where a record lies, as a number that rises in location order. -/
def StockRec.place (x : StockRec) : Nat :=
  match x.loc with
  | .slot r _ => r.zone.val * 16 + r.slot.val
  | .hook c => 256 + c.val

/-- Location order: places rising, depths rising within a slot. -/
def StockRec.comesBefore (x y : StockRec) : Prop := x.place < y.place ∨ x.place = y.place ∧ x.depth ≤ y.depth

theorem place_of_mem_slotOrder {s : State} {x : StockRec} {r : SlotRef} (h : x ∈ s.slotOrder r) :
    x.place = r.zone.val * 16 + r.slot.val := by
  obtain ⟨_, d, hloc⟩ := (mem_slotRecs s).1 (mem_slotOrder s h)
  simp [StockRec.place, hloc]

/-- The records of a zone, slot by slot. -/
def State.zoneOrder (s : State) (z : Zone) : List StockRec :=
  (List.finRange 16).flatMap (fun n => s.slotOrder { zone := z, slot := n })

/-- The records on the hook of a crane. -/
def State.hookRecs (s : State) (c : CraneId) : List StockRec := s.stock.recs.filter (fun x => x.loc = .hook c)

theorem locationOrder_eq (s : State) :
    s.locationOrder = allZones.flatMap s.zoneOrder ++ s.hookRecs 0 ++ s.hookRecs 1 := by rfl

theorem mem_zoneOrder {s : State} {x : StockRec} {z : Zone} (h : x ∈ s.zoneOrder z) :
    ∃ n : Fin 16, x ∈ s.slotOrder { zone := z, slot := n } := by
  obtain ⟨n, _, hx⟩ := List.mem_flatMap.1 h
  exact ⟨n, hx⟩

theorem mem_hookRecs {s : State} {x : StockRec} {c : CraneId} : x ∈ s.hookRecs c ↔ x ∈ s.stock.recs ∧ x.loc = .hook c := by
  simp [State.hookRecs]

theorem hookRecs_comesBefore {s : State} {x y : StockRec} {c d : CraneId} (hcd : c ≤ d) (hx : x ∈ s.hookRecs c)
    (hy : y ∈ s.hookRecs d) : x.comesBefore y := by
  have hx := (mem_hookRecs.1 hx).2
  have hy := (mem_hookRecs.1 hy).2
  obtain hlt | rfl := Fin.lt_or_eq_of_le hcd
  · exact .inl (by simp only [StockRec.place, hx, hy]; omega)
  · exact .inr (by simp [StockRec.place, StockRec.depth, hx, hy])

theorem zoneOrder_pairwise (s : State) (z : Zone) : (s.zoneOrder z).Pairwise StockRec.comesBefore := by
  refine List.pairwise_flatMap.2 ⟨fun n _ => ?_, ?_⟩
  · refine (slotOrder_pairwise s _).imp_of_mem fun hx hy hdepth => .inr ⟨?_, hdepth⟩
    rw [place_of_mem_slotOrder hx, place_of_mem_slotOrder hy]
  · refine (List.pairwise_lt_finRange 16).imp fun hlt x hx y hy => .inl ?_
    rw [place_of_mem_slotOrder hx, place_of_mem_slotOrder hy]
    dsimp only
    omega

theorem locationOrder_pairwise (s : State) : s.locationOrder.Pairwise StockRec.comesBefore := by
  have hzones : (allZones.flatMap s.zoneOrder).Pairwise StockRec.comesBefore := by
    refine List.pairwise_flatMap.2 ⟨fun z _ => zoneOrder_pairwise s z, ?_⟩
    refine (List.pairwise_lt_finRange 16).imp fun hlt x hx y hy => .inl ?_
    obtain ⟨n, hx⟩ := mem_zoneOrder hx
    obtain ⟨m, hy⟩ := mem_zoneOrder hy
    rw [place_of_mem_slotOrder hx, place_of_mem_slotOrder hy]
    dsimp only
    omega
  have hhook : ∀ c : CraneId, (s.hookRecs c).Pairwise StockRec.comesBefore := fun c =>
    (List.pairwise_of_forall (R := fun _ _ => True) fun _ _ => trivial).imp_of_mem fun hx hy _ =>
      hookRecs_comesBefore (Nat.le_refl _) hx hy
  have hfirst : ∀ x ∈ allZones.flatMap s.zoneOrder, ∀ (c : CraneId), ∀ y ∈ s.hookRecs c, x.comesBefore y := by
    intro x hx c y hy
    obtain ⟨z, _, hx⟩ := List.mem_flatMap.1 hx
    obtain ⟨n, hx⟩ := mem_zoneOrder hx
    refine .inl ?_
    rw [place_of_mem_slotOrder hx, StockRec.place, (mem_hookRecs.1 hy).2]
    dsimp only
    omega
  rw [locationOrder_eq, List.append_assoc]
  refine List.pairwise_append.2 ⟨hzones, List.pairwise_append.2 ⟨hhook 0, hhook 1, fun x hx y hy =>
    hookRecs_comesBefore (by decide) hx hy⟩, fun x hx y hy => ?_⟩
  obtain hy | hy := List.mem_append.1 hy
  · exact hfirst x hx 0 y hy
  · exact hfirst x hx 1 y hy

/-! ### Each record once -/

/-- Whether a record lies in a zone. -/
def StockRec.inZone (x : StockRec) (z : Zone) : Bool := (List.finRange 16).any (fun n => x.inSlot { zone := z, slot := n })

theorem inSlot_iff (x : StockRec) (r : SlotRef) : x.inSlot r = true ↔ ∃ d, x.loc = .slot r d := by
  unfold StockRec.inSlot
  split
  next q d hloc => simp [hloc]
  next hloc => simp [hloc]

theorem inZone_iff (x : StockRec) (z : Zone) : x.inZone z = true ↔ ∃ n d, x.loc = .slot { zone := z, slot := n } d := by
  simp [StockRec.inZone, inSlot_iff]

theorem zoneOrder_perm {s : State} (hdepths : s.depthsOk) (z : Zone) :
    (s.zoneOrder z).Perm (s.stock.recs.filter (fun x => x.inZone z)) := by
  refine (flatMap_perm_of_forall_mem fun n _ => slotOrder_perm hdepths _).trans
    (perm_flatMap_filter s.stock.recs (fun n x => x.inSlot { zone := z, slot := n }) (List.finRange 16) fun x _ => ?_)
  refine (List.pairwise_lt_finRange 16).imp fun hlt hx => Bool.eq_false_iff.2 fun hy => ?_
  obtain ⟨d, hx⟩ := (inSlot_iff _ _).1 hx
  obtain ⟨e, hy⟩ := (inSlot_iff _ _).1 hy
  simp only [hx, Loc.slot.injEq, SlotRef.mk.injEq] at hy
  omega

theorem locationOrder_perm {s : State} (hdepths : s.depthsOk) : s.locationOrder.Perm s.stock.recs := by
  have hslots : (allZones.flatMap s.zoneOrder).Perm (s.stock.recs.filter (fun x => allZones.any (x.inZone ·))) := by
    refine (flatMap_perm_of_forall_mem fun z _ => zoneOrder_perm hdepths z).trans
      (perm_flatMap_filter s.stock.recs (fun z x => x.inZone z) allZones fun x _ => ?_)
    refine (List.pairwise_lt_finRange 16).imp fun hlt hx => Bool.eq_false_iff.2 fun hy => ?_
    obtain ⟨n, d, hx⟩ := (inZone_iff _ _).1 hx
    obtain ⟨m, e, hy⟩ := (inZone_iff _ _).1 hy
    simp only [hx, Loc.slot.injEq, SlotRef.mk.injEq] at hy
    exact absurd hy.1.1 (Fin.ne_of_lt hlt)
  have hhooks : (s.hookRecs 0 ++ s.hookRecs 1).Perm (s.stock.recs.filter (fun x => !allZones.any (x.inZone ·))) := by
    have h := perm_flatMap_filter s.stock.recs (fun (c : CraneId) x => decide (x.loc = .hook c)) [0, 1] fun x _ => by
      simp +contextual
    refine (List.Perm.of_eq (by simp [State.hookRecs])).trans (h.trans (.of_eq (List.filter_congr fun x _ => ?_)))
    rw [Bool.eq_iff_iff, Bool.not_eq_true', List.any_eq_false]
    simp only [inZone_iff]
    cases hloc : x.loc with
    | slot r d => simpa using ⟨r.zone, List.mem_finRange _, r.slot, rfl⟩
    | hook c =>
      obtain rfl | rfl := crane_zero_or_one c <;> simp
  rw [locationOrder_eq, List.append_assoc]
  exact (hslots.append hhooks).trans (List.filter_append_perm _ _)

/-! ## The image of a record (R20, Table 12-8) -/

@[simp] theorem byteOf_toNat (n : Nat) : (byteOf n).toNat = n % 256 := BitVec.toNat_ofNat n 8

@[simp] theorem stockStateOf_number (st : StockState) : stockStateOf st.number = some st := by cases st <;> rfl

theorem StockState.number_lt (st : StockState) : st.number < 256 := by cases st <;> decide

/-- The lock bytes of a record's image are those of its slot. -/
def State.imageLock (s : State) (x : StockRec) : SlotLock :=
  match x.loc with
  | .slot r _ => s.lock r
  | .hook _ => { pick := none, deliveries := 0 }

/-- The place bytes of a record's image. -/
def StockRec.placeBytes (x : StockRec) : Byte × Byte :=
  match x.loc with
  | .slot r _ => (byteOf r.zone.val, byteOf r.slot.val)
  | .hook c => (0xFF, byteOf (c.val + 1))

theorem stockImage_eq (s : State) (x : StockRec) {d0 d1 d2 d3 : Byte}
    (hheat : digitPairs (x.heat.getD (List.replicate 8 0)) = [d0, d1, d2, d3]) :
    s.stockImage x =
      [byteOf (x.id / 256), byteOf x.id, byteOf (if x.kind = .plate then 0 else 1), byteOf x.grade,
        byteOf (x.thick / 256), byteOf x.thick, byteOf (x.len / 256), byteOf x.len, byteOf (x.wid / 256), byteOf x.wid,
        byteOf ((if x.heat.isSome then 1 else 0) + (if x.parent.isSome then 2 else 0)), d0, d1, d2, d3,
        byteOf (x.parent.getD 0 / 256), byteOf (x.parent.getD 0), byteOf x.gen, x.placeBytes.1, x.placeBytes.2,
        byteOf (x.age / 65536 / 256), byteOf (x.age / 65536), byteOf (x.age / 256), byteOf x.age, byteOf x.depth,
        byteOf x.state.number, byteOf (x.table.elim 255 (fun t => t.val + 1)), byteOf (x.before.elim 255 StockState.number),
        byteOf (x.move.getD 0), byteOf ((s.imageLock x).pick.getD 0), byteOf (s.imageLock x).deliveries, 0] := by
  rw [State.stockImage, hheat]
  cases hloc : x.loc <;> simp [State.imageLock, StockRec.placeBytes, hloc, bytes2, bytes4]

/-- Eight digits make four bytes. -/
theorem digitPairs_of_eight {h : List Nat} (hlen : h.length = 8) : digitPairs h =
    [byteOf (h.getD 0 0 * 16 + h.getD 1 0), byteOf (h.getD 2 0 * 16 + h.getD 3 0),
      byteOf (h.getD 4 0 * 16 + h.getD 5 0), byteOf (h.getD 6 0 * 16 + h.getD 7 0)] := by
  match h, hlen with
  | [a, b, c, d, e, f, g, i], _ => rfl

theorem digits_lt {h : List Nat} (hdigits : ∀ d ∈ h, d ≤ 9) (i j : Nat) : h.getD i 0 * 16 + h.getD j 0 < 256 := by
  have hdigit : ∀ k, h.getD k 0 ≤ 9 := fun k => by
    rw [List.getD_eq_getElem?_getD]
    cases hk : h[k]? with
    | none => simp
    | some d => exact hdigits d (List.mem_of_getElem? hk)
  have := hdigit i
  have := hdigit j
  omega

theorem heat_digits {x : StockRec} (hheat : ∀ h, x.heat = some h → h.length = 8 ∧ ∀ d ∈ h, d ≤ 9) :
    (x.heat.getD (List.replicate 8 0)).length = 8 ∧ ∀ d ∈ x.heat.getD (List.replicate 8 0), d ≤ 9 := by
  cases hx : x.heat with
  | none => simp
  | some h => exact hheat h hx

/-- A number below 65536 is read back from its two bytes. -/
theorem two_bytes {n : Nat} (h : n < 65536) : n / 256 % 256 * 256 + n % 256 = n := by omega

theorem four_bytes {n : Nat} (h : n < 4294967296) :
    ((n / 65536 / 256 % 256 * 256 + n / 65536 % 256) * 256 + n / 256 % 256) * 256 + n % 256 = n := by omega

theorem stockImage_fields (s : State) {x : StockRec} (hid : x.id < 65536) (hgrade : x.grade < 256) (hthick : x.thick < 65536)
    (hlen : x.len < 65536) (hwid : x.wid < 65536) (hgen : x.gen < 256) (hage : x.age < 4294967296) (hdepth : x.depth < 256)
    (hparent : ∀ p, x.parent = some p → p < 65536) (hmove : ∀ m, x.move = some m → m < 256)
    (hheat : ∀ h, x.heat = some h → h.length = 8 ∧ ∀ d ∈ h, d ≤ 9) :
    let b (i : Nat) : Nat := ((s.stockImage x).getD i 0).toNat
    (s.stockImage x).length = 32 ∧ b 0 * 256 + b 1 = x.id ∧ b 2 = (if x.kind = .plate then 0 else 1) ∧ b 3 = x.grade
      ∧ b 4 * 256 + b 5 = x.thick ∧ b 6 * 256 + b 7 = x.len ∧ b 8 * 256 + b 9 = x.wid
      ∧ b 10 = (if x.heat = none then 0 else 1) + (if x.parent = none then 0 else 2)
      ∧ (∀ h, x.heat = some h → ∀ i, i < 4 → b (11 + i) = h.getD (2 * i) 0 * 16 + h.getD (2 * i + 1) 0)
      ∧ (∀ p, x.parent = some p → b 15 * 256 + b 16 = p) ∧ (x.parent = none → b 15 = 0 ∧ b 16 = 0) ∧ b 17 = x.gen
      ∧ (∀ r d, x.loc = .slot r d → b 18 = r.zone.val ∧ b 19 = r.slot.val ∧ b 24 = d
          ∧ ((s.lock r).pick = none → b 29 = 0) ∧ (∀ m, (s.lock r).pick = some m → m < 256 → b 29 = m)
          ∧ ((s.lock r).deliveries < 256 → b 30 = (s.lock r).deliveries))
      ∧ (∀ c, x.loc = .hook c → b 18 = 255 ∧ b 19 = c.val + 1 ∧ b 24 = 0 ∧ b 29 = 0 ∧ b 30 = 0)
      ∧ ((b 20 * 256 + b 21) * 256 + b 22) * 256 + b 23 = x.age
      ∧ stockStateOf (b 25) = some x.state
      ∧ (x.table = none → b 26 = 255) ∧ (∀ t, x.table = some t → b 26 = t.val + 1)
      ∧ (x.before = none → b 27 = 255) ∧ (∀ st, x.before = some st → stockStateOf (b 27) = some st)
      ∧ (x.move = none → b 28 = 0) ∧ (∀ m, x.move = some m → b 28 = m) ∧ b 31 = 0 := by
  intro b
  have himage := stockImage_eq s x (digitPairs_of_eight (heat_digits hheat).1)
  refine ⟨by rw [himage]; rfl, ?_⟩
  simp only [b, himage, List.getD_cons_zero, List.getD_cons_succ, byteOf_toNat, two_bytes hid, two_bytes hthick,
    two_bytes hlen, two_bytes hwid, four_bytes hage, Nat.mod_eq_of_lt hgrade, Nat.mod_eq_of_lt hgen,
    Nat.mod_eq_of_lt hdepth, Nat.mod_eq_of_lt x.state.number_lt, stockStateOf_number, true_and]
  refine ⟨?_, ?_, ?_, ?_, ?_, ?_, ?_, ?_, ?_, ?_, ?_, ?_, ?_, rfl⟩
  · split <;> rfl
  · cases x.heat <;> cases x.parent <;> rfl
  · intro h hh i hi
    obtain ⟨-, hdigits⟩ := hheat h hh
    match i, hi with
    | 0, _ | 1, _ | 2, _ | 3, _ =>
      simp only [hh, Option.getD_some, List.getD_cons_succ, List.getD_cons_zero, byteOf_toNat, Nat.reduceAdd,
        Nat.reduceMul, Nat.mod_eq_of_lt (digits_lt hdigits _ _)]
  · intro p hp
    simp only [hp, Option.getD_some, two_bytes (hparent p hp)]
  · intro hp
    simp [hp]
  · intro r d hloc
    have hzone : r.zone.val % 256 = r.zone.val := Nat.mod_eq_of_lt (by omega)
    have hslot : r.slot.val % 256 = r.slot.val := Nat.mod_eq_of_lt (by omega)
    simp only [StockRec.placeBytes, State.imageLock, StockRec.depth, hloc, byteOf_toNat, hzone, hslot, true_and]
    exact ⟨fun h => by simp [h], fun m h hm => by simp [h, Nat.mod_eq_of_lt hm], Nat.mod_eq_of_lt⟩
  · intro c hloc
    have hcrane : (c.val + 1) % 256 = c.val + 1 := Nat.mod_eq_of_lt (by omega)
    simp [StockRec.placeBytes, State.imageLock, StockRec.depth, hloc, hcrane]
  · intro ht; simp [ht]
  · intro t ht
    simp [ht]
    omega
  · intro ht; simp [ht]
  · intro st ht
    simp [ht, Nat.mod_eq_of_lt st.number_lt]
  · intro ht; simp [ht]
  · intro m hm
    simp [hm, Nat.mod_eq_of_lt (hmove m hm)]

/-! ## What the queries answer -/

theorem exec_stockList_of_filter {s : State} {filter arg start : Nat} (htakes : s.takes (.stockList filter arg start))
    {p : StockRec → Bool} (hp : listFilter filter arg = some p) (hstart : start ≤ 191) :
    exec (.stockList filter arg start) s = .next (s.accept (.list
      ((((s.locationOrder.filter p).drop start).take 16).map StockRec.id)
      (if 16 < ((s.locationOrder.filter p).drop start).length
        then some (start + ((((s.locationOrder.filter p).drop start).take 16).map StockRec.id).length) else none))) := by
  rw [exec_stockList, execStockList, ask_of_takes _ _ _ htakes, hp]
  exact congrArg _ (if_neg (by omega))

theorem exec_stockList_of_range {s : State} {filter arg start : Nat} (htakes : s.takes (.stockList filter arg start))
    (h : listFilter filter arg = none ∨ 191 < start) :
    exec (.stockList filter arg start) s = .next (s.refuse .range) := by
  rw [exec_stockList, execStockList, ask_of_takes _ _ _ htakes]
  cases hp : listFilter filter arg with
  | none => rfl
  | some p => exact congrArg _ (if_pos (h.resolve_left (by simp [hp])))

theorem stockSlotRef_eq_none_iff (s : State) (zone slot : Nat) : s.stockSlotRef zone slot = none ↔
    s.slotRef zone slot = none ∨ ∃ r, s.slotRef zone slot = some r ∧ s.kindOf r.zone = .output := by
  unfold State.stockSlotRef
  cases s.slotRef zone slot <;> simp

theorem stockSlotRef_of_stock {s : State} {zone slot : Nat} {r : SlotRef} (h : s.slotRef zone slot = some r)
    (hkind : s.kindOf r.zone ≠ .output) : s.stockSlotRef zone slot = some r := by
  simp [State.stockSlotRef, h, hkind]

/-- Settles O32. -/
theorem stockQueriesAnswer : Obligations.StockQueriesAnswer := by
  unfold Obligations.StockQueriesAnswer
  intro s
  refine ⟨fun x hid hgrade hthick hlen hwid hgen hage hdepth hparent hmove hheat =>
    stockImage_fields s hid hgrade hthick hlen hwid hgen hage hdepth hparent hmove hheat, fun hdepths => ?_,
    fun id htakes => ⟨fun hx => ?_, fun x hx => ?_⟩, fun filter arg start htakes =>
      ⟨exec_stockList_of_range htakes, fun p hp hstart => ?_⟩, fun zone slot htakes => ⟨fun hr => ?_, fun r hr hkind => ?_⟩⟩
  · intro place
    exact ⟨locationOrder_perm hdepths, locationOrder_pairwise s,
      fun r => ⟨slotOrder_perm hdepths r, slotOrder_pairwise s r⟩⟩
  · rw [exec_stockQuery, execStockQuery, ask_of_takes _ _ _ htakes, hx]
  · rw [exec_stockQuery, execStockQuery, ask_of_takes _ _ _ htakes, hx]
  · refine ⟨_, _, exec_stockList_of_filter htakes hp hstart, by simp, fun i hi => ?_, ?_⟩
    · simp only [List.length_map, List.length_take] at hi
      rw [List.getElem?_map, List.getElem?_take_of_lt (by omega), List.getElem?_drop]
    · simp only [List.length_map, List.length_take, List.length_drop]
      split <;> split <;> simp <;> omega
  · rw [exec_slotQuery, execSlotQuery, ask_of_takes _ _ _ htakes, (stockSlotRef_eq_none_iff s zone slot).2 hr]
  · rw [exec_slotQuery, execSlotQuery, ask_of_takes _ _ _ htakes, stockSlotRef_of_stock hr hkind]

end Sys2Proof.Machine

/-! STOCK_REGISTER (R16) and the two cursors of the stock table (R6, R7). -/

namespace Sys2Proof.Machine

theorem exec_stockRegister (b : StockBody) (s : State) : exec (.stockRegister b) s = execStockRegister b s := by rfl

/-! ## The tests of STOCK_REGISTER -/

section Register

variable {b : StockBody} {s : State} {r : SlotRef}

theorem registerSlot_of_none (h : s.slotRef b.zone b.slot = none) : s.registerSlot b = none := by
  rw [State.registerSlot, h]

theorem registerSlot_of_other (h : s.slotRef b.zone b.slot = some r) (hstock : s.kindOf r.zone ≠ .stock)
    (hrack : s.kindOf r.zone ≠ .rack) : s.registerSlot b = none := by
  simp [State.registerSlot, h, hstock, hrack]

theorem registerSlot_of_store (h : s.slotRef b.zone b.slot = some r)
    (hkind : s.kindOf r.zone = .stock ∨ s.kindOf r.zone = .rack) : s.registerSlot b = some r := by
  simp [State.registerSlot, h, hkind]

theorem registerTest_of_pick (h : (s.lock r).pick ≠ none) : s.registerTest r = some .slotLocked := by
  simp [State.registerTest, State.deliveryTest, Option.isSome_iff_ne_none, h]

theorem registerTest_of_deliveries (hkind : s.kindOf r.zone = .stock ∨ s.kindOf r.zone = .rack)
    (h : (s.lock r).deliveries ≠ 0) : s.registerTest r = some .slotLocked := by
  obtain hk | hk := hkind <;> simp [State.registerTest, State.deliveryTest, hk, h]

variable (hlock : s.lock r = { pick := none, deliveries := 0 })
include hlock

/-- The test of a stack that nobody picks from or delivers to. -/
theorem registerTest_of_stack (hkind : s.kindOf r.zone = .stock) : s.registerTest r =
    if (s.slotTop r).any (fun x => x.state = .reserved || x.state = .moving) then some .slotLocked
      else if (s.slotRecs r).length < 8 then none else some .full := by
  simp [State.registerTest, State.deliveryTest, hkind, hlock]

theorem registerTest_of_rack (hkind : s.kindOf r.zone = .rack) :
    s.registerTest r = if (s.slotRecs r).isEmpty then none else some .full := by
  simp [State.registerTest, State.deliveryTest, hkind, hlock]

end Register

/-- The record at the top of a stack is RESERVED or MOVING. -/
theorem topBusy_iff {s : State} {r : SlotRef} :
    (s.slotTop r).any (fun x => x.state = .reserved || x.state = .moving) = true
      ↔ ∃ y, s.slotTop r = some y ∧ (y.state = .reserved ∨ y.state = .moving) := by
  cases s.slotTop r <;> simp

theorem quiet_countAge (s : State) : Quiet s s.countAge where
  work := rfl
  changed := rfl
  now := rfl
  hall := rfl
  map := rfl
  guards := rfl
  tabs _ := ⟨rfl, rfl⟩
  cranes _ := rfl

section Exec

variable {b : StockBody} {s : State} (htakes : s.takes (.stockRegister b)) (hset : s.settled)
include htakes

theorem exec_stockRegister_of_slot (hbody : stockBodyOk b = true) {r : SlotRef} (hslot : s.registerSlot b = some r) :
    exec (.stockRegister b) s = .next (if s.idUsed b.id then s.refuse .duplicate
      else if 192 ≤ s.stock.recs.length then s.refuse .full
      else match s.registerTest r with
        | some c => s.refuse c
        | none => (((s.countAge).setRecs (s.stock.recs ++ [s.newRecord b r])).stockChanged).accept
            (.registered b.id s.stock.seq (s.stackDepth r))).settle := by
  rw [exec_stockRegister, execStockRegister, request_of_takes _ _ _ htakes, hbody, hslot]
  rfl

include hset

theorem exec_stockRegister_of_range (h : stockBodyOk b = false ∨ s.registerSlot b = none) :
    exec (.stockRegister b) s = .next (s.refuse .range) := by
  rw [exec_stockRegister, execStockRegister, request_of_takes _ _ _ htakes]
  cases hbody : stockBodyOk b with
  | false => exact congrArg _ (settle_refuse s hset .range)
  | true =>
    rw [h.resolve_left (by simp [hbody])]
    exact congrArg _ (settle_refuse s hset .range)

variable (hbody : stockBodyOk b = true) {r : SlotRef} (hslot : s.registerSlot b = some r)
include hbody hslot

theorem exec_stockRegister_of_used (hused : s.idUsed b.id = true) :
    exec (.stockRegister b) s = .next (s.refuse .duplicate) := by
  rw [exec_stockRegister_of_slot htakes hbody hslot, if_pos hused, settle_refuse s hset]

variable (hfree : s.idUsed b.id = false)
include hfree

theorem exec_stockRegister_of_full (hfull : 192 ≤ s.stock.recs.length) :
    exec (.stockRegister b) s = .next (s.refuse .full) := by
  rw [exec_stockRegister_of_slot htakes hbody hslot, if_neg (Bool.eq_false_iff.1 hfree), if_pos hfull, settle_refuse s hset]

variable (hroom : s.stock.recs.length < 192)
include hroom

theorem exec_stockRegister_of_test {c : Code} (htest : s.registerTest r = some c) :
    exec (.stockRegister b) s = .next (s.refuse c) := by
  rw [exec_stockRegister_of_slot htakes hbody hslot, if_neg (Bool.eq_false_iff.1 hfree), if_neg (Nat.not_le.2 hroom), htest]
  exact congrArg _ (settle_refuse s hset c)

/-- The record joins the table, the sequence counter steps on, and one stock-change event follows. -/
theorem exec_stockRegister_of_passed (htest : s.registerTest r = none) :
    exec (.stockRegister b) s = .next (({ s with stock := { s.stock with
      recs := s.stock.recs ++ [s.newRecord b r], seq := s.countAge.stock.seq, events := s.stock.events + 1 } } :
      State).accept (.registered b.id s.stock.seq (s.stackDepth r))) := by
  rw [exec_stockRegister_of_slot htakes hbody hslot, if_neg (Bool.eq_false_iff.1 hfree), if_neg (Nat.not_le.2 hroom), htest]
  exact congrArg _ (settle_accept_stockChanged ((quiet_countAge s).settled hset) _ _)

end Exec

/-! ## The cursors in the form of the obligation -/

theorem wrapped_age {v : Nat} (hlo : 1 ≤ v) (k : Nat) : wrapped 1 Config.lastAge v (k + 1) = (v + k) % 4294967295 + 1 := by
  rw [wrapped, show v - 1 + (k + 1) = v + k by omega, Nat.add_comm]
  rfl

/-- Settles O30. -/
theorem stockRegisterCreatesARecord : Obligations.StockRegisterCreatesARecord := by
  unfold Obligations.StockRegisterCreatesARecord
  refine ⟨fun b s htakes hset => ⟨fun hrange => ?_, fun r hbody href hkind => ?_⟩,
    fun s hfew => ⟨fun hlo hhi => ?_, fun hlo hhi => ?_⟩, fun s t hok hstep => (step_keeps hstep).2.2.2 hok⟩
  · refine exec_stockRegister_of_range htakes hset (hrange.imp_right fun h => ?_)
    obtain hnone | ⟨r, hr, hstock, hrack⟩ := h
    · exact registerSlot_of_none hnone
    · exact registerSlot_of_other hr hstock hrack
  · have hslot := registerSlot_of_store href hkind
    refine ⟨exec_stockRegister_of_used htakes hset hbody hslot, exec_stockRegister_of_full htakes hset hbody hslot,
      fun hfree hroom hpick => ?_, fun hfree hroom hpick hdel => ?_, fun hfree hroom hlock hstock => ⟨fun y hy hbusy => ?_,
        fun hidle hfull => ?_⟩, fun hfree hroom hlock hrack hused => ?_, fun hfree hroom hlock hplace => ?_⟩
    · exact exec_stockRegister_of_test htakes hset hbody hslot hfree hroom (registerTest_of_pick hpick)
    · exact exec_stockRegister_of_test htakes hset hbody hslot hfree hroom (registerTest_of_deliveries hkind hdel)
    · refine exec_stockRegister_of_test htakes hset hbody hslot hfree hroom ?_
      rw [registerTest_of_stack hlock hstock, if_pos (topBusy_iff.2 ⟨y, hy, hbusy⟩)]
    · refine exec_stockRegister_of_test htakes hset hbody hslot hfree hroom ?_
      rw [registerTest_of_stack hlock hstock, if_neg, if_neg (by omega)]
      rintro hbusy
      obtain ⟨y, hy, hst⟩ := topBusy_iff.1 hbusy
      exact hst.elim (hidle y hy).1 (hidle y hy).2
    · refine exec_stockRegister_of_test htakes hset hbody hslot hfree hroom ?_
      rw [registerTest_of_rack hlock hrack, if_neg (by simpa using hused)]
    · intro x
      refine exec_stockRegister_of_passed htakes hset hbody hslot hfree hroom ?_
      obtain ⟨hrack, hempty⟩ | ⟨hstock, hfew, hidle⟩ := hplace
      · rw [registerTest_of_rack hlock hrack, if_pos (by simp [hempty])]
      · rw [registerTest_of_stack hlock hstock, if_neg, if_pos hfew]
        rintro hbusy
        obtain ⟨y, hy, hst⟩ := topBusy_iff.1 hbusy
        exact hst.elim (hidle y hy).1 (hidle y hy).2
  · obtain ⟨k, -, hvalue, hpassed, hfree⟩ := countAge_spec hfew hlo hhi
    have hbounds := wrapped_bounds (v := s.stock.seq) (show 1 ≤ Config.lastAge by decide) (k + 1)
    rw [← hvalue] at hbounds
    rw [wrapped_age hlo] at hvalue
    simp only [wrapped_age hlo] at hpassed
    refine ⟨hbounds.1, hbounds.2, hfree, ⟨k, hvalue, hpassed⟩, fun hnext hlt => ?_, fun hnext hlast => ?_⟩
    · cases k with
      | zero => omega
      | succ k =>
        obtain ⟨x, hx, hage⟩ := hpassed 0 (by omega)
        exact absurd (hage.trans (by omega)) (hnext x hx)
    · cases k with
      | zero => omega
      | succ k =>
        obtain ⟨x, hx, hage⟩ := hpassed 0 (by omega)
        exact absurd (hage.trans (by omega)) (hnext x hx)
  · obtain ⟨k, -, hvalue, hpassed, hfree⟩ := partId_spec hfew hlo hhi
    have hbounds := wrapped_bounds (v := s.stock.idCursor) (show Config.firstPartId ≤ Config.lastPartId by decide) k
    rw [← hvalue] at hbounds
    refine ⟨hbounds.1, hbounds.2, hfree, ⟨k, hvalue, hpassed⟩, fun hnext => ?_⟩
    cases k with
    | zero => exact hvalue.trans (wrapped_zero hlo hhi)
    | succ k =>
      obtain ⟨x, hx, hid⟩ := hpassed 0 (by omega)
      exact absurd (hid.trans (wrapped_zero hlo hhi)) (hnext x hx)

end Sys2Proof.Machine

/-! The allocator: the choice of a plate (R26, R27) and the walk of the stock wait list (R28, R32). -/

namespace Sys2Proof.Machine

/-! ## Selection (R27) -/

/-- `x` goes before `y`, or neither goes before the other. -/
def NotAfter (q : Requirement) (x y : StockRec) : Prop :=
  waste q x < waste q y ∨ (waste q x = waste q y ∧ x.age ≤ y.age)

section Best

variable {q : Requirement} {x y z : StockRec}

theorem NotAfter.refl : NotAfter q x x := .inr ⟨rfl, Nat.le_refl _⟩

theorem NotAfter.trans (h : NotAfter q x y) (h' : NotAfter q y z) : NotAfter q x z := by
  unfold NotAfter at *
  omega

theorem notAfter_of_before (h : before q x y = true) : NotAfter q x y := by
  simp only [before, Bool.or_eq_true, Bool.and_eq_true, decide_eq_true_eq] at h
  unfold NotAfter
  omega

theorem notAfter_of_not_before (h : before q x y = false) : NotAfter q y x := by
  simp only [before, Bool.or_eq_false_iff, Bool.and_eq_false_iff, decide_eq_false_iff_not] at h
  unfold NotAfter
  omega

theorem bestOf_eq_none_iff (l : List StockRec) : bestOf q l = none ↔ l = [] := by
  cases l with
  | nil => simp [bestOf]
  | cons x xs =>
    rw [bestOf]
    split
    · simp
    · split <;> simp

theorem bestOf_spec {l : List StockRec} (h : bestOf q l = some x) : x ∈ l ∧ ∀ y ∈ l, NotAfter q x y := by
  induction l generalizing x with
  | nil => cases h
  | cons z zs ih =>
    rw [bestOf] at h
    split at h
    next hnone =>
      cases h
      rw [(bestOf_eq_none_iff zs).1 hnone]
      exact ⟨List.mem_singleton_self z, fun y hy => (List.mem_singleton.1 hy) ▸ .refl⟩
    next y hy =>
      obtain ⟨hmem, hbest⟩ := ih hy
      split at h
      next hbefore =>
        cases h
        refine ⟨List.mem_cons_of_mem z hmem, fun w hw => ?_⟩
        obtain rfl | hw := List.mem_cons.1 hw
        · exact notAfter_of_before hbefore
        · exact hbest w hw
      next hnot =>
        cases h
        refine ⟨List.mem_cons_self, fun w hw => ?_⟩
        obtain rfl | hw := List.mem_cons.1 hw
        · exact .refl
        · exact (notAfter_of_not_before (Bool.eq_false_iff.2 hnot)).trans (hbest w hw)

end Best

theorem mem_candidates {s : State} {q : Requirement} {k : StockKind} {x : StockRec} :
    x ∈ s.candidates q k ↔ x ∈ s.stock.recs ∧ s.candidate q x = true ∧ x.kind = k := by
  simp [State.candidates]

theorem candidates_eq_nil_iff {s : State} {q : Requirement} {k : StockKind} :
    s.candidates q k = [] ↔ ∀ x ∈ s.stock.recs, s.candidate q x = true → x.kind ≠ k := by
  simp [State.candidates, List.filter_eq_nil_iff]

/-- The winner is the best of the REMNANT candidates, or of the PLATE ones where there are none. -/
theorem winner_cases {s : State} {q : Requirement} {x : StockRec} (h : s.winner q = some x) :
    ∃ k, bestOf q (s.candidates q k) = some x ∧ (k = .remnant ∨ s.candidates q .remnant = []) := by
  unfold State.winner at h
  split at h
  next y hy => exact ⟨.remnant, hy.trans h, .inl rfl⟩
  next hnone => exact ⟨.plate, h, .inr ((bestOf_eq_none_iff _).1 hnone)⟩

theorem winner_eq_none_iff {s : State} {q : Requirement} :
    s.winner q = none ↔ ∀ x ∈ s.stock.recs, s.candidate q x = false := by
  have hkinds : s.winner q = none ↔ s.candidates q .remnant = [] ∧ s.candidates q .plate = [] := by
    unfold State.winner
    split
    next y hy => simp [← bestOf_eq_none_iff (q := q), hy]
    next hnone => simp [← bestOf_eq_none_iff (q := q), hnone]
  rw [hkinds, candidates_eq_nil_iff, candidates_eq_nil_iff]
  refine ⟨fun ⟨hremnant, hplate⟩ x hx => Bool.eq_false_iff.2 fun hc => ?_, fun h => ⟨fun x hx hc => ?_, fun x hx hc => ?_⟩⟩
  · cases hk : x.kind with
    | remnant => exact hremnant x hx hc hk
    | plate => exact hplate x hx hc hk
  · simp [h x hx] at hc
  · simp [h x hx] at hc

/-- Settles O33. -/
theorem winnerIsTheBestCandidate : Obligations.WinnerIsTheBestCandidate := by
  intro q s
  refine ⟨winner_eq_none_iff, fun x hx => ?_⟩
  obtain ⟨k, hbest, hkind⟩ := winner_cases hx
  obtain ⟨hmem, hleast⟩ := bestOf_spec hbest
  obtain ⟨hrec, hcand, rfl⟩ := mem_candidates.1 hmem
  refine ⟨hrec, hcand, fun ⟨y, hy, hcy, hky⟩ => ?_, fun y hy hcy hky => hleast y (mem_candidates.2 ⟨hy, hcy, hky⟩)⟩
  exact hkind.resolve_right fun hnil => absurd hky (candidates_eq_nil_iff.1 hnil y hy hcy)

end Sys2Proof.Machine

/-! The rules of the stock table's operations: finding a record after a change of records, the locks of a slot, and the
acceptance of a move post (R9 to R11, R163 to R167). -/

namespace Sys2Proof.Machine

/-! ## Finding a record -/

section Records

variable {s : State}

theorem stockRec_spec {id : Nat} {x : StockRec} (h : s.stockRec id = some x) : x ∈ s.stock.recs ∧ x.id = id :=
  ⟨List.mem_of_find?_eq_some h, by simpa using List.find?_some h⟩

theorem stockRec_of_mem {x : StockRec} (hids : (s.stock.recs.map StockRec.id).Nodup) (hx : x ∈ s.stock.recs) :
    s.stockRec x.id = some x := by
  cases h : s.stockRec x.id with
  | none => simpa using List.find?_eq_none.1 h x hx
  | some y =>
    obtain ⟨hy, hyx⟩ := stockRec_spec h
    rw [eq_of_nodup_map hids hy hx hyx]

/-- A change of one record that keeps ids. -/
def StockRec.changed (id : Nat) (f : StockRec → StockRec) (x : StockRec) : StockRec := if x.id = id then f x else x

@[simp] theorem StockRec.changed_same (f : StockRec → StockRec) (x : StockRec) : StockRec.changed x.id f x = f x := if_pos rfl

theorem modRec_eq (s : State) (id : Nat) (f : StockRec → StockRec) :
    s.modRec id f = s.setRecs (s.stock.recs.map (StockRec.changed id f)) := rfl

theorem stockRec_modRec (s : State) (id k : Nat) {f : StockRec → StockRec} (hid : ∀ x, (f x).id = x.id) :
    (s.modRec id f).stockRec k = (s.stockRec k).map (StockRec.changed id f) := by
  have hkey : ∀ x, (StockRec.changed id f x).id = x.id := fun x => by unfold StockRec.changed; split <;> simp [hid]
  show (s.stock.recs.map (StockRec.changed id f)).find? _ = _
  rw [List.find?_map]
  simp only [Function.comp_def, hkey]
  rfl

theorem stockRec_modRec_same {id : Nat} {x : StockRec} (h : s.stockRec id = some x) {f : StockRec → StockRec}
    (hid : ∀ x, (f x).id = x.id) : (s.modRec id f).stockRec id = some (f x) := by
  rw [stockRec_modRec s id id hid, h, Option.map_some, StockRec.changed, if_pos (stockRec_spec h).2]

theorem slotRecs_modRec (s : State) (id : Nat) {f : StockRec → StockRec} (hloc : ∀ x, (f x).loc = x.loc) (r : SlotRef) :
    (s.modRec id f).slotRecs r = (s.slotRecs r).map (StockRec.changed id f) := by
  have hkey : ∀ x, (StockRec.changed id f x).loc = x.loc := fun x => by unfold StockRec.changed; split <;> simp [hloc]
  show (s.stock.recs.map (StockRec.changed id f)).filter _ = _
  rw [List.filter_map]
  simp only [Function.comp_def, StockRec.inSlot, hkey]
  rfl

theorem length_slotRecs_modRec (s : State) (id : Nat) {f : StockRec → StockRec} (hloc : ∀ x, (f x).loc = x.loc) (r : SlotRef) :
    ((s.modRec id f).slotRecs r).length = (s.slotRecs r).length := by
  rw [slotRecs_modRec s id hloc, List.length_map]

end Records

/-! ## The locks of a slot (R11) -/

section Locks

variable (s : State) (r q : SlotRef) (l : SlotLock)

theorem lock_setLock : (s.setLock r l).lock q = if q = r then l else s.lock q := by
  simp only [State.lock, State.setLock]
  rw [vector_get_set]
  by_cases hzone : q.zone = r.zone
  · rw [if_pos hzone, vector_get_set]
    by_cases hslot : q.slot = r.slot
    · rw [if_pos hslot, if_pos (by cases q; cases r; simp_all)]
    · rw [if_neg hslot, if_neg (by rintro rfl; exact hslot rfl), hzone]
  · rw [if_neg hzone, if_neg (by rintro rfl; exact hzone rfl)]

@[simp] theorem lock_setLock_same : (s.setLock r l).lock r = l := by rw [lock_setLock, if_pos rfl]

theorem lock_setLock_of_ne (h : q ≠ r) : (s.setLock r l).lock q = s.lock q := by rw [lock_setLock, if_neg h]

theorem lock_setPick (p : Option Nat) : (s.setPick r p).lock q = if q = r then { s.lock r with pick := p } else s.lock q :=
  lock_setLock s r q _

theorem lock_beginDelivery : (s.beginDelivery r).lock q =
    if q = r then { s.lock r with deliveries := (s.lock r).deliveries + 1 } else s.lock q := lock_setLock s r q _

end Locks

/-! ## Slots by number -/

theorem slotRef_of_lt {s : State} {r : SlotRef} (h : r.slot.val < slotCount (s.kindOf r.zone)) :
    s.slotRef r.zone.val r.slot.val = some r := by
  unfold State.slotRef
  rw [dif_pos r.zone.isLt, dif_pos r.slot.isLt]
  exact if_pos h

theorem slotRef_spec {s : State} {zone slot : Nat} {r : SlotRef} (h : s.slotRef zone slot = some r) :
    r.zone.val = zone ∧ r.slot.val = slot ∧ slot < slotCount (s.kindOf r.zone) := by
  unfold State.slotRef at h
  split at h
  · split at h
    · split at h
      next hcount => cases h; exact ⟨rfl, rfl, hcount⟩
      next => cases h
    · cases h
  · cases h

/-- The bed of a table lies in slot 0 of its zone. -/
theorem bedRef_spec {s : State} {t : TableId} {bed : SlotRef} (h : s.bedRef t = some bed) :
    s.kindOf bed.zone = .table t ∧ bed.slot = 0 := by
  obtain ⟨z, hz, rfl⟩ := Option.map_eq_some_iff.1 h
  exact ⟨by simpa using List.find?_some hz, rfl⟩

theorem stockSlotRef_of_bed {s : State} {t : TableId} {bed : SlotRef} (h : s.bedRef t = some bed) :
    s.stockSlotRef bed.zone.val bed.slot.val = some bed := by
  obtain ⟨hkind, hslot⟩ := bedRef_spec h
  exact stockSlotRef_of_stock (slotRef_of_lt (by rw [hkind, hslot]; exact Nat.zero_lt_one)) (by simp [hkind])

/-! ## Acceptance of a move post (R163 to R167) -/

theorem post_of_test {s : State} {p : Post} {m : MoveRec} (htest : s.postTest p = .ok m) (hroom : s.moves.queue.length < 16) :
    s.post p = (s.acceptMove m, .accepted s.moveId) := by
  rw [State.post, htest]
  exact if_neg (Nat.not_le.2 hroom)

/-- The record of an accepted move (R167). -/
def StockRec.underMove (mv : Nat) (y : StockRec) : StockRec :=
  { y with
    state := .moving, table := none, before := if y.state = .held then none else some y.state, move := some mv }

/-- A move of a record from a slot to a slot takes the pick lock, and the delivery. -/
theorem lockStock_of_slots {s : State} {m : MoveRec} {x id : Nat} {r d : SlotRef} (hload : m.load = .stock x)
    (hsrc : m.src = .slot r) (hdst : m.dst = .slot d) : s.lockStock id m =
      ((s.modRec x (StockRec.underMove id)).setPick r (some id)).beginDelivery d := by
  simp only [State.lockStock, hload, hsrc, hdst]
  rfl

end Sys2Proof.Machine

/-! WAIT_LIST_WALK (R28, R32): a stock-change event serves the tables that wait for stock. -/

namespace Sys2Proof.Machine

theorem exec_waitListWalk (s : State) : exec .waitListWalk s = execWaitListWalk s := by rfl

/-! ## The walk -/

theorem walkList_of_misses (s : State) (l : List WaitEntry) (h : ∀ e ∈ l, s.winner e.req = none) :
    walkList s l = (s, l, []) := by
  induction l with
  | nil => rfl
  | cons e l ih =>
    rw [walkList, h e List.mem_cons_self]
    simp only [ih fun e' he' => h e' (List.mem_cons_of_mem e he')]

theorem walk_of_misses {s : State} (h : ∀ e ∈ s.alloc.waits, s.winner e.req = none) : s.walk = s := by
  rw [State.walk, walkList_of_misses s _ h]
  rfl

theorem walk_of_hit {s : State} {e : WaitEntry} {x : StockRec} (hwaits : s.alloc.waits = [e]) (hx : s.winner e.req = some x) :
    s.walk = ((s.reserve x.id e.table).setWaits []).push [.hit e.table x.id] := by
  rw [State.walk, hwaits, walkList, hx]
  rfl

/-- The state in which a stock-change event has been taken. -/
def State.eventTaken (s : State) : State := { s with stock := { s.stock with events := s.stock.events - 1 } }

theorem exec_waitListWalk_of_event {s : State} (hrun : s.hall.inReset = false) (h : 0 < s.stock.events) :
    exec .waitListWalk s = .next s.eventTaken.walk.settle := by
  rw [exec_waitListWalk, execWaitListWalk, handled_of_running _ _ hrun, if_pos h]
  rfl

theorem exec_waitListWalk_of_none {s : State} (hrun : s.hall.inReset = false) (hset : s.settled) (h : s.stock.events = 0) :
    exec .waitListWalk s = .next s := by
  rw [exec_waitListWalk, execWaitListWalk, handled_of_running _ _ hrun, if_neg (by omega), settle_of_settled hset]

theorem quiet_eventTaken (s : State) : Quiet s s.eventTaken where
  work := rfl
  changed := rfl
  now := rfl
  hall := rfl
  map := rfl
  guards := rfl
  tabs _ := ⟨rfl, rfl⟩
  cranes _ := rfl

/-! ## The plate move of a hit (R73, R74) -/

/-- The move of a plate from its slot to the bed of a table. -/
def plateMove (t : TableId) (id : Nat) (r bed : SlotRef) : MoveRec :=
  (platePost t id bed).draft (.slot r) (some r.zone) (.slot bed) false

section Plate

variable {s : State} {t : TableId} {id : Nat} {x : StockRec} {r bed : SlotRef} {d : Nat}

theorem deliveryTest_of_empty_bed (hbed : s.bedRef t = some bed) (hempty : s.slotRecs bed = [])
    (hlock : s.lock bed = { pick := none, deliveries := 0 }) : s.deliveryTest bed = none := by
  simp [State.deliveryTest, hlock, (bedRef_spec hbed).1, hempty]

theorem postTest_of_plate (hrec : s.stockRec id = some x) (hstate : x.state = .reserved) (htable : x.table = some t)
    (hloc : x.loc = .slot r d) (hpick : s.pickTest x = none) (hbed : s.bedRef t = some bed) (hother : r ≠ bed)
    (hempty : s.slotRecs bed = []) (hlock : s.lock bed = { pick := none, deliveries := 0 }) :
    s.postTest (platePost t id bed) = .ok (plateMove t id r bed) := by
  have hslot : s.stockSlotRef (platePost t id bed).dstZone (platePost t id bed).dstSlot = some bed := stockSlotRef_of_bed hbed
  have hin : x.inSlot bed = false := by simp [StockRec.inSlot, hloc, hother]
  have hallows : s.stateAllows (.table t) x = true := by simp [State.stateAllows, hstate, htable]
  have hdelivery := deliveryTest_of_empty_bed hbed hempty hlock
  show s.stockPost (platePost t id bed) id = _
  rw [State.stockPost, hrec]
  simp only [hstate, hslot, hin, hloc, hpick, hdelivery, show (platePost t id bed).origin = .table t from rfl, hallows]
  rfl

/-- A candidate passes the pick test, from a slot of a STOCK or RACK zone. -/
theorem pickTest_of_candidate {q : Requirement} (h : s.candidate q x = true) : x.state = .available ∧
    ∃ r d, x.loc = .slot r d ∧ (s.kindOf r.zone = .stock ∨ s.kindOf r.zone = .rack) ∧ d + 1 = (s.slotRecs r).length
      ∧ (s.lock r).pick = none ∧ (s.lock r).deliveries = 0 := by
  unfold State.candidate State.fits at h
  cases hloc : x.loc with
  | hook c => simp [hloc] at h
  | slot r d =>
    simp only [hloc, Bool.and_eq_true, Bool.or_eq_true, decide_eq_true_eq, Option.isNone_iff_eq_none, State.accessible] at h
    obtain ⟨⟨⟨⟨⟨⟨⟨⟨⟨hst, -⟩, -⟩, -⟩, -⟩, hkind⟩, hacc⟩, hdel⟩, hpick⟩, -⟩ := h
    exact ⟨hst, r, d, rfl, hkind, hacc, hpick, hdel⟩

theorem pickTest_of_slot (hloc : x.loc = .slot r d) (htop : d + 1 = (s.slotRecs r).length) (hpick : (s.lock r).pick = none)
    (hdel : (s.lock r).deliveries = 0) : s.pickTest x = none := by
  simp [State.pickTest, State.accessible, hloc, htop, hpick, hdel]

theorem runHit_of_accepted {m : MoveRec} (hbed : s.bedRef t = some bed)
    (hpost : (s.setClaim t (.reserved id)).post (platePost t id bed)
      = ((s.setClaim t (.reserved id)).acceptMove m, .accepted s.moveId)) :
    runHit t id s = ((((s.setClaim t (.reserved id)).acceptMove m).setClaim t (.move s.moveId (some id) .open)).leaveSpace
      t).enter t .plateWait := by
  have hclaim : ((s.setClaim t (.reserved id)).tab t).claim = .reserved id := by
    rw [State.setClaim, State.tab_modTab_same]
  have hbed' : (s.setClaim t (.reserved id)).bedRef t = some bed := hbed
  rw [runHit, runPostPlate, hclaim, hbed']
  dsimp only
  rw [hpost]

end Plate

/-! ## What a hit leaves -/

theorem enter_frame (s : State) (t : TableId) (st : TableState) : ∃ h, s.enter t st =
    (s.modTab t (fun r => { r with state := st, cause := none })).setHost h := by
  rw [State.enter]
  split
  · exact ⟨s.host, rfl⟩
  · exact ⟨_, rfl⟩

/-- The state with a new move at the tail of the queue, and a dispatch attempt due (R167). -/
def State.enqueue (s : State) (m : MoveRec) : State :=
  { s with moves := { s.moves with
      queue := s.moves.queue ++ [{ m with id := s.moveId, age := s.moves.nextAge }],
      cursor := nextValue 1 Config.lastMoveId s.moveId, nextAge := s.moves.nextAge + 1,
      attempts := s.moves.attempts + 1 } }

theorem acceptMove_plate (s : State) (t : TableId) (id : Nat) (r bed : SlotRef) :
    s.acceptMove (plateMove t id r bed) =
      (((s.modRec id (StockRec.underMove s.moveId)).setPick r (some s.moveId)).beginDelivery bed).enqueue
        (plateMove t id r bed) := by
  rw [State.acceptMove, lockStock_of_slots rfl rfl rfl]
  rfl

section AcceptPlate

variable (s : State) (t : TableId) (id : Nat) {r bed : SlotRef}

theorem lock_acceptMove_plate (hother : r ≠ bed) : (s.acceptMove (plateMove t id r bed)).lock bed =
    { s.lock bed with deliveries := (s.lock bed).deliveries + 1 } := by
  rw [acceptMove_plate]
  refine (lock_beginDelivery _ bed bed).trans ?_
  rw [if_pos rfl, lock_setPick, if_neg hother.symm]
  rfl

theorem tab_acceptMove_plate (k : TableId) : (s.acceptMove (plateMove t id r bed)).tab k = s.tab k := by
  rw [acceptMove_plate]
  rfl

theorem stockRec_acceptMove_plate {x : StockRec} (h : s.stockRec id = some x) :
    (s.acceptMove (plateMove t id r bed)).stockRec id = some (x.underMove s.moveId) := by
  rw [acceptMove_plate]
  exact stockRec_modRec_same h (fun _ => rfl)

end AcceptPlate

@[simp] theorem State.setHost_tab (s : State) (h : HostLine) : (s.setHost h).tab = s.tab := rfl

/-- What the plate move of a hit leaves behind: the record MOVING under it, and the table in PLATE_WAIT. -/
structure PlatePosted (v w : State) (t : TableId) (id : Nat) (x : StockRec) (bed : SlotRef) : Prop where
  work : w.work = v.work
  changed : w.stock.changed = v.stock.changed
  events : w.stock.events = v.stock.events
  alloc : w.alloc = v.alloc
  record : w.stockRec id = some (x.underMove v.moveId)
  queued : ∃ m ∈ w.moves.queue, m.id = v.moveId ∧ m.origin = .table t ∧ m.load = .stock id ∧ m.dst = .slot bed
    ∧ m.state = .queued
  attempts : w.moves.attempts = v.moves.attempts + 1
  table : (w.tab t).state = .plateWait ∧ (w.tab t).claim = .move v.moveId (some id) .open
  others : ∀ k, k ≠ t → w.tab k = v.tab k
  delivery : (w.lock bed).deliveries = 1

theorem platePosted_of_hit {v : State} {t : TableId} {id : Nat} {x : StockRec} {r bed : SlotRef} {d : Nat}
    (hrec : v.stockRec id = some x) (hstate : x.state = .reserved) (htable : x.table = some t) (hloc : x.loc = .slot r d)
    (hpick : v.pickTest x = none) (hbed : v.bedRef t = some bed) (hother : r ≠ bed) (hempty : v.slotRecs bed = [])
    (hlock : v.lock bed = { pick := none, deliveries := 0 }) (hroom : v.moves.queue.length < 16) :
    PlatePosted v (runHit t id v) t id x bed := by
  have hpost : (v.setClaim t (.reserved id)).post (platePost t id bed)
      = ((v.setClaim t (.reserved id)).acceptMove (plateMove t id r bed), .accepted v.moveId) :=
    post_of_test (s := v.setClaim t (.reserved id))
      (postTest_of_plate (s := v.setClaim t (.reserved id)) hrec hstate htable hloc hpick hbed hother hempty hlock) hroom
  obtain ⟨h, henter⟩ := enter_frame ((((v.setClaim t (.reserved id)).acceptMove (plateMove t id r bed)).setClaim t
    (.move v.moveId (some id) .open)).leaveSpace t) t .plateWait
  rw [runHit_of_accepted hbed hpost, henter]
  refine { work := rfl, changed := rfl, events := rfl, alloc := rfl, record := ?_, queued := ?_, attempts := rfl,
           table := ?_, others := fun k hk => ?_, delivery := ?_ }
  · exact stockRec_acceptMove_plate (v.setClaim t (.reserved id)) t id hrec
  · exact ⟨{ plateMove t id r bed with id := v.moveId, age := v.moves.nextAge }, List.mem_append_right _ (List.mem_singleton_self _),
      rfl, rfl, rfl, rfl, rfl⟩
  · have htab (u : State) (c : Claim) : ((u.setClaim t c).leaveSpace t).tab t = { u.tab t with claim := c } :=
      State.tab_modTab_same u t (fun r => { r with claim := c })
    rw [State.setHost_tab, State.tab_modTab_same, htab]
    exact ⟨rfl, rfl⟩
  · have hclaim (u : State) (c : Claim) : ((u.setClaim t c).leaveSpace t).tab k = u.tab k :=
      State.tab_modTab_of_ne u (fun r => { r with claim := c }) hk
    rw [State.setHost_tab, State.tab_modTab_of_ne _ _ hk, hclaim, tab_acceptMove_plate]
    exact State.tab_modTab_of_ne v _ hk
  · show SlotLock.deliveries (((v.setClaim t (.reserved id)).acceptMove (plateMove t id r bed)).lock bed) = 1
    rw [lock_acceptMove_plate _ t id hother, show (v.setClaim t (.reserved id)).lock bed = _ from hlock]

/-- The state whose only waiting table has its winner reserved. -/
def State.reserved (s : State) (e : WaitEntry) (x : StockRec) : State := (s.eventTaken.reserve x.id e.table).setWaits []

/-- Settles O34. -/
theorem waitListWalkServesTheTables : Obligations.WaitListWalkServesTheTables := by
  intro s hrun hset
  refine ⟨exec_waitListWalk_of_none hrun hset, fun hevents hmiss => ?_,
    fun e x bed hevents hwaits hwinner hids hbed hempty hlock hroom hwait => ?_⟩
  · rw [exec_waitListWalk_of_event hrun hevents, walk_of_misses (s := s.eventTaken) hmiss,
      (quiet_eventTaken s).settle hset]
    rfl
  · obtain ⟨hrec, hcand, -⟩ := (winnerIsTheBestCandidate e.req s).2 x hwinner
    obtain ⟨havailable, r, d, hloc, hkind, htop, hpick, hdel⟩ := pickTest_of_candidate hcand
    have hother : r ≠ bed := by
      rintro rfl
      rw [(bedRef_spec hbed).1] at hkind
      exact hkind.elim nofun nofun
    have hreserved : (s.reserved e x).stockRec x.id = some { x with state := .reserved, table := some e.table } :=
      stockRec_modRec_same (stockRec_of_mem hids hrec) (fun _ => rfl)
    have hslots : ∀ q, ((s.reserved e x).slotRecs q).length = (s.slotRecs q).length := fun q =>
      length_slotRecs_modRec s x.id (f := fun y => { y with state := .reserved, table := some e.table }) (fun _ => rfl) q
    have hposted := platePosted_of_hit (v := s.reserved e x) (t := e.table) (bed := bed) (r := r) (d := d) hreserved rfl rfl
      hloc (pickTest_of_slot (s := s.reserved e x) hloc (by rw [hslots]; exact htop) hpick hdel) hbed hother
      (List.eq_nil_of_length_eq_zero (by rw [hslots, hempty]; rfl)) hlock hroom
    have hsettle : s.eventTaken.walk.settle = (runHit e.table x.id (s.reserved e x)).followBeacons := by
      rw [walk_of_hit (s := s.eventTaken) hwaits hwinner]
      exact settle_of_comesTo_clean (comesTo_push (s := s.reserved e x) (.hit e.table x.id) [] rfl) (by decide)
        (hposted.work.trans hset.1) (hposted.changed.trans hset.2.1)
    refine ⟨_, exec_waitListWalk_of_event hrun hevents, ?_⟩
    rw [hsettle]
    refine ⟨hposted.events, hposted.alloc, ?_, hposted.queued, hposted.attempts, hposted.table.1, hposted.table.2,
      hposted.others, hposted.delivery⟩
    exact hposted.record

end Sys2Proof.Machine

/-! Derivations and the hall account (R37 to R46): the arithmetic of a derivation, and the REMNANT and END steps that consume
a plate (R60, R83, R84). -/

namespace Sys2Proof.Machine

/-! ## The arithmetic of a derivation (R39 to R41) -/

section Derive

variable (c : TableCfg) (x : StockRec) (u : Nat)

theorem derive_reason_eq_none_iff (hgen : x.gen ≤ 7) : (derive c x u).reason = .none ↔
    c.minLen ≤ (derive c x u).rem ∧ c.minArea * 10000 ≤ (derive c x u).rem * x.wid ∧ x.gen < 7 := by
  show dropReason c (derive c x u).rem x.wid x.gen = .none ↔ _
  unfold dropReason
  (repeat' split) <;> simp <;> omega

theorem derive_reason_eq_short_iff : (derive c x u).reason = .short ↔ (derive c x u).rem < c.minLen := by
  show dropReason c (derive c x u).rem x.wid x.gen = .short ↔ _
  unfold dropReason
  (repeat' split) <;> simp <;> omega

theorem derive_reason_eq_small_iff : (derive c x u).reason = .small ↔
    c.minLen ≤ (derive c x u).rem ∧ (derive c x u).rem * x.wid < c.minArea * 10000 := by
  show dropReason c (derive c x u).rem x.wid x.gen = .small ↔ _
  unfold dropReason
  (repeat' split) <;> simp <;> omega

/-- What is used and what remains fit into the plate. -/
theorem derive_used_add_rem : (derive c x u).used + (derive c x u).rem ≤ x.len := by
  simp only [derive, usedLength, remnantLength]
  omega

/-- The plate's volume is the sum of nest, remnant and scrap (R41). -/
theorem derive_volumes : (derive c x u).vp = (derive c x u).vn + (derive c x u).vr + (derive c x u).vs := by
  have hvolume : (derive c x u).vn + (derive c x u).rem * x.wid * x.thick ≤ (derive c x u).vp := by
    show (derive c x u).used * x.wid * x.thick + (derive c x u).rem * x.wid * x.thick ≤ x.len * x.wid * x.thick
    rw [← Nat.add_mul, ← Nat.add_mul]
    exact Nat.mul_le_mul_right _ (Nat.mul_le_mul_right _ (derive_used_add_rem c x u))
  have hremnant : (derive c x u).vr ≤ (derive c x u).rem * x.wid * x.thick := by
    show (if (derive c x u).reason = .none then (derive c x u).rem * x.wid * x.thick else 0) ≤ _
    split <;> omega
  have hscrap : (derive c x u).vs = (derive c x u).vp - (derive c x u).vn - (derive c x u).vr := rfl
  omega

end Derive

/-! ## The account (R46) -/

section Account

variable {a : Account} {d : Derived}

theorem Account.add_of_frozen (h : a.frozen = true) : a.add d = a := if_pos h

theorem Account.fits_iff : a.fits d = true ↔ a.plate + d.vp < 2 ^ 64 ∧ a.nest + d.vn < 2 ^ 64 ∧ a.remnant + d.vr < 2 ^ 64
    ∧ a.scrap + d.vs < 2 ^ 64 ∧ a.count + 1 < 2 ^ 32 := by
  simp only [Account.fits, Config.lastVolume, Config.lastCount, Bool.and_eq_true, decide_eq_true_eq]
  omega

theorem Account.add_of_fits (h : a.frozen = false) (hfits : a.fits d = true) : a.add d =
    { plate := a.plate + d.vp, nest := a.nest + d.vn, remnant := a.remnant + d.vr, scrap := a.scrap + d.vs,
      count := a.count + 1, frozen := false } := by
  rw [Account.add, if_neg (Bool.eq_false_iff.1 h), if_pos hfits, h]

theorem Account.add_of_not_fits (h : a.frozen = false) (hfits : a.fits d = false) : a.add d = { a with frozen := true } := by
  rw [Account.add, if_neg (Bool.eq_false_iff.1 h), if_neg (Bool.eq_false_iff.1 hfits)]

/-- The account's plate volume stays the sum of the others. -/
theorem Account.add_balanced (hd : d.vp = d.vn + d.vr + d.vs) (h : a.plate = a.nest + a.remnant + a.scrap) :
    (a.add d).plate = (a.add d).nest + (a.add d).remnant + (a.add d).scrap := by
  cases hfrozen : a.frozen with
  | true => rwa [Account.add_of_frozen hfrozen]
  | false =>
    cases hfits : a.fits d with
    | true =>
      rw [Account.add_of_fits hfrozen hfits]
      dsimp only
      omega
    | false => rwa [Account.add_of_not_fits hfrozen hfits]

end Account

/-! ## A derivation of the LOADED plate (R37) -/

/-- The host line after the report of a derivation. -/
def toldOf (alloc : Allocator) (host : HostLine) (c : TableCfg) (t : TableId) (x : StockRec) (u : Nat)
    (new : Option Nat) : HostLine :=
  let d := derive c x u
  host.report (.nestConsumed
    { table := t, oldId := x.id, newId := new, used := d.used, rem := d.rem, vp := d.vp, vn := d.vn, vr := d.vr,
      vs := d.vs, mp := massOf d.vp, mn := massOf d.vn, mr := massOf d.vr, ms := massOf d.vs, clamped := d.clamped,
      reason := d.reason, added := !(alloc.account.add d).frozen })

/-- The allocator after a derivation. -/
def Allocator.took (alloc : Allocator) (d : Derived) : Allocator := { alloc with account := alloc.account.add d }

/-- The account has taken a derivation, and its report is raised. -/
def State.booked (s : State) (c : TableCfg) (t : TableId) (x : StockRec) (u : Nat) (new : Option Nat) : State :=
  { s with alloc := s.alloc.took (derive c x u), host := toldOf s.alloc s.host c t x u new }

section DeriveRemnant

variable {s : State} {t : TableId} {x : StockRec} {c : TableCfg}

theorem deriveRemnant_of_none (u : Nat) (h : s.loadedOnBed t = none) : s.deriveRemnant t u = none := by
  rw [State.deriveRemnant, h]

theorem deriveRemnant_of_kept {u : Nat} (h : s.loadedOnBed t = some x) (hcfg : (s.tab t).cfg = c)
    (hkept : (derive c x u).reason = .none) :
    s.deriveRemnant t u = some ((s.rewriteRemnant x (derive c x u)).booked c t x u (some s.partId)) := by
  have hdecide : decide ((derive c x u).reason = .none) = true := decide_eq_true hkept
  rw [State.deriveRemnant, h]
  simp only [hcfg, hdecide, if_true]
  rfl

/-- A bed that has lost its plate owes a stock-change event, and its table a bed-empty event. -/
theorem slotLeft_of_bed {bed : SlotRef} (hbed : s.bedRef t = some bed) :
    s.slotLeft bed = s.stockChanged.push [.bedEmpty t] := by
  obtain ⟨hkind, hslot⟩ := bedRef_spec hbed
  simp [State.slotLeft, State.bedTable, hkind, hslot]

theorem deriveRemnant_of_dropped {u : Nat} {bed : SlotRef} (h : s.loadedOnBed t = some x) (hcfg : (s.tab t).cfg = c)
    (hbed : s.bedRef t = some bed) (hdropped : (derive c x u).reason ≠ .none) :
    s.deriveRemnant t u = some (((s.dropRec x.id).booked c t x u none).stockChanged.push [.bedEmpty t]) := by
  have hdecide : decide ((derive c x u).reason = .none) = false := decide_eq_false hdropped
  rw [State.deriveRemnant, h]
  simp only [hcfg, hdecide, Bool.false_eq_true, if_false, hbed]
  exact congrArg some (slotLeft_of_bed (s := (s.dropRec x.id).booked c t x u none) hbed)

end DeriveRemnant

/-! ## A handling of one table and one flag

What FLAG_SET sets off at a table that it releases changes that table, the flag, the stock, the account and the host line. -/

/-- A state in the course of such a handling. -/
def State.midway (s : State) (f : FlagId) (t : TableId) (q : FlagRec) (r : TableRec) (stock : StockTable) (alloc : Allocator)
    (host : HostLine) : State :=
  { (s.setFlagRec f q).modTab t (fun _ => r) with stock := stock, alloc := alloc, host := host }

section Midway

variable (s : State) (f : FlagId) (t : TableId) (q : FlagRec) (r : TableRec) (stock : StockTable) (alloc : Allocator)
  (host : HostLine)

@[simp] theorem midway_tab : (s.midway f t q r stock alloc host).tab t = r := State.tab_modTab_same s t (fun _ => r)

theorem midway_tab_of_ne {k : TableId} (h : k ≠ t) : (s.midway f t q r stock alloc host).tab k = s.tab k :=
  State.tab_modTab_of_ne s (fun _ => r) h

@[simp] theorem midway_flag : (s.midway f t q r stock alloc host).flag f = q := State.flag_setFlagRec_same s f q

theorem midway_flag_of_ne {g : FlagId} (h : g ≠ f) : (s.midway f t q r stock alloc host).flag g = s.flag g := by
  refine (State.flag_setFlagRec s f g q).trans (if_neg h)

theorem midway_modTab (g : TableRec → TableRec) :
    (s.midway f t q r stock alloc host).modTab t g = s.midway f t q (g r) stock alloc host := by
  have h : ((s.setFlagRec f q).modTab t (fun _ => r)).modTab t g = (s.setFlagRec f q).modTab t (fun _ => g r) :=
    State.modTab_modTab _ t _ g
  show ({ ((s.setFlagRec f q).modTab t (fun _ => r)).modTab t g with stock := stock, alloc := alloc, host := host } : State) = _
  rw [h]
  rfl

theorem midway_setFlagRec (p : FlagRec) :
    (s.midway f t q r stock alloc host).setFlagRec f p = s.midway f t p r stock alloc host := by
  have h : (s.setFlagRec f q).setFlagRec f p = s.setFlagRec f p := State.setFlagRec_setFlagRec s f q p
  show ({ ((s.setFlagRec f q).setFlagRec f p).modTab t (fun _ => r) with stock := stock, alloc := alloc, host := host } : State)
    = _
  rw [h]
  rfl

theorem State.modTab_self : s.modTab t (fun _ => s.tab t) = s := by simp [State.modTab, State.tab, Vector.get]

/-- A handling that has changed the flag and the host line alone. -/
theorem midway_of_flag : s.midway f t q (s.tab t) s.stock s.alloc host = (s.setFlagRec f q).setHost host := by
  have h : (s.setFlagRec f q).modTab t (fun _ => s.tab t) = s.setFlagRec f q := State.modTab_self (s.setFlagRec f q) t
  rw [State.midway, h]
  rfl

end Midway

/-! ### Steps of a table in the course of a handling -/

theorem modActive_of_active {s : State} {t : TableId} {a : Active} (h : (s.tab t).active = some a) (g : Active → Active) :
    s.modActive t g = s.modTab t (fun r => { r with active := some (g a) }) :=
  State.modTab_congr (f := fun r => { r with active := r.active.map g }) (g := fun r => { r with active := some (g a) })
    (by rw [h]; rfl)

/-- A step ends, and the next one starts. -/
theorem comesTo_of_stepEnd {s : State} {t : TableId} {a : Active} (h : (s.tab t).active = some a) (ts : List Task) :
    (s.push (.stepEnd t :: ts)).comesTo 1
      ((s.modTab t (fun r => { r with active := some { a with index := a.index + 1 } })).push (.stepStart t :: ts)) := by
  refine comesTo_push (s := s) _ ts ?_
  show runStepEnd t (s.push ts) = _
  rw [runStepEnd, modActive_of_active (s := s.push ts) h]
  rfl

/-- A bed-empty event finds its table in another state than BED_WAIT. -/
theorem comesTo_of_bedEmpty {s : State} {t : TableId} (h : (s.tab t).state ≠ .bedWait) (ts : List Task) :
    (s.push (.bedEmpty t :: ts)).comesTo 1 (s.push ts) :=
  comesTo_push (s := s) _ ts (show runBedEmpty t (s.push ts) = s.push ts from if_neg h)

section MidwaySteps

variable {s : State} {f : FlagId} {t : TableId} {q : FlagRec} {r : TableRec} {stock : StockTable} {alloc : Allocator}
  {host : HostLine} {a : Active}

/-- The table of the handling ends its step. -/
theorem midway_stepEnd (h : r.active = some a) (ts : List Task) :
    ((s.midway f t q r stock alloc host).push (.stepEnd t :: ts)).comesTo 1
      ((s.midway f t q { r with active := some { a with index := a.index + 1 } } stock alloc host).push
        (.stepStart t :: ts)) := by
  have hcomes := comesTo_of_stepEnd (s := s.midway f t q r stock alloc host) (a := a) (by rw [midway_tab, h]) ts
  rwa [midway_modTab] at hcomes

/-- The table of the handling starts a WAIT_FLAG step on the flag, in FLAG_WAIT already. -/
theorem midway_stepStart_wait (h : r.active = some a) (hstep : a.steps[a.index]? = some (.waitFlag f.val))
    (hclear : q.value = false) (hstate : r.state = .flagWait) (hcause : r.cause = none) (ts : List Task) :
    ((s.midway f t q r stock alloc host).push (.stepStart t :: ts)).comesTo 1
      ((s.midway f t { q with waiters := q.waiters ++ [t] } r stock alloc host).push ts) := by
  refine comesTo_push (s := s.midway f t q r stock alloc host) _ ts ?_
  have htab : ((s.midway f t q r stock alloc host).push ts).tab t = r := midway_tab s f t _ r stock alloc host
  have hflag : ((s.midway f t q r stock alloc host).push ts).flag f = q := midway_flag s f t q r stock alloc host
  show runStepStart t _ = _
  rw [runStepStart_of_wait (by rw [htab, TableRec.step_of_active h, hstep]) (by rw [hflag, hclear]), hflag]
  have hpush (p : FlagRec) : ((s.midway f t q r stock alloc host).push ts).setFlagRec f p
      = (s.midway f t p r stock alloc host).push ts := congrArg (fun u => State.push u ts) (midway_setFlagRec s f t q r stock alloc host p)
  rw [hpush]
  have htab' (p : FlagRec) : ((s.midway f t p r stock alloc host).push ts).tab t = r := midway_tab s f t _ r stock alloc host
  rw [enter_of_same (by rw [htab', hstate])]
  have hmod (p : FlagRec) (g : TableRec → TableRec) : ((s.midway f t p r stock alloc host).push ts).modTab t g
      = (s.midway f t p (g r) stock alloc host).push ts := congrArg (fun u => State.push u ts) (midway_modTab s f t p r stock alloc host g)
  rw [hmod]
  simp only [← hstate, ← hcause]

end MidwaySteps

/-- FLAG_SET with a waiter: the reply is given, and the waiter's step ends. -/
theorem exec_flagSet_of_waiter {s : State} {f : FlagId} {t : TableId} {rest : List TableId} (htakes : s.takes (.flagSet f.val))
    (hvalue : (s.flag f).value = false) (hwaiters : (s.flag f).waiters = t :: rest) :
    exec (.flagSet f.val) s = .next ((s.midway f t { s.flag f with waiters := rest } (s.tab t) s.stock s.alloc
      { s.host with hand := .ready (.accept (.setMade (.released t))) }).push [.stepEnd t]).settle := by
  rw [exec_flagSet, execFlagSet, request_of_takes _ _ _ htakes, numbered_val]
  dsimp only
  rw [runSetFlag_of_waiter (s := s.accept _) .host hvalue hwaiters, FlagRec.outcome_of_waiter hvalue hwaiters]
  rw [midway_of_flag]
  rfl

/-- A halt changes its table, and writes the first-fault record and the report queue at most. -/
theorem runHalt_frame (s : State) (t : TableId) (cause : HaltCause) : ∃ fault host, runHalt t cause s =
    { s.modTab t (fun r => { r with state := .halted, cause := some cause })
      with hall := { s.hall with fault := fault }, host := host } := by
  unfold runHalt
  dsimp only
  split
  · exact ⟨s.hall.fault, _, rfl⟩
  · obtain ⟨fault, host, h⟩ := capture_frame ((s.modTab t (fun r => { r with state := .halted, cause := some cause })).raise
      ((s.modTab t (fun r => { r with state := .halted, cause := some cause })).tableReport t)) _ (.table t) _ _
    exact ⟨fault, host, h⟩

/-! ### The REMNANT step (R83) -/

theorem loadedOnBed_of_active {s : State} {t : TableId} {a : Active} {x : StockRec} (hactive : (s.tab t).active = some a)
    (hloaded : a.loaded = some x.id) (hbed : s.bedRec t = some x) (hstate : x.state = .onBed) :
    s.loadedOnBed t = some x := by
  have hid : (s.tab t).active.bind Active.loaded = some x.id := by rw [hactive]; exact hloaded
  rw [State.loadedOnBed, hid, hbed]
  exact if_pos ⟨rfl, hstate⟩

theorem runStepStart_of_remnant {s : State} {t : TableId} {used : Nat} (h : (s.tab t).step = some (.remnant used)) :
    runStepStart t s = s.startRemnant t used := by
  rw [runStepStart, h]

section RemnantStep

variable {s : State} {f : FlagId} {t : TableId} {q : FlagRec} {r : TableRec} {stock : StockTable} {alloc : Allocator}
  {host : HostLine} {a : Active} {x : StockRec} {u : Nat}

theorem midway_remnant_kept (hactive : r.active = some a) (hstep : a.steps[a.index]? = some (.remnant u))
    (hloaded : (s.midway f t q r stock alloc host).loadedOnBed t = some x) (hkept : (derive r.cfg x u).reason = .none)
    (ts : List Task) :
    ((s.midway f t q r stock alloc host).push (.stepStart t :: ts)).comesTo 1
      ((s.midway f t q { r with active := some { a with loaded := none, remnantRan := true } }
        ((s.midway f t q r stock alloc host).rewriteRemnant x (derive r.cfg x u)).stock (alloc.took (derive r.cfg x u))
        (toldOf alloc host r.cfg t x u (some (s.midway f t q r stock alloc host).partId))).push (.stepEnd t :: ts)) := by
  refine comesTo_push (s := s.midway f t q r stock alloc host) _ ts ?_
  have htab (ts : List Task) : ((s.midway f t q r stock alloc host).push ts).tab t = r := midway_tab s f t q r stock alloc host
  have hderive := deriveRemnant_of_kept (s := (s.midway f t q r stock alloc host).push (.stepEnd t :: ts)) (t := t) (u := u)
    hloaded (congrArg TableRec.cfg (htab _)) hkept
  show runStepStart t _ = _
  rw [runStepStart_of_remnant (by rw [htab, TableRec.step_of_active hactive, hstep]), State.startRemnant,
    show ((s.midway f t q r stock alloc host).push ts).push [.stepEnd t]
      = (s.midway f t q r stock alloc host).push (.stepEnd t :: ts) from rfl, hderive]
  dsimp only
  refine (modActive_of_active (a := a) ?_ _).trans ?_
  · exact (congrArg TableRec.active (htab (.stepEnd t :: ts))).trans hactive
  · exact congrArg (fun u => State.push u (.stepEnd t :: ts)) (midway_modTab s f t q r
      ((s.midway f t q r stock alloc host).rewriteRemnant x (derive r.cfg x u)).stock (alloc.took (derive r.cfg x u))
      (toldOf alloc host r.cfg t x u (some (s.midway f t q r stock alloc host).partId))
      (fun r => { r with active := some { a with loaded := none, remnantRan := true } }))

/-- The stock after a plate is gone from a bed. -/
def StockTable.without (stock : StockTable) (id : Nat) : StockTable :=
  { stock with recs := stock.recs.filter (fun y => y.id ≠ id), changed := true }

theorem midway_remnant_dropped (hactive : r.active = some a) (hstep : a.steps[a.index]? = some (.remnant u))
    (hloaded : (s.midway f t q r stock alloc host).loadedOnBed t = some x) {bed : SlotRef}
    (hbed : (s.midway f t q r stock alloc host).bedRef t = some bed) (hdropped : (derive r.cfg x u).reason ≠ .none)
    (ts : List Task) :
    ((s.midway f t q r stock alloc host).push (.stepStart t :: ts)).comesTo 1
      ((s.midway f t q { r with active := some { a with loaded := none, remnantRan := true } } (stock.without x.id)
        (alloc.took (derive r.cfg x u)) (toldOf alloc host r.cfg t x u none)).push (.bedEmpty t :: .stepEnd t :: ts)) := by
  refine comesTo_push (s := s.midway f t q r stock alloc host) _ ts ?_
  have htab (ts : List Task) : ((s.midway f t q r stock alloc host).push ts).tab t = r := midway_tab s f t q r stock alloc host
  have hderive := deriveRemnant_of_dropped (s := (s.midway f t q r stock alloc host).push (.stepEnd t :: ts)) (t := t) (u := u)
    hloaded (congrArg TableRec.cfg (htab _)) hbed hdropped
  show runStepStart t _ = _
  rw [runStepStart_of_remnant (by rw [htab, TableRec.step_of_active hactive, hstep]), State.startRemnant,
    show ((s.midway f t q r stock alloc host).push ts).push [.stepEnd t]
      = (s.midway f t q r stock alloc host).push (.stepEnd t :: ts) from rfl, hderive]
  dsimp only
  refine (modActive_of_active (a := a) ?_ _).trans ?_
  · exact (congrArg TableRec.active (htab (.stepEnd t :: ts))).trans hactive
  · exact congrArg (fun u => State.push u (.bedEmpty t :: .stepEnd t :: ts)) (midway_modTab s f t q r
      (stock.without x.id) (alloc.took (derive r.cfg x u)) (toldOf alloc host r.cfg t x u none)
      (fun r => { r with active := some { a with loaded := none, remnantRan := true } }))

theorem midway_remnant_none (hactive : r.active = some a) (hstep : a.steps[a.index]? = some (.remnant u))
    (hloaded : (s.midway f t q r stock alloc host).loadedOnBed t = none) (ts : List Task) :
    ((s.midway f t q r stock alloc host).push (.stepStart t :: ts)).comesTo 1
      ((s.midway f t q r stock alloc host).push (.halt t .noPlate :: ts)) := by
  refine comesTo_push (s := s.midway f t q r stock alloc host) _ ts ?_
  have htab (ts : List Task) : ((s.midway f t q r stock alloc host).push ts).tab t = r := midway_tab s f t q r stock alloc host
  show runStepStart t _ = _
  rw [runStepStart_of_remnant (by rw [htab, TableRec.step_of_active hactive, hstep]), State.startRemnant,
    deriveRemnant_of_none (s := ((s.midway f t q r stock alloc host).push ts).push [.stepEnd t]) _ hloaded]
  rfl

end RemnantStep

/-! ### The END step (R60, R84) -/

theorem runStepStart_of_finish {s : State} {t : TableId} (h : (s.tab t).step = some .finish) :
    runStepStart t s = s.startEnd t := by
  rw [runStepStart, h]

/-- A plate that is consumed whole leaves no remnant. -/
theorem derive_whole_dropped {c : TableCfg} (x : StockRec) (h : 0 < c.minLen) : (derive c x x.len).reason ≠ .none := by
  have hshort : (derive c x x.len).reason = .short := by
    rw [derive_reason_eq_short_iff]
    simp only [derive, usedLength, remnantLength]
    omega
  rw [hshort]
  exact nofun

theorem loadedLen_of_active {s : State} {t : TableId} {a : Active} {x : StockRec} (hactive : (s.tab t).active = some a)
    (hloaded : a.loaded = some x.id) (hrec : s.stockRec x.id = some x) : s.loadedLen t = x.len := by
  simp [State.loadedLen, hactive, hloaded, hrec]

theorem startEnd_of_loaded {s : State} {t : TableId} {a : Active} (hactive : (s.tab t).active = some a)
    (hloaded : a.loaded ≠ none) (hran : a.remnantRan = false) : s.startEnd t =
      (((s.push [.endDone t]).deriveRemnant t (s.loadedLen t)).getD (s.push [.endDone t])).modActive t
        (fun a => { a with loaded := none }) := by
  have hactive' : ((s.push [.endDone t]).tab t).active = some a := hactive
  rw [State.startEnd, hactive']
  exact if_pos ⟨Option.isSome_iff_ne_none.2 hloaded, by simp [hran]⟩

theorem startEnd_of_consumed {s : State} {t : TableId} {a : Active} (hactive : (s.tab t).active = some a)
    (h : a.loaded = none ∨ a.remnantRan = true) : s.startEnd t = s.push [.endDone t] := by
  have hactive' : ((s.push [.endDone t]).tab t).active = some a := hactive
  rw [State.startEnd, hactive']
  refine if_neg ?_
  rintro ⟨hloaded, hran⟩
  obtain h | h := h
  · simp [h] at hloaded
  · simp [h] at hran

theorem tableReport_of_tab {s : State} {t : TableId} {r : TableRec} (h : s.tab t = r) : s.tableReport t =
    .tableState t r.state (r.active.map Active.index) (if r.state = .halted then r.cause else none)
      (r.active.bind Active.loaded) := by
  rw [← h]
  rfl

section EndStep

variable {s : State} {f : FlagId} {t : TableId} {q : FlagRec} {r : TableRec} {stock : StockTable} {alloc : Allocator}
  {host : HostLine} {a : Active} {x : StockRec}

theorem midway_end_consumed (hactive : r.active = some a) (hstep : a.steps[a.index]? = some .finish)
    (hloaded : a.loaded = some x.id) (hran : a.remnantRan = false)
    (hbedded : (s.midway f t q r stock alloc host).loadedOnBed t = some x)
    (hrec : (s.midway f t q r stock alloc host).stockRec x.id = some x) {bed : SlotRef}
    (hbed : (s.midway f t q r stock alloc host).bedRef t = some bed) (hmin : 0 < r.cfg.minLen) (ts : List Task) :
    ((s.midway f t q r stock alloc host).push (.stepStart t :: ts)).comesTo 1
      ((s.midway f t q { r with active := some { a with loaded := none } } (stock.without x.id)
        (alloc.took (derive r.cfg x x.len)) (toldOf alloc host r.cfg t x x.len none)).push
          (.bedEmpty t :: .endDone t :: ts)) := by
  refine comesTo_push (s := s.midway f t q r stock alloc host) _ ts ?_
  have htab (ts : List Task) : ((s.midway f t q r stock alloc host).push ts).tab t = r := midway_tab s f t q r stock alloc host
  have hderive := deriveRemnant_of_dropped (s := (s.midway f t q r stock alloc host).push (.endDone t :: ts)) (t := t)
    (u := x.len) hbedded (congrArg TableRec.cfg (htab _)) hbed (derive_whole_dropped x hmin)
  have hlen : ((s.midway f t q r stock alloc host).push ts).loadedLen t = x.len :=
    loadedLen_of_active (s := (s.midway f t q r stock alloc host).push ts) (by rw [htab, hactive]) hloaded hrec
  show runStepStart t _ = _
  rw [runStepStart_of_finish (by rw [htab, TableRec.step_of_active hactive, hstep]),
    startEnd_of_loaded (a := a) (by rw [htab, hactive]) (by simp [hloaded]) hran, hlen,
    show ((s.midway f t q r stock alloc host).push ts).push [.endDone t]
      = (s.midway f t q r stock alloc host).push (.endDone t :: ts) from rfl, hderive]
  refine (modActive_of_active (a := a) ?_ _).trans ?_
  · exact (congrArg TableRec.active (htab (.endDone t :: ts))).trans hactive
  · exact congrArg (fun u => State.push u (.bedEmpty t :: .endDone t :: ts)) (midway_modTab s f t q r
      (stock.without x.id) (alloc.took (derive r.cfg x x.len)) (toldOf alloc host r.cfg t x x.len none)
      (fun r => { r with active := some { a with loaded := none } }))

theorem midway_end_none (hactive : r.active = some a) (hstep : a.steps[a.index]? = some .finish)
    (h : a.loaded = none ∨ a.remnantRan = true ∨ (s.midway f t q r stock alloc host).loadedOnBed t = none) (ts : List Task) :
    ∃ b, ((s.midway f t q r stock alloc host).push (.stepStart t :: ts)).comesTo 1
      ((s.midway f t q { r with active := some b } stock alloc host).push (.endDone t :: ts)) := by
  have htab (ts : List Task) : ((s.midway f t q r stock alloc host).push ts).tab t = r := midway_tab s f t q r stock alloc host
  have hstart : runTask (.stepStart t) ((s.midway f t q r stock alloc host).push ts)
      = ((s.midway f t q r stock alloc host).push ts).startEnd t :=
    runStepStart_of_finish (by rw [htab, TableRec.step_of_active hactive, hstep])
  by_cases hdone : a.loaded = none ∨ a.remnantRan = true
  · refine ⟨a, comesTo_push (s := s.midway f t q r stock alloc host) _ ts ?_⟩
    rw [hstart, startEnd_of_consumed (a := a) (by rw [htab, hactive]) hdone, ← hactive]
    rfl
  · obtain ⟨hloaded, hran⟩ := not_or.1 hdone
    have hnone := (h.resolve_left hloaded).resolve_left hran
    refine ⟨{ a with loaded := none }, comesTo_push (s := s.midway f t q r stock alloc host) _ ts ?_⟩
    rw [hstart, startEnd_of_loaded (a := a) (by rw [htab, hactive]) hloaded (Bool.eq_false_iff.2 hran),
      deriveRemnant_of_none (s := ((s.midway f t q r stock alloc host).push ts).push [.endDone t]) _ hnone]
    refine (modActive_of_active (a := a) ?_ _).trans ?_
    · exact (congrArg TableRec.active (htab (.endDone t :: ts))).trans hactive
    · exact congrArg (fun u => State.push u (.endDone t :: ts)) (midway_modTab s f t q r stock alloc host
        (fun r => { r with active := some { a with loaded := none } }))

theorem midway_endDone_idle (hswap : r.swap = false) (ts : List Task) :
    ((s.midway f t q r stock alloc host).push (.endDone t :: ts)).comesTo 1
      ((s.midway f t q { r.emptied with state := .idle, cause := none } stock alloc
        (host.report (.tableState t .idle none none none))).push ts) := by
  refine comesTo_push (s := s.midway f t q r stock alloc host) _ ts ?_
  have htab : ((s.midway f t q r stock alloc host).push ts).tab t = r := midway_tab s f t q r stock alloc host
  have hmod : ((s.midway f t q r stock alloc host).push ts).modTab t (fun r => { r.emptied with state := .idle, cause := none })
      = (s.midway f t q { r.emptied with state := .idle, cause := none } stock alloc host).push ts :=
    congrArg (fun u => State.push u ts) (midway_modTab s f t q r stock alloc host
      (fun r => { r.emptied with state := .idle, cause := none }))
  have htab' : ((s.midway f t q { r.emptied with state := .idle, cause := none } stock alloc host).push ts).tab t
      = { r.emptied with state := .idle, cause := none } := midway_tab s f t q _ stock alloc host
  show runEndDone t _ = _
  rw [runEndDone, htab, hswap, if_neg Bool.false_ne_true, hmod]
  exact congrArg (State.raise _) (tableReport_of_tab htab')

theorem midway_endDone_swap {steps : List NestStep} (hswap : r.swap = true) (hstaged : r.staged = .ready steps)
    (ts : List Task) :
    ((s.midway f t q r stock alloc host).push (.endDone t :: ts)).comesTo 1
      ((s.midway f t q { r with
          active := some { steps := steps, index := 0, loaded := none, remnantRan := false }, staged := .empty,
          swap := false } stock alloc host).push (.stepStart t :: ts)) := by
  refine comesTo_push (s := s.midway f t q r stock alloc host) _ ts ?_
  have htab : ((s.midway f t q r stock alloc host).push ts).tab t = r := midway_tab s f t q r stock alloc host
  show runEndDone t _ = _
  rw [runEndDone, htab, if_pos hswap, State.activate, htab, hstaged]
  exact congrArg (fun u => State.push u (.stepStart t :: ts)) (midway_modTab s f t q r stock alloc host (fun r => { r with
    active := some { steps := steps, index := 0, loaded := none, remnantRan := false }, staged := .empty, swap := false }))

end EndStep

/-! ## The end of the handling -/

theorem HostLine.report_hand (h : HostLine) (r : Report) (y : Hand) :
    ({ h with hand := y } : HostLine).report r = { h.report r with hand := y } := by
  unfold HostLine.report
  dsimp only
  split
  · rfl
  · split <;> rfl

section Final

variable {s : State} {f : FlagId} {t : TableId} {q : FlagRec} {r : TableRec} {stock : StockTable} {alloc : Allocator}
  {host : HostLine} {s0 : State} {k : Nat}

/-- The stock with its stock-change event counted where one is owed. -/
def StockTable.counted (stock : StockTable) : StockTable :=
  if stock.changed then { stock with events := stock.events + 1, changed := false } else stock

theorem StockTable.counted_of_clean (h : stock.changed = false) : stock.counted = stock := if_neg (by simp [h])

/-- The stock after a plate is gone from a bed and its stock-change event is counted. -/
def StockTable.consumed (stock : StockTable) (id : Nat) : StockTable :=
  { stock with recs := stock.recs.filter (fun y => y.id ≠ id), events := stock.events + 1 }

theorem StockTable.counted_without (h : stock.changed = false) (id : Nat) : (stock.without id).counted = stock.consumed id := by
  have hconsumed : stock.consumed id = { stock with
      recs := stock.recs.filter (fun y => y.id ≠ id), events := stock.events + 1, changed := false } := by
    rw [StockTable.consumed, ← h]
  exact hconsumed.symm

theorem settle_of_midway (h : s0.comesTo k (s.midway f t q r stock alloc host)) (hk : k ≤ Config.handlingBound)
    (hwork : s.work = []) : s0.settle = (s.midway f t q r stock.counted alloc host).followBeacons := by
  rw [settle_of_comesTo h hk hwork]
  cases hchanged : stock.changed with
  | false => rw [takeChanged_of_clean _ hchanged, StockTable.counted_of_clean hchanged]
  | true =>
    rw [takeChanged_of_changed _ hchanged, StockTable.counted, if_pos hchanged]
    rfl

/-- Everything but the table, the flag, the stock, the account, the first-fault record and the host line is as it was. -/
theorem midway_framed (fault : FaultRec) :
    let u := ({ s.midway f t q r stock alloc host with hall := { s.hall with fault := fault } } : State).followBeacons
    (∀ k, k ≠ t → u.tab k = s.tab k) ∧ (∀ g, g ≠ f → u.flag g = s.flag g) ∧ u.guards = s.guards ∧ u.moves = s.moves
      ∧ u.composer = s.composer ∧ u.line = s.line ∧ u.now = s.now
      ∧ u.hall = { s.hall with beacons := u.hall.beacons, fault := u.hall.fault } :=
  ⟨fun _ hk => midway_tab_of_ne s f t q r stock alloc host hk, fun _ hg => midway_flag_of_ne s f t q r stock alloc host hg,
    rfl, rfl, rfl, rfl, rfl, rfl⟩

end Final

/-! ## REMNANT and END after FLAG_SET -/

section Released

variable {s : State} {f : FlagId} {t : TableId} {rest : List TableId} {a : Active} {x : StockRec} {used : Nat}
  {steps : List NestStep}

/-- The table that FLAG_SET releases, at its next step. -/
def State.nextStep (s : State) (t : TableId) (a : Active) : TableRec :=
  { s.tab t with active := some { a with index := a.index + 1 } }

/-- The flag without the waiter that FLAG_SET releases. -/
def State.passed (s : State) (f : FlagId) (rest : List TableId) : FlagRec := { s.flag f with waiters := rest }

/-- The host line with the reply of FLAG_SET. -/
def State.told (s : State) (t : TableId) : HostLine :=
  { s.host with hand := .ready (.accept (.setMade (.released t))) }

/-- A handling of FLAG_SET at the point where the released table starts its next step. -/
def State.released (s : State) (f : FlagId) (t : TableId) (rest : List TableId) (a : Active) : State :=
  s.midway f t (s.passed f rest) (s.nextStep t a) s.stock s.alloc (s.told t)

theorem exec_flagSet_of_released (htakes : s.takes (.flagSet f.val)) (hvalue : (s.flag f).value = false)
    (hwaiters : (s.flag f).waiters = t :: rest) (hactive : (s.tab t).active = some a) {k : Nat} {u : State}
    (hcomes : ((s.released f t rest a).push [.stepStart t]).comesTo k u) :
    ∃ s0 : State, exec (.flagSet f.val) s = .next s0.settle ∧ s0.comesTo (k + 1) u :=
  ⟨_, exec_flagSet_of_waiter htakes hvalue hwaiters, (midway_stepEnd hactive []).trans hcomes⟩

/-- The LOADED plate still lies on the bed when the next step starts. -/
theorem released_loadedOnBed (hloaded : a.loaded = some x.id) (hbedded : s.bedRec t = some x) (hlying : x.state = .onBed) :
    (s.midway f t (s.passed f rest) (s.nextStep t a) s.stock s.alloc (s.told t)).loadedOnBed t = some x :=
  loadedOnBed_of_active (a := { a with index := a.index + 1 })
    (congrArg TableRec.active (midway_tab s f t _ (s.nextStep t a) s.stock s.alloc (s.told t))) hloaded hbedded hlying

variable (hactive : (s.tab t).active = some a) (hstate : (s.tab t).state = .flagWait) (hcause : (s.tab t).cause = none)
  (hvalue : (s.flag f).value = false)

/-- The table after a REMNANT step, at the step after it. -/
def State.afterRemnant (s : State) (t : TableId) (a : Active) : TableRec :=
  { s.tab t with active := some { a with index := a.index + 2, loaded := none, remnantRan := true } }

section Remnant

variable (hstep : a.steps[a.index + 1]? = some (.remnant used)) (hloaded : a.loaded = some x.id) (hbedded : s.bedRec t = some x)
  (hlying : x.state = .onBed) (hnext : a.steps[a.index + 2]? = some (.waitFlag f.val))
include hstate hcause hvalue hstep hloaded hbedded hlying hnext

theorem released_remnant_kept (hkept : (derive (s.tab t).cfg x used).reason = .none) :
    ((s.released f t rest a).push [.stepStart t]).comesTo 3 (s.midway f t (s.passed f (rest ++ [t])) (s.afterRemnant t a)
      (s.rewriteRemnant x (derive (s.tab t).cfg x used)).stock (s.alloc.took (derive (s.tab t).cfg x used))
      (toldOf s.alloc (s.told t) (s.tab t).cfg t x used (some s.partId))) := by
  have hderived := midway_remnant_kept (f := f) (q := s.passed f rest) (stock := s.stock) (alloc := s.alloc)
    (host := s.told t) (r := s.nextStep t a) rfl hstep (released_loadedOnBed hloaded hbedded hlying) hkept []
  have hended := midway_stepEnd (s := s) (f := f) (t := t) (q := s.passed f rest)
    (r := { s.nextStep t a with active := some { a with index := a.index + 1, loaded := none, remnantRan := true } })
    (stock := (s.rewriteRemnant x (derive (s.tab t).cfg x used)).stock) (alloc := s.alloc.took (derive (s.tab t).cfg x used))
    (host := toldOf s.alloc (s.told t) (s.tab t).cfg t x used (some s.partId)) rfl []
  have hwaits := midway_stepStart_wait (s := s) (f := f) (t := t) (q := s.passed f rest) (r := s.afterRemnant t a)
    (stock := (s.rewriteRemnant x (derive (s.tab t).cfg x used)).stock) (alloc := s.alloc.took (derive (s.tab t).cfg x used))
    (host := toldOf s.alloc (s.told t) (s.tab t).cfg t x used (some s.partId)) rfl hnext hvalue hstate hcause []
  exact (hderived.trans hended).trans hwaits

theorem released_remnant_dropped (hdropped : (derive (s.tab t).cfg x used).reason ≠ .none) :
    ((s.released f t rest a).push [.stepStart t]).comesTo 4 (s.midway f t (s.passed f (rest ++ [t])) (s.afterRemnant t a)
      (s.stock.without x.id) (s.alloc.took (derive (s.tab t).cfg x used))
      (toldOf s.alloc (s.told t) (s.tab t).cfg t x used none)) := by
  obtain ⟨bed, hbed, -⟩ := Option.bind_eq_some_iff.1 hbedded
  have hderived := midway_remnant_dropped (f := f) (q := s.passed f rest) (stock := s.stock) (alloc := s.alloc)
    (host := s.told t) (r := s.nextStep t a) rfl hstep (released_loadedOnBed hloaded hbedded hlying) hbed hdropped []
  have hbedEmpty := comesTo_of_bedEmpty (s := s.midway f t (s.passed f rest)
    { s.nextStep t a with active := some { a with index := a.index + 1, loaded := none, remnantRan := true } }
    (s.stock.without x.id) (s.alloc.took (derive (s.tab t).cfg x used))
    (toldOf s.alloc (s.told t) (s.tab t).cfg t x used none)) (t := t) (by
      rw [midway_tab]
      exact fun h => nomatch hstate.symm.trans h) [.stepEnd t]
  have hended := midway_stepEnd (s := s) (f := f) (t := t) (q := s.passed f rest)
    (r := { s.nextStep t a with active := some { a with index := a.index + 1, loaded := none, remnantRan := true } })
    (stock := s.stock.without x.id) (alloc := s.alloc.took (derive (s.tab t).cfg x used))
    (host := toldOf s.alloc (s.told t) (s.tab t).cfg t x used none) rfl []
  have hwaits := midway_stepStart_wait (s := s) (f := f) (t := t) (q := s.passed f rest) (r := s.afterRemnant t a)
    (stock := s.stock.without x.id) (alloc := s.alloc.took (derive (s.tab t).cfg x used))
    (host := toldOf s.alloc (s.told t) (s.tab t).cfg t x used none) rfl hnext hvalue hstate hcause []
  exact ((hderived.trans hbedEmpty).trans hended).trans hwaits

end Remnant

/-- Without the plate on the bed the table halts with NO_PLATE (R83). -/
theorem released_remnant_none (hactive : (s.tab t).active = some a) (hstep : a.steps[a.index + 1]? = some (.remnant used))
    (hnone : s.loadedOnBed t = none) : ∃ fault host, ((s.released f t rest a).push [.stepStart t]).comesTo 2
      { s.midway f t (s.passed f rest) { s.nextStep t a with state := .halted, cause := some .noPlate } s.stock s.alloc host
        with hall := { s.hall with fault := fault } } := by
  have hloaded : (s.midway f t (s.passed f rest) (s.nextStep t a) s.stock s.alloc (s.told t)).loadedOnBed t = none := by
    have htab := midway_tab s f t (s.passed f rest) (s.nextStep t a) s.stock s.alloc (s.told t)
    unfold State.loadedOnBed at hnone ⊢
    rw [htab]
    rw [hactive] at hnone
    exact hnone
  have hstart := midway_remnant_none (f := f) (q := s.passed f rest) (stock := s.stock) (alloc := s.alloc)
    (host := s.told t) (r := s.nextStep t a) rfl hstep hloaded []
  have hmod := midway_modTab s f t (s.passed f rest) (s.nextStep t a) s.stock s.alloc (s.told t)
    (fun r => { r with state := .halted, cause := some .noPlate })
  obtain ⟨fault, host, hhalt⟩ := runHalt_frame (s.midway f t (s.passed f rest) (s.nextStep t a) s.stock s.alloc (s.told t)) t
    .noPlate
  rw [hmod] at hhalt
  exact ⟨fault, host, hstart.trans (comesTo_push (s := s.midway f t (s.passed f rest) (s.nextStep t a) s.stock s.alloc
    (s.told t)) _ [] hhalt)⟩

/-! ### END -/

/-- What an END step leaves of the stock, before its event is counted. -/
def State.endStock (s : State) : Option StockRec → StockTable
  | some x => s.stock.without x.id
  | none => s.stock

/-- What an END step leaves of the account. -/
def State.endAlloc (s : State) (t : TableId) : Option StockRec → Allocator
  | some x => s.alloc.took (derive (s.tab t).cfg x x.len)
  | none => s.alloc

theorem endStock_counted (hclean : s.stock.changed = false) (plate : Option StockRec) :
    (s.endStock plate).counted = (match plate with
      | some x => { s.stock with recs := s.stock.recs.filter (fun y => y.id ≠ x.id), events := s.stock.events + 1 }
      | none => s.stock) := by
  cases plate with
  | none => exact StockTable.counted_of_clean hclean
  | some x => exact StockTable.counted_without hclean x.id

theorem endAlloc_eq (s : State) (t : TableId) (plate : Option StockRec) : s.endAlloc t plate = (match plate with
    | some x => { s.alloc with account := s.alloc.account.add (derive (s.tab t).cfg x x.len) }
    | none => s.alloc) := by
  cases plate <;> rfl

/-- What an END step leaves of the host line. -/
def State.endHost (s : State) (t : TableId) : Option StockRec → HostLine
  | some x => toldOf s.alloc (s.told t) (s.tab t).cfg t x x.len none
  | none => s.told t

section End

variable {q : FlagRec} {stock : StockTable} {alloc : Allocator} {host : HostLine}

theorem released_end_consumed (hstate : (s.tab t).state = .flagWait) (hstep : a.steps[a.index + 1]? = some .finish)
    (hloaded : a.loaded = some x.id) (hran : a.remnantRan = false) (hbedded : s.bedRec t = some x) (hlying : x.state = .onBed)
    (hrec : s.stockRec x.id = some x) (hmin : 0 < (s.tab t).cfg.minLen) :
    ((s.released f t rest a).push [.stepStart t]).comesTo 2
      ((s.midway f t (s.passed f rest) { s.tab t with active := some { a with index := a.index + 1, loaded := none } }
        (s.stock.without x.id) (s.alloc.took (derive (s.tab t).cfg x x.len))
        (toldOf s.alloc (s.told t) (s.tab t).cfg t x x.len none)).push [.endDone t]) := by
  obtain ⟨bed, hbed, -⟩ := Option.bind_eq_some_iff.1 hbedded
  have hended := midway_end_consumed (f := f) (q := s.passed f rest) (stock := s.stock) (alloc := s.alloc)
    (host := s.told t) (r := s.nextStep t a) rfl hstep hloaded hran (released_loadedOnBed hloaded hbedded hlying) hrec hbed
    hmin []
  have hbedEmpty := comesTo_of_bedEmpty (s := s.midway f t (s.passed f rest)
    { s.nextStep t a with active := some { a with index := a.index + 1, loaded := none } }
    (s.stock.without x.id) (s.alloc.took (derive (s.tab t).cfg x x.len))
    (toldOf s.alloc (s.told t) (s.tab t).cfg t x x.len none)) (t := t) (by
      rw [midway_tab]
      exact fun h => nomatch hstate.symm.trans h) [.endDone t]
  exact hended.trans hbedEmpty

theorem released_end_none (hstep : a.steps[a.index + 1]? = some .finish) (hactive : (s.tab t).active = some a)
    (h : a.loaded = none ∨ a.remnantRan = true ∨ s.loadedOnBed t = none) :
    ∃ b, ((s.released f t rest a).push [.stepStart t]).comesTo 1
      ((s.midway f t (s.passed f rest) { s.tab t with active := some b } s.stock s.alloc (s.told t)).push [.endDone t]) := by
  have hloaded : (s.midway f t (s.passed f rest) (s.nextStep t a) s.stock s.alloc (s.told t)).loadedOnBed t
      = s.loadedOnBed t := by
    have htab := midway_tab s f t (s.passed f rest) (s.nextStep t a) s.stock s.alloc (s.told t)
    unfold State.loadedOnBed
    rw [htab, hactive]
    rfl
  exact midway_end_none (f := f) (q := s.passed f rest) (stock := s.stock) (alloc := s.alloc)
    (host := s.told t) (r := s.nextStep t a) rfl hstep (by rwa [hloaded]) []

variable (b : Active)

/-- The table without its program, IDLE. -/
def State.idled (s : State) (t : TableId) : TableRec :=
  { s.tab t with active := none, claim := .none, contour := none, timer := none, state := .idle }

theorem endDone_idle (hcause : (s.tab t).cause = none) (hswap : (s.tab t).swap = false) :
    ((s.midway f t q { s.tab t with active := some b } stock alloc host).push [.endDone t]).comesTo 1
      (s.midway f t q (s.idled t) stock alloc (host.report (.tableState t .idle none none none))) := by
  have hidle := midway_endDone_idle (s := s) (f := f) (t := t) (q := q) (r := { s.tab t with active := some b })
    (stock := stock) (alloc := alloc) (host := host) hswap []
  have hrec : ({ ({ s.tab t with active := some b } : TableRec).emptied with state := .idle, cause := none } : TableRec)
      = s.idled t := by
    rw [State.idled, TableRec.emptied, ← hcause, ← hswap]
  rwa [hrec] at hidle

/-- The table with its staged program, at step 0. -/
def State.swapped (s : State) (t : TableId) (steps : List NestStep) : TableRec :=
  { s.tab t with
    active := some { steps := steps, index := 0, loaded := none, remnantRan := false }, staged := .empty, swap := false }

theorem endDone_swap (hclear : q.value = false) (hstate : (s.tab t).state = .flagWait) (hcause : (s.tab t).cause = none)
    (hswap : (s.tab t).swap = true) (hstaged : (s.tab t).staged = .ready steps)
    (hfirst : steps[0]? = some (.waitFlag f.val)) :
    ((s.midway f t q { s.tab t with active := some b } stock alloc host).push [.endDone t]).comesTo 2
      (s.midway f t { q with waiters := q.waiters ++ [t] } (s.swapped t steps) stock alloc host) := by
  have hdone := midway_endDone_swap (s := s) (f := f) (t := t) (q := q) (r := { s.tab t with active := some b })
    (stock := stock) (alloc := alloc) (host := host) hswap hstaged []
  have hwaits := midway_stepStart_wait (s := s) (f := f) (t := t) (q := q) (r := s.swapped t steps) (stock := stock)
    (alloc := alloc) (host := host) rfl hfirst hclear hstate hcause []
  exact hdone.trans hwaits

end End

end Released

/-- Settles O36. -/
theorem derivationAccountsForThePlate : Obligations.DerivationAccountsForThePlate := by
  unfold Obligations.DerivationAccountsForThePlate
  refine ⟨fun c x u hgen => ?_, fun a c x u => ?_, fun s t f rest a htakes hset hvalue hwaiters hstate hcause hactive => ?_⟩
  · intro d
    refine ⟨rfl, decide_eq_true_iff, fun h => ?_, fun h => ?_, derive_reason_eq_none_iff c x u hgen,
      derive_reason_eq_short_iff c x u, derive_reason_eq_small_iff c x u, rfl, rfl, rfl, derive_volumes c x u⟩
    · have hrem : d.rem = x.len - (d.used + c.kerf + c.trim) := by simp only [d, derive, remnantLength]
      omega
    · have hrem : d.rem = x.len - (d.used + c.kerf + c.trim) := by simp only [d, derive, remnantLength]
      omega
  · intro d
    refine ⟨Account.add_of_frozen, fun hfree hp hn hr hs hc =>
      Account.add_of_fits hfree (Account.fits_iff.2 ⟨hp, hn, hr, hs, hc⟩), fun hfree hover =>
        Account.add_of_not_fits hfree (Bool.eq_false_iff.2 fun hfits => ?_), Account.add_balanced (derive_volumes c x u)⟩
    have := Account.fits_iff.1 hfits
    omega
  · intro reply consumed framed
    obtain ⟨hwork, hclean, -⟩ := hset
    refine ⟨fun used hstep => ⟨fun x hloaded hbedded hlying hnext => ?_, fun hnone => ?_⟩, fun plate hstep hplate => ?_⟩
    · intro d
      by_cases hkept : d.reason = .none
      · obtain ⟨s0, hexec, hcomes⟩ := exec_flagSet_of_released htakes hvalue hwaiters hactive (released_remnant_kept (rest := rest)
          hstate hcause hvalue hstep hloaded hbedded hlying hnext hkept)
        have hsettle := settle_of_midway hcomes (by decide) hwork
        rw [StockTable.counted_of_clean (by exact hclean)] at hsettle
        refine ⟨_, hexec, ?_⟩
        rw [hsettle]
        refine ⟨midway_framed s.hall.fault, ?_, ?_, rfl, fun _ => ⟨rfl, HostLine.report_hand _ _ _⟩, fun h => absurd hkept h⟩
        · rw [followBeacons_tab, midway_tab]
          rfl
        · rw [followBeacons_flag, midway_flag]
          rfl
      · obtain ⟨s0, hexec, hcomes⟩ := exec_flagSet_of_released htakes hvalue hwaiters hactive (released_remnant_dropped
          (rest := rest) hstate hcause hvalue hstep hloaded hbedded hlying hnext hkept)
        have hsettle := settle_of_midway hcomes (by decide) hwork
        rw [StockTable.counted_without hclean] at hsettle
        refine ⟨_, hexec, ?_⟩
        rw [hsettle]
        refine ⟨midway_framed s.hall.fault, ?_, ?_, rfl, fun h => absurd h hkept, fun _ => ⟨rfl, HostLine.report_hand _ _ _⟩⟩
        · rw [followBeacons_tab, midway_tab]
          rfl
        · rw [followBeacons_flag, midway_flag]
          rfl
    · obtain ⟨fault, host, hcomes⟩ := released_remnant_none (f := f) (rest := rest) hactive hstep hnone
      obtain ⟨s0, hexec, hcomes⟩ := exec_flagSet_of_released htakes hvalue hwaiters hactive hcomes
      refine ⟨_, hexec, ?_⟩
      rw [settle_of_comesTo_clean hcomes (by decide) hwork hclean]
      refine ⟨midway_framed fault, ?_, ?_, rfl, rfl⟩
      · exact midway_tab s f t (s.passed f rest) _ s.stock s.alloc host
      · exact midway_flag s f t (s.passed f rest) { s.nextStep t a with state := .halted, cause := some .noPlate } s.stock
          s.alloc host
    · intro told ended
      obtain ⟨k, hk, b, hcomes⟩ : ∃ k, k ≤ 2 ∧ ∃ b, ((s.released f t rest a).push [.stepStart t]).comesTo k
          ((s.midway f t (s.passed f rest) { s.tab t with active := some b } (s.endStock plate) (s.endAlloc t plate)
            (s.endHost t plate)).push [.endDone t]) := by
        obtain ⟨rfl, hnone⟩ | ⟨x, rfl, hloaded, hran, hbedded, hlying, hrec, hmin⟩ := hplate
        · exact ⟨1, by decide, released_end_none hstep hactive hnone⟩
        · exact ⟨2, by decide, _, released_end_consumed hstate hstep hloaded hran hbedded hlying hrec hmin⟩
      have hhost : s.endHost t plate = { told with hand := reply } := by
        cases plate with
        | none => rfl
        | some x => exact HostLine.report_hand _ _ _
      refine ⟨fun hswap => ?_, fun steps hswap hstaged hfirst => ?_⟩
      · obtain ⟨s0, hexec, hcomes⟩ := exec_flagSet_of_released htakes hvalue hwaiters hactive
          (hcomes.trans (endDone_idle b hcause hswap))
        rw [settle_of_midway hcomes (Nat.le_trans (show 1 + k + 1 ≤ 4 by omega) (by decide)) hwork] at hexec
        refine ⟨_, ⟨hexec, midway_framed s.hall.fault, endStock_counted hclean plate, endAlloc_eq s t plate⟩, ?_, ?_, ?_⟩
        · rw [followBeacons_tab, midway_tab]
          rfl
        · rw [followBeacons_flag, midway_flag]
          rfl
        · rw [hhost]
          exact HostLine.report_hand told _ reply
      · obtain ⟨s0, hexec, hcomes⟩ := exec_flagSet_of_released htakes hvalue hwaiters hactive
          (hcomes.trans (endDone_swap b hvalue hstate hcause hswap hstaged hfirst))
        rw [settle_of_midway hcomes (Nat.le_trans (show 2 + k + 1 ≤ 5 by omega) (by decide)) hwork] at hexec
        refine ⟨_, ⟨hexec, midway_framed s.hall.fault, endStock_counted hclean plate, endAlloc_eq s t plate⟩, ?_, ?_, hhost⟩
        · rw [followBeacons_tab, midway_tab]
          rfl
        · rw [followBeacons_flag, midway_flag]
          rfl

end Sys2Proof.Machine

/-! The requests that load, empty and read back a nest program (R53 to R55, R61, R63, R64). -/

namespace Sys2Proof.Machine

/-! ## The arms of the requests -/

theorem exec_progBegin (k n : Nat) (s : State) : exec (.progBegin k n) s = execProgBegin k n s := by rfl

theorem exec_progSteps (k first count : Nat) (data : List Byte) (s : State) :
    exec (.progSteps k first count data) s = execProgSteps k first count data s := by rfl

theorem exec_progCommit (k : Nat) (s : State) : exec (.progCommit k) s = execProgCommit k s := by rfl

theorem exec_progDiscard (k : Nat) (s : State) : exec (.progDiscard k) s = execProgDiscard k s := by rfl

theorem exec_progStart (k : Nat) (s : State) : exec (.progStart k) s = execProgStart k s := by rfl

theorem exec_progAbort (k : Nat) (s : State) : exec (.progAbort k) s = execProgAbort k s := by rfl

theorem exec_progQuery (k : Nat) (s : State) : exec (.progQuery k) s = execProgQuery k s := by rfl

theorem exec_progRead (k slot first count : Nat) (s : State) :
    exec (.progRead k slot first count) s = execProgRead k slot first count s := by rfl

/-! ## The tests of a request that names a table (R53) -/

section WithProgram

variable {s : State} {f : TableId → State} {t : TableId}

theorem withProgram_of_range {k : Nat} (h : k < 1 ∨ 4 < k) : s.withProgram k f = s.refuse .range := withTable_of_range h

theorem withProgram_of_absent (h : (s.tab t).state = .absent) : s.withProgram (t.val + 1) f = s.refuse .unitAbsent :=
  withTable_of_absent h

theorem withProgram_of_setup (h : (s.tab t).state ≠ .absent) (hmode : s.hall.mode = .setup) :
    s.withProgram (t.val + 1) f = s.refuse .badState :=
  (withTable_of_fitted h).trans (notInSetup_of_setup hmode)

theorem withProgram_of_running (h : (s.tab t).state ≠ .absent) (hmode : s.hall.mode ≠ .setup) :
    s.withProgram (t.val + 1) f = f t :=
  (withTable_of_fitted h).trans (notInSetup_of_running hmode)

end WithProgram

/-- A test that refuses whatever the request is to do refuses it. -/
theorem exec_program_refused {s : State} (hset : s.settled) {k n first count : Nat} {data : List Byte} {i : Instr}
    (hi : i ∈ [Instr.progBegin k n, .progSteps k first count data, .progCommit k, .progDiscard k, .progStart k, .progAbort k])
    (htakes : s.takes i) {c : Code} (h : ∀ f, s.withProgram k f = s.refuse c) : exec i s = .next (s.refuse c) := by
  simp only [List.mem_cons, List.not_mem_nil, or_false] at hi
  obtain rfl | rfl | rfl | rfl | rfl | rfl := hi
  · rw [exec_progBegin, execProgBegin, ask_of_takes _ _ _ htakes, h]
  · rw [exec_progSteps, execProgSteps, ask_of_takes _ _ _ htakes, h]
  · rw [exec_progCommit, execProgCommit, request_of_takes _ _ _ htakes, h, settle_refuse s hset]
  · rw [exec_progDiscard, execProgDiscard, ask_of_takes _ _ _ htakes, h]
  · rw [exec_progStart, execProgStart, request_of_takes _ _ _ htakes, h, settle_refuse s hset]
  · rw [exec_progAbort, execProgAbort, request_of_takes _ _ _ htakes, h, settle_refuse s hset]

/-! ## Writing steps (R55) -/

theorem length_parseSteps {n : Nat} {data : List Byte} {steps : List NestStep} (h : parseSteps n data = some steps) :
    steps.length = n := by
  induction n generalizing data steps with
  | zero => cases h; rfl
  | succ n ih =>
    rw [parseSteps] at h
    split at h
    next x xs _ hxs =>
      cases h
      rw [List.length_cons, ih hxs]
    · cases h

section WriteSteps

variable {ps : List (Option NestStep)} {first : Nat} {steps : List NestStep} (hfits : first + steps.length ≤ ps.length)
include hfits

theorem length_writeSteps : (writeSteps ps first steps).length = ps.length := by
  simp only [writeSteps, List.length_append, List.length_take, List.length_map, List.length_drop]
  omega

theorem getElem?_writeSteps_inside {j : Nat} (hlo : first ≤ j) (hhi : j < first + steps.length) :
    (writeSteps ps first steps)[j]? = (steps[j - first]?).map some := by
  have htake : (ps.take first).length = first := by rw [List.length_take]; omega
  rw [writeSteps, List.getElem?_append_left (by rw [List.length_append, htake, List.length_map]; exact hhi),
    List.getElem?_append_right (by omega), htake, List.getElem?_map]

theorem getElem?_writeSteps_outside {j : Nat} (h : j < first ∨ first + steps.length ≤ j) :
    (writeSteps ps first steps)[j]? = ps[j]? := by
  have htake : (ps.take first).length = first := by rw [List.length_take]; omega
  obtain h | h := h
  · rw [writeSteps, List.append_assoc, List.getElem?_append_left (by omega), List.getElem?_take_of_lt h]
  · rw [writeSteps, List.getElem?_append_right (by rw [List.length_append, htake, List.length_map]; exact h),
      List.length_append, htake, List.length_map, List.getElem?_drop]
    congr 1
    omega

end WriteSteps

/-! ## PROG_BEGIN, PROG_STEPS and PROG_DISCARD -/

section Loading

variable {s : State} {t : TableId} (hfit : (s.tab t).state ≠ .absent) (hmode : s.hall.mode ≠ .setup)
include hfit hmode

theorem exec_progBegin_of_running {n : Nat} (htakes : s.takes (.progBegin (t.val + 1) n)) :
    exec (.progBegin (t.val + 1) n) s = .next (if n < 1 ∨ 64 < n then s.refuse .range
      else match (s.tab t).staged with
        | .ready _ => s.refuse .stagedOccupied
        | .loading _ => s.refuse .badState
        | .empty => (s.setStaged t (.loading (List.replicate n none))).accept .none) := by
  rw [exec_progBegin, execProgBegin, ask_of_takes _ _ _ htakes]
  exact congrArg Host.Outcome.next (withProgram_of_running hfit hmode)

theorem exec_progSteps_of_running {first count : Nat} {data : List Byte}
    (htakes : s.takes (.progSteps (t.val + 1) first count data)) :
    exec (.progSteps (t.val + 1) first count data) s = .next (match (s.tab t).staged with
      | .loading ps =>
        if 63 < first ∨ count < 1 ∨ 8 < count ∨ ps.length < first + count then s.refuse .range
        else match parseSteps count data with
          | none => s.refuse .range
          | some steps => (s.setStaged t (.loading (writeSteps ps first steps))).accept
              (.written (writtenCount (writeSteps ps first steps)))
      | _ => s.refuse .badState) := by
  rw [exec_progSteps, execProgSteps, ask_of_takes _ _ _ htakes]
  exact congrArg Host.Outcome.next (withProgram_of_running hfit hmode)

theorem exec_progDiscard_of_running (htakes : s.takes (.progDiscard (t.val + 1))) :
    exec (.progDiscard (t.val + 1)) s = .next (match (s.tab t).staged with
      | .empty => s.accept (.staged .empty)
      | was => (s.modTab t (fun r => { r with staged := .empty, swap := false })).accept (.staged was.state)) := by
  rw [exec_progDiscard, execProgDiscard, ask_of_takes _ _ _ htakes]
  exact congrArg Host.Outcome.next (withProgram_of_running hfit hmode)

end Loading

/-- Settles O37. -/
theorem programsAreLoaded : Obligations.ProgramsAreLoaded := by
  unfold Obligations.ProgramsAreLoaded
  refine fun s t n first count data hset => ⟨fun i k hi htakes => ⟨fun hk => ?_, fun hk habsent => ?_, fun hk hfit hmode => ?_⟩,
    fun hfit hmode => ⟨fun htakes => ?_, fun htakes => ?_, fun htakes => ?_⟩⟩
  · exact exec_program_refused hset hi htakes fun f => withProgram_of_range hk
  · subst hk
    exact exec_program_refused hset hi htakes fun f => withProgram_of_absent habsent
  · subst hk
    exact exec_program_refused hset hi htakes fun f => withProgram_of_setup hfit hmode
  · rw [exec_progBegin_of_running hfit hmode htakes]
    refine ⟨fun hn => by rw [if_pos hn], fun hlo hhi => ?_⟩
    rw [if_neg (by omega)]
    exact ⟨fun steps h => by rw [h], fun ps h => by rw [h], fun h => by rw [h]; rfl⟩
  · rw [exec_progSteps_of_running hfit hmode htakes]
    refine ⟨fun hother => ?_, fun ps hps => ?_⟩
    · cases hst : (s.tab t).staged with
      | loading ps => exact absurd hst (hother ps)
      | empty => rfl
      | ready steps => rfl
    · rw [hps]
      refine ⟨fun hrange => by dsimp only; rw [if_pos hrange], fun hfirst hlo hhi hfits => ?_⟩
      dsimp only
      rw [if_neg (by omega)]
      refine ⟨fun hnone => by rw [hnone], fun steps hsteps => ?_⟩
      have hlen := length_parseSteps hsteps
      have hfits' : first + steps.length ≤ ps.length := by omega
      refine ⟨writeSteps ps first steps, length_writeSteps hfits', fun j hj hj' =>
        getElem?_writeSteps_inside hfits' hj (by omega), fun j hj => getElem?_writeSteps_outside hfits' (by omega), ?_⟩
      rw [hsteps]
      rfl
  · rw [exec_progDiscard_of_running hfit hmode htakes]
    refine ⟨fun hempty => by rw [hempty], fun hstaged => ?_⟩
    cases hst : (s.tab t).staged with
    | empty => exact absurd hst hstaged
    | loading ps => rfl
    | ready steps => rfl

/-! ## Reading a program back (R63, R64) -/

section Reading

variable {s : State} {t : TableId} (hfit : (s.tab t).state ≠ .absent)
include hfit

theorem exec_progQuery_of_fitted (htakes : s.takes (.progQuery (t.val + 1))) :
    exec (.progQuery (t.val + 1)) s = .next (s.accept (.program (s.tab t).progView)) := by
  rw [exec_progQuery, execProgQuery, ask_of_takes _ _ _ htakes, withTable_of_fitted hfit]

theorem exec_progRead_of_slot {slot first count : Nat} (htakes : s.takes (.progRead (t.val + 1) slot first count))
    (hslot : 1 < slot) : exec (.progRead (t.val + 1) slot first count) s = .next (s.refuse .range) := by
  rw [exec_progRead, execProgRead, ask_of_takes _ _ _ htakes, withTable_of_fitted hfit, if_pos hslot]

theorem exec_progRead_of_none {slot first count : Nat} (htakes : s.takes (.progRead (t.val + 1) slot first count))
    (hslot : slot ≤ 1) (h : (s.tab t).positions slot = none) :
    exec (.progRead (t.val + 1) slot first count) s = .next (s.refuse .badState) := by
  rw [exec_progRead, execProgRead, ask_of_takes _ _ _ htakes, withTable_of_fitted hfit, if_neg (Nat.not_lt.2 hslot), h]

theorem exec_progRead_of_some {slot first count : Nat} (htakes : s.takes (.progRead (t.val + 1) slot first count))
    (hslot : slot ≤ 1) {ps : List (Option NestStep)} (h : (s.tab t).positions slot = some ps) :
    exec (.progRead (t.val + 1) slot first count) s = .next (if count < 1 ∨ 8 < count ∨ ps.length < first + count
      then s.refuse .range else s.accept (.steps (((ps.drop first).take count).map stepImage))) := by
  rw [exec_progRead, execProgRead, ask_of_takes _ _ _ htakes, withTable_of_fitted hfit, if_neg (Nat.not_lt.2 hslot), h]

end Reading

section Positions

variable {r : TableRec}

theorem positions_active : r.positions 0 = r.active.map (fun a => a.steps.map some) := rfl

theorem positions_of_empty (h : r.staged = .empty) : r.positions 1 = none := by
  simp [TableRec.positions, h]

theorem positions_of_loading {ps : List (Option NestStep)} (h : r.staged = .loading ps) : r.positions 1 = some ps := by
  simp [TableRec.positions, h]

theorem positions_of_ready {steps : List NestStep} (h : r.staged = .ready steps) : r.positions 1 = some (steps.map some) := by
  simp [TableRec.positions, h]

end Positions

/-! ## A step and its ten bytes (R55, R64, Table 12-9) -/

/-- A number below 65536 is read from its two bytes. -/
theorem num2_bytes {n : Nat} (h : n < 65536) : num2 (byteOf (n / 256)) (byteOf n) = n := by
  rw [num2, byteOf_toNat, byteOf_toNat]
  exact two_bytes h

/-- What the bytes of a step hold. -/
def NestStep.fits : NestStep → Prop
  | .plate .allocate r => r.grade < 256 ∧ r.thick < 65536 ∧ r.len < 65536 ∧ r.wid < 65536 ∧ r.pref ≤ 1
  | .plate .adopt r => r.grade < 256 ∧ r.thick < 65536 ∧ r.len < 65536 ∧ r.wid < 65536 ∧ r.pref < 256
  | .waitFlag f => f < 256
  | .setFlag f => f < 256
  | .mark id a b _ => id < 256 ∧ a < 65536 ∧ b < 65536
  | .contour n p => n < 65536 ∧ p < 256
  | .remnant u => u < 65536
  | .move _ tag z sl flag _ => tag < 256 ∧ z < 256 ∧ sl < 256 ∧ (∀ f, flag = some f → f < 255)
  | .finish => True

theorem length_stepImage (x : NestStep) : (stepImage (some x)).length = 10 := by
  cases x <;> rfl

/-- The flag byte of a MOVE step stands for its flag. -/
theorem flagByte_eq {flag : Option Nat} (h : ∀ f, flag = some f → f < 255) :
    (if flag.getD 255 % 256 = 255 then none else some (flag.getD 255 % 256)) = flag := by
  cases flag with
  | none => rfl
  | some f =>
    have hf := h f rfl
    rw [Option.getD_some, Nat.mod_eq_of_lt (by omega), if_neg (by omega)]

theorem parseStep_stepImage {x : NestStep} (h : x.fits) : parseStep (stepImage (some x)) = some x := by
  cases x with
  | plate mode r =>
    cases mode with
    | allocate =>
      obtain ⟨hgrade, hthick, hlen, hwid, hpref⟩ := h
      have hpref' : r.pref % 256 = r.pref := by omega
      simp [stepImage, parseStep, bytes2, num2_bytes, Nat.mod_eq_of_lt, *]
    | adopt =>
      obtain ⟨hgrade, hthick, hlen, hwid, hpref⟩ := h
      simp [stepImage, parseStep, bytes2, num2_bytes, Nat.mod_eq_of_lt, *]
  | waitFlag f => simp [stepImage, parseStep, Nat.mod_eq_of_lt h]
  | setFlag f => simp [stepImage, parseStep, Nat.mod_eq_of_lt h]
  | mark id a b m =>
    obtain ⟨hid, ha, hb⟩ := h
    cases m <;> simp [stepImage, parseStep, bytes2, num2_bytes, Nat.mod_eq_of_lt, *]
  | contour n p =>
    obtain ⟨hn, hp⟩ := h
    simp [stepImage, parseStep, bytes2, num2_bytes, Nat.mod_eq_of_lt, *]
  | remnant u => simp [stepImage, parseStep, bytes2, num2_bytes h]
  | move l tag z sl flag c =>
    obtain ⟨htag, hz, hsl, hflag⟩ := h
    have hbyte := flagByte_eq hflag
    cases l <;> cases c <;> simp [stepImage, parseStep, Nat.mod_eq_of_lt, *]
  | finish => rfl

/-- Settles O40. -/
theorem programsAreReadBack : Obligations.ProgramsAreReadBack := by
  unfold Obligations.ProgramsAreReadBack
  refine ⟨fun s t hfit => ⟨fun htakes => ?_, fun slot first count htakes => ⟨exec_progRead_of_slot hfit htakes, fun hempty => ?_,
    fun ps hps => ?_⟩⟩, fun x hx => ⟨parseStep_stepImage (x := x) ?_, length_stepImage x⟩⟩
  · rw [exec_progQuery_of_fitted hfit htakes]
    unfold TableRec.progView
    cases (s.tab t).active <;> cases (s.tab t).staged <;> rfl
  · obtain ⟨rfl, hactive⟩ | ⟨rfl, hstaged⟩ := hempty
    · exact exec_progRead_of_none hfit htakes (by decide) (by rw [positions_active, hactive]; rfl)
    · exact exec_progRead_of_none hfit htakes (by decide) (positions_of_empty hstaged)
  · obtain ⟨hslot, hpos⟩ : slot ≤ 1 ∧ (s.tab t).positions slot = some ps := by
      obtain ⟨rfl, a, hactive, rfl⟩ | ⟨rfl, hloading | ⟨steps, hready, rfl⟩⟩ := hps
      · exact ⟨by decide, by rw [positions_active, hactive]; rfl⟩
      · exact ⟨by decide, positions_of_loading hloading⟩
      · exact ⟨by decide, positions_of_ready hready⟩
    rw [exec_progRead_of_some hfit htakes hslot hpos]
    refine ⟨fun hrange => by rw [if_pos hrange], fun hlo hhi hfits => ⟨((ps.drop first).take count).map stepImage, ?_, ?_,
      fun j hj => ?_⟩⟩
    · rw [if_neg (by omega)]
    · simp only [List.length_map, List.length_take, List.length_drop]
      omega
    · rw [List.getElem?_map, List.getElem?_take_of_lt hj, List.getElem?_drop]
  · cases x with
    | plate mode r => cases mode <;> exact hx
    | _ => exact hx

end Sys2Proof.Machine

/-! The commit of a nest program (R56): the walk accepts exactly the programs that keep the five program rules. -/

namespace Sys2Proof.Machine

/-! ## The tests at one position (Table 3-3) -/

section Test

variable {s : State} {last : Bool} {before : List NestStep} {x : NestStep}

theorem ite_some_eq_none_iff {α : Type} {c : Prop} [Decidable c] {r : α} {k : Option α} :
    (if c then some r else k) = none ↔ ¬ c ∧ k = none := by
  split <;> simp [*]

theorem commitTest_eq_none_iff : s.commitTest last before (some x) = none ↔
    stepInRange x = true ∧ (x = .finish ↔ last = true) ∧ (x.isPlate = true → before.any NestStep.isPlate = false)
      ∧ (x.needsPlate = true → before.any NestStep.isPlate = true)
      ∧ (x.isRemnant = true → before.any NestStep.isRemnant = false)
      ∧ (x.needsWhole = true → before.any NestStep.isRemnant = false) ∧ s.destFits x = true
      ∧ (last = true → before.any NestStep.isPlate = true) := by
  have hfinish : decide (x = .finish) = last ↔ (x = .finish ↔ last = true) := by
    rw [Bool.eq_iff_iff, decide_eq_true_eq]
  simp only [State.commitTest, ite_some_eq_none_iff, Bool.and_eq_true, not_and, ne_eq, Classical.not_not, Bool.not_eq_true,
    Bool.not_eq_true', Bool.not_eq_false, hfinish, and_true]

end Test

/-! ## The walk -/

section Walk

variable {s : State}

theorem commitWalk_cons_of_test {before : List NestStep} {ps : List (Option NestStep)} {x : NestStep}
    (h : s.commitTest ps.isEmpty before (some x) = none) :
    s.commitWalk before (some x :: ps) = s.commitWalk (before ++ [x]) ps := by
  simp only [State.commitWalk, h]

theorem commitWalk_cons_of_failure {before : List NestStep} {ps : List (Option NestStep)} {p : Option NestStep}
    {reason : CommitReason} (h : s.commitTest ps.isEmpty before p = some reason) :
    s.commitWalk before (p :: ps) = .error (before.length, reason) := by
  cases p <;> simp only [State.commitWalk, h]

theorem isEmpty_map_eq (x : NestStep) (xs : List NestStep) :
    (xs.map some).isEmpty = decide (0 + 1 = (x :: xs).length) := by
  cases xs <;> simp

/-- The walk of a step and what follows passes where the step passes, and the rest with the step before it. -/
theorem forall_commitTest_cons {before : List NestStep} {x : NestStep} {xs : List NestStep} :
    (∀ i y, (x :: xs)[i]? = some y →
        s.commitTest (decide (i + 1 = (x :: xs).length)) (before ++ (x :: xs).take i) (some y) = none)
      ↔ s.commitTest (xs.map some).isEmpty before (some x) = none
        ∧ ∀ i y, xs[i]? = some y →
          s.commitTest (decide (i + 1 = xs.length)) (before ++ [x] ++ xs.take i) (some y) = none := by
  rw [isEmpty_map_eq x xs]
  refine ⟨fun h => ⟨by simpa using h 0 x rfl, fun i y hy => by simpa using h (i + 1) y (by simpa using hy)⟩,
    fun ⟨hfirst, hrest⟩ i y hy => ?_⟩
  cases i with
  | zero =>
    cases hy
    simpa using hfirst
  | succ i => simpa using hrest i y (by simpa using hy)

/-- A walk succeeds where every position holds a step that passes its tests. -/
theorem commitWalk_eq_ok_iff (before : List NestStep) (ps : List (Option NestStep)) (steps : List NestStep) :
    s.commitWalk before ps = .ok steps ↔ ∃ xs : List NestStep, ps = xs.map some ∧ steps = before ++ xs
      ∧ ∀ i x, xs[i]? = some x →
        s.commitTest (decide (i + 1 = xs.length)) (before ++ xs.take i) (some x) = none := by
  induction ps generalizing before with
  | nil =>
    rw [State.commitWalk, Except.ok.injEq]
    refine ⟨fun h => ⟨[], rfl, by simp [h], nofun⟩, ?_⟩
    rintro ⟨xs, hxs, rfl, -⟩
    rw [List.map_eq_nil_iff.1 hxs.symm, List.append_nil]
  | cons p ps ih =>
    cases htest : s.commitTest ps.isEmpty before p with
    | some reason =>
      rw [commitWalk_cons_of_failure htest]
      refine ⟨nofun, ?_⟩
      rintro ⟨xs, hxs, -, hall⟩
      cases xs with
      | nil => cases hxs
      | cons x xs =>
        obtain ⟨rfl, rfl⟩ := List.cons_eq_cons.1 hxs
        exact absurd (htest.symm.trans (forall_commitTest_cons.1 hall).1) nofun
    | none =>
      cases p with
      | none => cases htest
      | some x =>
        rw [commitWalk_cons_of_test htest, ih]
        constructor
        · rintro ⟨xs, rfl, rfl, hall⟩
          exact ⟨x :: xs, rfl, by simp, forall_commitTest_cons.2 ⟨htest, hall⟩⟩
        · rintro ⟨xs, hxs, rfl, hall⟩
          cases xs with
          | nil => cases hxs
          | cons y ys =>
            obtain ⟨hy, rfl⟩ := List.cons_eq_cons.1 hxs
            cases hy
            exact ⟨ys, rfl, by simp, (forall_commitTest_cons.1 hall).2⟩

/-- A walk that fails does so at the first position that fails a test, with the first test it fails. -/
theorem commitWalk_eq_error {before : List NestStep} {ps : List (Option NestStep)} {i : Nat} {reason : CommitReason}
    (h : s.commitWalk before ps = .error (i, reason)) : ∃ (xs : List NestStep) (p : Option NestStep) (rest : List (Option NestStep)),
      ps = xs.map some ++ p :: rest ∧ i = before.length + xs.length
        ∧ s.commitTest rest.isEmpty (before ++ xs) p = some reason
        ∧ ∀ j x, xs[j]? = some x → s.commitTest false (before ++ xs.take j) (some x) = none := by
  induction ps generalizing before with
  | nil => cases h
  | cons p ps ih =>
    cases htest : s.commitTest ps.isEmpty before p with
    | some r =>
      rw [commitWalk_cons_of_failure htest] at h
      cases h
      exact ⟨[], p, ps, rfl, rfl, by rwa [List.append_nil], nofun⟩
    | none =>
      cases p with
      | none => cases htest
      | some x =>
        rw [commitWalk_cons_of_test htest] at h
        obtain ⟨xs, p, rest, rfl, rfl, hfails, hpassed⟩ := ih h
        refine ⟨x :: xs, p, rest, rfl, by simp; omega, by simpa using hfails, fun j y hy => ?_⟩
        cases j with
        | zero =>
          cases hy
          have hmore : (xs.map some ++ p :: rest).isEmpty = false := by simp
          rw [hmore] at htest
          simpa using htest
        | succ j => simpa using hpassed j y (by simpa using hy)

end Walk

/-! ## The five program rules -/

section Rules

/-- Some step before position `i` meets a test. -/
theorem any_take_iff {steps : List NestStep} {P : NestStep → Bool} {i : Nat} :
    (steps.take i).any P = true ↔ ∃ j y, j < i ∧ steps[j]? = some y ∧ P y = true := by
  rw [List.any_eq_true]
  constructor
  · rintro ⟨y, hy, hP⟩
    obtain ⟨j, hj⟩ := List.mem_iff_getElem?.1 hy
    rw [List.getElem?_take] at hj
    split at hj
    next hlt => exact ⟨j, y, hlt, hj, hP⟩
    next => cases hj
  · rintro ⟨j, y, hlt, hj, hP⟩
    exact ⟨y, List.mem_iff_getElem?.2 ⟨j, by rw [List.getElem?_take_of_lt hlt, hj]⟩, hP⟩

theorem any_take_eq_false_iff {steps : List NestStep} {P : NestStep → Bool} {i : Nat} :
    (steps.take i).any P = false ↔ ∀ j y, j < i → steps[j]? = some y → P y = false := by
  rw [← Bool.not_eq_true, any_take_iff]
  simp only [not_exists, not_and, Bool.not_eq_true]

/-- At most one step meets a test where none after such a step does. -/
theorem length_filter_le_one_iff {steps : List NestStep} {P : NestStep → Bool} :
    (steps.filter P).length ≤ 1 ↔ ∀ i x, steps[i]? = some x → P x = true → (steps.take i).any P = false := by
  induction steps with
  | nil => simp
  | cons x xs ih =>
    have hcons : (∀ i y, (x :: xs)[i]? = some y → P y = true → ((x :: xs).take i).any P = false)
        ↔ ∀ i y, xs[i]? = some y → P y = true → P x = false ∧ (xs.take i).any P = false := by
      refine ⟨fun h i y hy hP => by simpa using h (i + 1) y (by simpa using hy) hP, fun h i y hy hP => ?_⟩
      cases i with
      | zero => rfl
      | succ i => simpa using h i y (by simpa using hy) hP
    rw [hcons]
    cases hx : P x with
    | false =>
      rw [List.filter_cons_of_neg (by simp [hx]), ih]
      simp
    | true =>
      have hnone : (∀ i y, xs[i]? = some y → P y = true → true = false ∧ (xs.take i).any P = false)
          ↔ ∀ y ∈ xs, ¬ P y = true := by
        refine ⟨fun h y hy hP => ?_, fun h i y hy hP => absurd hP (h y (List.mem_of_getElem? hy))⟩
        obtain ⟨i, hi⟩ := List.mem_iff_getElem?.1 hy
        exact absurd (h i y hi hP).1 nofun
      rw [List.filter_cons_of_pos hx, hnone, List.length_cons, ← List.filter_eq_nil_iff, ← List.length_eq_zero_iff]
      omega

/-- The five rules of a program, each at its position. -/
def RulesAt (s : State) (steps : List NestStep) (i : Nat) (x : NestStep) : Prop :=
  stepInRange x = true ∧ (x = .finish ↔ i + 1 = steps.length) ∧ (x.isPlate = true → (steps.take i).any NestStep.isPlate = false)
    ∧ (x.needsPlate = true → (steps.take i).any NestStep.isPlate = true)
    ∧ (x.isRemnant = true → (steps.take i).any NestStep.isRemnant = false)
    ∧ (x.needsWhole = true → (steps.take i).any NestStep.isRemnant = false) ∧ s.destFits x = true
    ∧ (i + 1 = steps.length → (steps.take i).any NestStep.isPlate = true)

theorem rulesAt_iff (s : State) (steps : List NestStep) :
    (∀ i x, steps[i]? = some x → s.commitTest (decide (i + 1 = steps.length)) ([] ++ steps.take i) (some x) = none)
      ↔ ∀ i x, steps[i]? = some x → RulesAt s steps i x := by
  refine forall_congr' fun i => forall_congr' fun x => forall_congr' fun _ => ?_
  rw [commitTest_eq_none_iff, List.nil_append, RulesAt, decide_eq_true_eq]

theorem rules_iff (s : State) {steps : List NestStep} (hne : steps ≠ []) : (∀ i x, steps[i]? = some x → RulesAt s steps i x) ↔
    steps.getLast? = some .finish ∧ (∀ i, steps[i]? = some .finish → i + 1 = steps.length)
      ∧ (steps.filter NestStep.isPlate).length = 1
      ∧ (∀ (i : Nat) (x : NestStep), steps[i]? = some x → x.needsPlate = true →
          ∃ (j : Nat) (y : NestStep), j < i ∧ steps[j]? = some y ∧ y.isPlate = true)
      ∧ (steps.filter NestStep.isRemnant).length ≤ 1
      ∧ (∀ (i j : Nat) (x y : NestStep), i < j → steps[i]? = some x → x.isRemnant = true → steps[j]? = some y →
          y.needsWhole = false)
      ∧ (∀ x ∈ steps, stepInRange x = true ∧ s.destFits x = true) := by
  have hpos : 0 < steps.length := List.length_pos_iff.2 hne
  have hlast : steps[steps.length - 1]? = some (steps.getLast hne) := by
    rw [← List.getLast?_eq_getElem?, List.getLast?_eq_some_getLast hne]
  constructor
  · intro h
    have hrule : ∀ x ∈ steps, ∃ i, steps[i]? = some x ∧ RulesAt s steps i x := fun x hx => by
      obtain ⟨i, hi⟩ := List.mem_iff_getElem?.1 hx
      exact ⟨i, hi, h i x hi⟩
    obtain ⟨-, hend, -, -, -, -, -, hplate⟩ := h _ _ hlast
    obtain ⟨j, y, -, hy, hisPlate⟩ := any_take_iff.1 (hplate (by omega))
    have hsome : 0 < (steps.filter NestStep.isPlate).length :=
      List.length_pos_of_mem (List.mem_filter.2 ⟨List.mem_of_getElem? hy, hisPlate⟩)
    have hone : (steps.filter NestStep.isPlate).length ≤ 1 := length_filter_le_one_iff.2 fun i x hx => (h i x hx).2.2.1
    refine ⟨?_, fun i hi => (h i _ hi).2.1.1 rfl, by omega, fun i x hx hneeds => any_take_iff.1 ((h i x hx).2.2.2.1 hneeds),
      length_filter_le_one_iff.2 fun i x hx => (h i x hx).2.2.2.2.1, fun i j x y hij hx hremnant hy => ?_, fun x hx => ?_⟩
    · rw [List.getLast?_eq_some_getLast hne, hend.2 (by omega)]
    · refine Bool.eq_false_iff.2 fun hwhole => ?_
      have hnone := any_take_eq_false_iff.1 ((h j y hy).2.2.2.2.2.1 hwhole) i x hij hx
      exact absurd hremnant (by simp [hnone])
    · obtain ⟨i, -, hrange, -, -, -, -, -, hdest, -⟩ := hrule x hx
      exact ⟨hrange, hdest⟩
  · rintro ⟨hend, honly, hplates, hneeds, hremnants, hwhole, hparams⟩ i x hx
    have hfinish : steps[steps.length - 1]? = some .finish := by rw [← List.getLast?_eq_getElem?, hend]
    have hlt : i < steps.length := (List.getElem?_eq_some_iff.1 hx).1
    refine ⟨(hparams x (List.mem_of_getElem? hx)).1, ⟨?_, fun hi => ?_⟩, length_filter_le_one_iff.1 (by omega) i x hx,
      fun hx' => any_take_iff.2 (hneeds i x hx hx'), length_filter_le_one_iff.1 hremnants i x hx, fun hx' => ?_,
      (hparams x (List.mem_of_getElem? hx)).2, fun hi => ?_⟩
    · rintro rfl
      exact honly i hx
    · rw [show i = steps.length - 1 by omega, hfinish] at hx
      exact (Option.some.inj hx).symm
    · refine any_take_eq_false_iff.2 fun j y hj hy => Bool.eq_false_iff.2 fun hremnant => ?_
      exact absurd hx' (by simp [hwhole j i y x hj hy hremnant hx])
    · obtain ⟨y, hy⟩ := List.length_eq_one_iff.1 hplates
      obtain ⟨hmem, hisPlate⟩ := List.mem_filter.1 (hy ▸ List.mem_singleton_self y)
      obtain ⟨j, hj⟩ := List.mem_iff_getElem?.1 hmem
      have hjlt : j < steps.length := (List.getElem?_eq_some_iff.1 hj).1
      refine any_take_iff.2 ⟨j, y, ?_, hj, hisPlate⟩
      refine Decidable.byContradiction fun hnot => ?_
      rw [show j = steps.length - 1 by omega, hfinish] at hj
      cases hj
      cases hisPlate

end Rules

/-- Settles O38. -/
theorem commitAcceptsTheProgramRules : Obligations.CommitAcceptsTheProgramRules := by
  unfold Obligations.CommitAcceptsTheProgramRules
  intro s ps hne
  refine ⟨fun steps => ?_, fun i reason h => ?_⟩
  · rw [commitWalk_eq_ok_iff]
    constructor
    · rintro ⟨xs, rfl, hsteps, hall⟩
      rw [List.nil_append] at hsteps
      subst hsteps
      have hne' : steps ≠ [] := fun h => hne (by rw [h]; rfl)
      exact ⟨rfl, (rules_iff s hne').1 ((rulesAt_iff s steps).1 hall)⟩
    · rintro ⟨rfl, hrules⟩
      have hsteps : steps ≠ [] := fun h => hne (by rw [h]; rfl)
      exact ⟨steps, rfl, rfl, (rulesAt_iff s steps).2 ((rules_iff s hsteps).2 hrules)⟩
  · obtain ⟨xs, p, rest, rfl, rfl, hfails, hpassed⟩ := commitWalk_eq_error h
    have hlen : ([] : List NestStep).length + xs.length = (xs.map some).length := by simp
    rw [List.nil_append] at hfails
    refine ⟨xs, p, by rw [hlen, List.take_left], by simp, by rw [hlen]; simp, ?_, fun j hj => ?_⟩
    · have hlast : decide (([] : List NestStep).length + xs.length + 1 = (xs.map some ++ p :: rest).length) = rest.isEmpty := by
        cases rest <;> simp
      rwa [hlast]
    · rw [List.length_nil, Nat.zero_add] at hj
      obtain ⟨x, hx⟩ : ∃ x, xs[j]? = some x := ⟨xs[j], List.getElem?_eq_getElem hj⟩
      have hmore : decide (j + 1 = (xs.map some ++ p :: rest).length) = false := by simp; omega
      refine ⟨some x, by rw [List.getElem?_append_left (by simpa using hj), List.getElem?_map, hx]; rfl, ?_⟩
      rw [hmore]
      exact hpassed j x hx

end Sys2Proof.Machine

/-! PROG_COMMIT and PROG_START (R57 to R59), and the start of a program in front of a WAIT_FLAG step (R58, R138). -/

namespace Sys2Proof.Machine

/-! ## Changes that no beacon sees -/

/-- The conditions that beacons follow see of a table whether it is HALTED and its wear state, and of a crane whether it is
BUSY (Table 11-7). -/
theorem sources_of_unlit {s u : State} (hmap : u.stock.map = s.stock.map) (hguards : u.guards = s.guards)
    (hhall : u.hall = s.hall)
    (htabs : ∀ k, ((u.tab k).state = .halted ↔ (s.tab k).state = .halted) ∧ (u.tab k).wear.state = (s.tab k).wear.state)
    (hcranes : ∀ c, (u.crane c).state = .busy ↔ (s.crane c).state = .busy) : u.sourceHolds = s.sourceHolds := by
  have hkind : u.kindOf = s.kindOf := by funext z; rw [State.kindOf, hmap]; rfl
  have hzone : u.tableZone = s.tableZone := by funext k; rw [State.tableZone, hkind]; rfl
  have hguard : u.guard = s.guard := by funext z; rw [State.guard, hguards]; rfl
  funext b
  cases b <;> simp only [State.sourceHolds, hzone, hguard, hhall, (htabs _).1, (htabs _).2, hcranes]

theorem followBeacons_of_sources {s u : State} (hfollow : s.followBeacons = s) (hsources : u.sourceHolds = s.sourceHolds)
    (hhall : u.hall = s.hall) (hnow : u.now = s.now) : u.followBeacons = u := by
  rw [followBeacons_eq_iff] at hfollow ⊢
  intro n
  have hbeacon : u.beacon = s.beacon := by funext n; rw [State.beacon, hhall]; rfl
  rw [hbeacon, hsources, hnow]
  exact hfollow n

/-- A handling of one table and one flag that leaves the table HALTED or not, and its wear state, as they were, changes no
beacon. -/
theorem followBeacons_midway {s : State} (hset : s.settled) {f : FlagId} {t : TableId} {q : FlagRec} {r : TableRec}
    {alloc : Allocator} {host : HostLine} (hhalted : r.state = .halted ↔ (s.tab t).state = .halted)
    (hwear : r.wear.state = (s.tab t).wear.state) :
    (s.midway f t q r s.stock alloc host).followBeacons = s.midway f t q r s.stock alloc host := by
  refine followBeacons_of_sources hset.2.2 (sources_of_unlit rfl rfl rfl (fun k => ?_) (fun _ => Iff.rfl)) rfl rfl
  by_cases hk : k = t
  · subst hk
    rw [midway_tab]
    exact ⟨hhalted, hwear⟩
  · rw [midway_tab_of_ne _ _ _ _ _ _ _ _ hk]
    exact ⟨Iff.rfl, rfl⟩

/-! ## The start of a WAIT_FLAG step from another state -/

/-- A step WAIT_FLAG on a CLEAR flag takes a table from another state to FLAG_WAIT, with its report. -/
theorem midway_stepStart_enter {s : State} {f : FlagId} {t : TableId} {q : FlagRec} {r : TableRec} {stock : StockTable}
    {alloc : Allocator} {host : HostLine} {a : Active} (h : r.active = some a)
    (hstep : a.steps[a.index]? = some (.waitFlag f.val)) (hclear : q.value = false) (hstate : r.state ≠ .flagWait)
    (ts : List Task) :
    ((s.midway f t q r stock alloc host).push (.stepStart t :: ts)).comesTo 1
      ((s.midway f t { q with waiters := q.waiters ++ [t] } { r with state := .flagWait, cause := none } stock alloc
        (host.report (.tableState t .flagWait (some a.index) none a.loaded))).push ts) := by
  refine comesTo_push (s := s.midway f t q r stock alloc host) _ ts ?_
  have htab (p : FlagRec) (r : TableRec) : ((s.midway f t p r stock alloc host).push ts).tab t = r :=
    midway_tab s f t p r stock alloc host
  have hflag : ((s.midway f t q r stock alloc host).push ts).flag f = q := midway_flag s f t q r stock alloc host
  have hpush (p : FlagRec) : ((s.midway f t q r stock alloc host).push ts).setFlagRec f p
      = (s.midway f t p r stock alloc host).push ts :=
    congrArg (fun u => State.push u ts) (midway_setFlagRec s f t q r stock alloc host p)
  have hmod (p : FlagRec) (g : TableRec → TableRec) : ((s.midway f t p r stock alloc host).push ts).modTab t g
      = (s.midway f t p (g r) stock alloc host).push ts :=
    congrArg (fun u => State.push u ts) (midway_modTab s f t p r stock alloc host g)
  show runStepStart t _ = _
  rw [runStepStart_of_wait (by rw [htab, TableRec.step_of_active h, hstep]) (by rw [hflag, hclear]), hflag, hpush,
    enter_of_other (by rw [htab]; exact hstate), hmod, tableReport_of_tab (htab _ _), h]
  rfl

/-- A handling that has changed the table and the host line alone. -/
theorem midway_of_tab {s : State} (f : FlagId) (t : TableId) (r : TableRec) (host : HostLine) :
    s.midway f t (s.flag f) r s.stock s.alloc host = (s.modTab t (fun _ => r)).setHost host := by
  have h : s.setFlagRec f (s.flag f) = s := by simp [State.setFlagRec, State.flag, Vector.get]
  rw [State.midway, h]
  rfl

/-! ## Activation (R58) -/

/-- A READY program whose first step is WAIT_FLAG on a CLEAR flag leaves an IDLE table in FLAG_WAIT. -/
theorem settle_activate_wait {s : State} (hset : s.settled) {t : TableId} {f : FlagId} {steps : List NestStep}
    (hstate : (s.tab t).state = .idle) (hfirst : steps[0]? = some (.waitFlag f.val)) (hclear : (s.flag f).value = false)
    (b : Accept) :
    (((s.setStaged t (.ready steps)).activate t).accept b).settle
      = s.midway f t { s.flag f with waiters := (s.flag f).waiters ++ [t] }
        { s.tab t with
          active := some { steps := steps, index := 0, loaded := none, remnantRan := false }, staged := .empty,
          swap := false, state := .flagWait, cause := none }
        s.stock s.alloc { s.host.report (.tableState t .flagWait (some 0) none none) with hand := .ready (.accept b) } := by
  have hstaged : ((s.setStaged t (.ready steps)).tab t).staged = .ready steps :=
    congrArg TableRec.staged (State.tab_modTab_same s t (fun r => { r with staged := .ready steps }))
  have hmod : (s.setStaged t (.ready steps)).modTab t (fun r => { r with
      active := some { steps := steps, index := 0, loaded := none, remnantRan := false }, staged := .empty, swap := false })
      = s.modTab t (fun _ => s.swapped t steps) := State.modTab_modTab s t _ _
  have hmid : ((s.setStaged t (.ready steps)).activate t).accept b
      = (s.midway f t (s.flag f) (s.swapped t steps) s.stock s.alloc { s.host with hand := .ready (.accept b) }).push [.stepStart t] := by
    rw [State.activate, hstaged]
    dsimp only
    rw [hmod, midway_of_tab]
    rfl
  have hcomes := midway_stepStart_enter (s := s) (f := f) (t := t) (q := s.flag f) (r := s.swapped t steps) (stock := s.stock)
    (alloc := s.alloc) (host := { s.host with hand := .ready (.accept b) }) rfl hfirst hclear
    (fun h => nomatch hstate.symm.trans h) []
  rw [State.push_nil] at hcomes
  rw [hmid, settle_of_midway hcomes (by decide) hset.1, StockTable.counted_of_clean hset.2.1]
  have hhalted : TableState.flagWait = .halted ↔ (s.tab t).state = .halted := by
    rw [hstate]
    decide
  rw [followBeacons_midway (r := { s.swapped t steps with state := .flagWait, cause := none }) hset hhalted rfl, HostLine.report_hand]
  rfl

/-! ## PROG_COMMIT (R57) -/

section Programs

variable {s : State} {t : TableId} (hset : s.settled) (hfit : (s.tab t).state ≠ .absent) (hmode : s.hall.mode ≠ .setup)
include hfit hmode

theorem exec_progCommit_of_running (htakes : s.takes (.progCommit (t.val + 1))) :
    exec (.progCommit (t.val + 1)) s = .next (State.settle (match (s.tab t).staged with
      | .loading ps =>
        match s.commitWalk [] ps with
        | .ok steps => s.committed t steps
        | .error (i, reason) => s.setHand (.ready (.refuse .programInvalid (.program i reason)))
      | _ => s.refuse .badState)) := by
  rw [exec_progCommit, execProgCommit, request_of_takes _ _ _ htakes]
  exact congrArg (fun u => Host.Outcome.next (State.settle u)) (withProgram_of_running hfit hmode)

theorem exec_progCommit_of_ok (htakes : s.takes (.progCommit (t.val + 1))) {ps : List (Option NestStep)}
    {steps : List NestStep} (hstaged : (s.tab t).staged = .loading ps) (hwalk : s.commitWalk [] ps = .ok steps) :
    exec (.progCommit (t.val + 1)) s = .next (s.committed t steps).settle := by
  rw [exec_progCommit_of_running hfit hmode htakes, hstaged]
  dsimp only
  rw [hwalk]

theorem exec_progStart_of_running (htakes : s.takes (.progStart (t.val + 1))) :
    exec (.progStart (t.val + 1)) s = .next (State.settle (match (s.tab t).staged with
      | .ready _ =>
        if (s.tab t).state ≠ .idle then s.refuse .badState
        else if s.hall.stop then s.refuse .stopAsserted
        else if (s.tab t).killAwaited then s.refuse .busy
        else (s.activate t).accept .none
      | _ => s.refuse .badState)) := by
  rw [exec_progStart, execProgStart, request_of_takes _ _ _ htakes]
  exact congrArg (fun u => Host.Outcome.next (State.settle u)) (withProgram_of_running hfit hmode)

include hset

theorem exec_progCommit_of_not_loading (htakes : s.takes (.progCommit (t.val + 1)))
    (h : ∀ ps, (s.tab t).staged ≠ .loading ps) : exec (.progCommit (t.val + 1)) s = .next (s.refuse .badState) := by
  rw [exec_progCommit_of_running hfit hmode htakes]
  split
  next ps hps => exact absurd hps (h ps)
  · rw [settle_refuse s hset]

theorem exec_progCommit_of_error (htakes : s.takes (.progCommit (t.val + 1))) {ps : List (Option NestStep)} {i : Nat}
    {reason : CommitReason} (hstaged : (s.tab t).staged = .loading ps) (hwalk : s.commitWalk [] ps = .error (i, reason)) :
    exec (.progCommit (t.val + 1)) s = .next (s.setHand (.ready (.refuse .programInvalid (.program i reason)))) := by
  rw [exec_progCommit_of_running hfit hmode htakes, hstaged]
  dsimp only
  rw [hwalk]
  exact congrArg _ (settle_setHand s hset _)

theorem exec_progCommit_of_pending (htakes : s.takes (.progCommit (t.val + 1))) {ps : List (Option NestStep)}
    {steps : List NestStep} (hstaged : (s.tab t).staged = .loading ps) (hwalk : s.commitWalk [] ps = .ok steps)
    (hactive : (s.tab t).active ≠ none) : exec (.progCommit (t.val + 1)) s = .next
      ((s.modTab t (fun r => { r with staged := .ready steps, swap := true })).accept (.commit .pending)) := by
  have hmod : (s.setStaged t (.ready steps)).modTab t (fun r => { r with swap := true })
      = s.modTab t (fun r => { r with staged := .ready steps, swap := true }) := State.modTab_modTab s t _ _
  rw [exec_progCommit_of_ok hfit hmode htakes hstaged hwalk, State.committed,
    if_pos (Option.isSome_iff_ne_none.2 hactive), hmod]
  exact congrArg _ (Quiet.settle (by simp) hset)

theorem exec_progCommit_of_heldReady (htakes : s.takes (.progCommit (t.val + 1))) {ps : List (Option NestStep)}
    {steps : List NestStep} (hstaged : (s.tab t).staged = .loading ps) (hwalk : s.commitWalk [] ps = .ok steps)
    (hactive : (s.tab t).active = none)
    (hheld : (s.tab t).state ≠ .idle ∨ (s.tab t).killAwaited = true ∨ s.hall.stop = true) :
    exec (.progCommit (t.val + 1)) s = .next
      ((s.modTab t (fun r => { r with staged := .ready steps })).accept (.commit .heldReady)) := by
  have hnot : ¬((s.tab t).state = .idle ∧ !(s.tab t).killAwaited ∧ !(s.setStaged t (.ready steps)).hall.stop) := by
    rintro ⟨hidle, hkill, hstop⟩
    obtain h | h | h := hheld
    · exact h hidle
    · simp [h] at hkill
    · exact absurd hstop (by simp [show (s.setStaged t (.ready steps)).hall.stop = true from h])
  rw [exec_progCommit_of_ok hfit hmode htakes hstaged hwalk, State.committed, if_neg (by simp [hactive]), if_neg hnot]
  exact congrArg _ (Quiet.settle (by simp) hset)

end Programs

theorem setStaged_self {s : State} {t : TableId} {g : Staged} (h : (s.tab t).staged = g) : s.setStaged t g = s := by
  subst h
  exact State.modTab_self s t

/-- Settles O39. -/
theorem programsStart : Obligations.ProgramsStart := by
  intro s t hset hfit hmode
  refine ⟨fun htakes => ⟨exec_progCommit_of_not_loading hset hfit hmode htakes, fun ps hstaged =>
      ⟨fun i reason => exec_progCommit_of_error hset hfit hmode htakes hstaged, fun steps hwalk =>
        ⟨exec_progCommit_of_pending hset hfit hmode htakes hstaged hwalk,
          exec_progCommit_of_heldReady hset hfit hmode htakes hstaged hwalk⟩⟩⟩,
    fun htakes => ⟨fun hready => ?_, fun steps hstaged => ⟨fun hstate => ?_, fun hstate hstop => ?_,
      fun hstate hstop hkill => ?_⟩⟩,
    fun i b steps f htakes hi hstate hstop hkill hfirst hclear => ⟨_, ?_, midway_tab .., fun k hk => midway_tab_of_ne _ _ _ _ _ _ _ _ hk,
      midway_flag .., fun g hg => midway_flag_of_ne _ _ _ _ _ _ _ _ hg, rfl, rfl, rfl, rfl, rfl, rfl, rfl, rfl, rfl⟩⟩
  · rw [exec_progStart_of_running hfit hmode htakes]
    split
    next steps hsteps => exact absurd hsteps (hready steps)
    · rw [settle_refuse s hset]
  · rw [exec_progStart_of_running hfit hmode htakes, hstaged]
    simp only [hstate, ne_eq, not_false_eq_true, if_true, settle_refuse s hset]
  · rw [exec_progStart_of_running hfit hmode htakes, hstaged]
    simp only [hstate, ne_eq, not_true_eq_false, if_false, hstop, if_true, settle_refuse s hset]
  · rw [exec_progStart_of_running hfit hmode htakes, hstaged]
    simp only [hstate, ne_eq, not_true_eq_false, if_false, hstop, Bool.false_eq_true, hkill, if_true, settle_refuse s hset]
  · refine Eq.trans ?_ (congrArg Host.Outcome.next (settle_activate_wait hset hstate hfirst hclear b))
    obtain ⟨rfl, rfl, hactive, ps, hstaged, hwalk⟩ | ⟨rfl, rfl, hstaged⟩ := hi
    · have hidle : (s.tab t).state = .idle ∧ !(s.tab t).killAwaited ∧ !(s.setStaged t (.ready steps)).hall.stop :=
        ⟨hstate, by simp [hkill], by simp [show (s.setStaged t (.ready steps)).hall.stop = false from hstop]⟩
      rw [exec_progCommit_of_ok hfit hmode htakes hstaged hwalk, State.committed, if_neg (by simp [hactive]), if_pos hidle]
    · rw [exec_progStart_of_running hfit hmode htakes, hstaged]
      simp only [hstate, ne_eq, not_true_eq_false, if_false, hstop, Bool.false_eq_true, hkill, setStaged_self hstaged]

end Sys2Proof.Machine

/-! PROG_ABORT (R62, R89 to R91) and TABLE_RESUME (R87, R88). -/

namespace Sys2Proof.Machine

theorem exec_tableResume (k mode : Nat) (s : State) : exec (.tableResume k mode) s = execTableResume k mode s := by rfl

/-! ## PROG_ABORT -/

section Abort

variable {s : State} {t : TableId}

/-- A claim that an abort has nothing to settle of: neither a reservation nor a plate move (R91). -/
def Claim.unloaded (c : Claim) : Prop := c = Claim.none ∨ ∃ id st, c = .move id Option.none st

theorem returnReservation_of_unloaded (h : (s.tab t).claim.unloaded) : s.returnReservation t = s := by
  rw [State.returnReservation]
  obtain h | ⟨id, st, h⟩ := h <;> rw [h]

theorem runAbortEnd_of_unloaded (h : (s.tab t).claim.unloaded) :
    runAbortEnd t s = (s.modTab t TableRec.emptied).enter t .idle := by
  rw [runAbortEnd, returnReservation_of_unloaded h]
  obtain h | ⟨id, st, h⟩ := h <;> rw [h]

/-- The flags once a table that is taken out of a wait has left the waiters (R90). -/
def State.leftFlags (s : State) (t : TableId) : State := if (s.tab t).state = .flagWait then s.dropWaiter t else s

@[simp] theorem leftFlags_tab (s : State) (t k : TableId) : (s.leftFlags t).tab k = s.tab k := by
  unfold State.leftFlags
  split <;> rfl

theorem leftFlags_flag (s : State) (t : TableId) (f : FlagId) : (s.leftFlags t).flag f =
    if (s.tab t).state = .flagWait then { s.flag f with waiters := (s.flag f).waiters.filter (fun w => w ≠ t) }
    else s.flag f := by
  unfold State.leftFlags
  split
  · exact Vector.getElem_map ..
  · rfl

theorem leftFlags_push (s : State) (t : TableId) (ts : List Task) : (s.push ts).leftFlags t = (s.leftFlags t).push ts := by
  show (if (s.tab t).state = .flagWait then (s.push ts).dropWaiter t else s.push ts)
    = (if (s.tab t).state = .flagWait then s.dropWaiter t else s).push ts
  split <;> rfl

theorem leftFlags_setHand (s : State) (t : TableId) (h : Hand) : (s.setHand h).leftFlags t = (s.leftFlags t).setHand h := by
  show (if (s.tab t).state = .flagWait then (s.setHand h).dropWaiter t else s.setHand h)
    = (if (s.tab t).state = .flagWait then s.dropWaiter t else s).setHand h
  split <;> rfl

/-- What leaving the waiters changes is the flags alone. -/
theorem leftFlags_eq (s : State) (t : TableId) : s.leftFlags t = { s with flags := (s.leftFlags t).flags } := by
  unfold State.leftFlags
  split <;> rfl

theorem runTakeOff_of_waiting (h : (s.tab t).state = .halted ∨ (s.tab t).state = .bedWait ∨ (s.tab t).state = .flagWait) :
    runTakeOff t s = (s.leftFlags t).clearContour t := by
  rw [runTakeOff, State.leftFlags]
  obtain h | h | h := h <;> rw [h] <;> rfl

/-- A table at rest with its program, the waiters, the claim and the program taken away. -/
theorem comesTo_abort (hstate : (s.tab t).state = .halted ∨ (s.tab t).state = .bedWait ∨ (s.tab t).state = .flagWait)
    (hclaim : (s.tab t).claim.unloaded) :
    (s.push [.takeOff t, .abortEnd t]).comesTo 2
      (((s.leftFlags t).modTab t (fun r => { r.emptied with state := .idle, cause := none })).raise
        (.tableState t .idle none none none)) := by
  have htake : runTask (.takeOff t) (s.push [.abortEnd t]) = ((s.leftFlags t).clearContour t).push [.abortEnd t] := by
    exact (runTakeOff_of_waiting (s := s.push [.abortEnd t]) hstate).trans
      (congrArg (fun u => State.clearContour u t) (leftFlags_push s t _))
  have htab : ((s.leftFlags t).clearContour t).tab t = { s.tab t with contour := none, timer := none } := by
    rw [State.clearContour, State.tab_modTab_same, leftFlags_tab]
  have hne : (((s.leftFlags t).clearContour t).modTab t TableRec.emptied |>.tab t).state ≠ .idle := by
    rw [State.tab_modTab_same, htab]
    obtain h | h | h := hstate <;> simp [TableRec.emptied, h]
  have hmod : ((((s.leftFlags t).clearContour t).modTab t TableRec.emptied).modTab t
      (fun r => { r with state := .idle, cause := none }))
      = (s.leftFlags t).modTab t (fun r => { r.emptied with state := .idle, cause := none }) := by
    rw [State.clearContour, State.modTab_modTab, State.modTab_modTab]
    rfl
  have hend : runTask (.abortEnd t) ((s.leftFlags t).clearContour t)
      = ((s.leftFlags t).modTab t (fun r => { r.emptied with state := .idle, cause := none })).raise
        (.tableState t .idle none none none) := by
    show runAbortEnd t _ = _
    rw [runAbortEnd_of_unloaded (by rw [htab]; exact hclaim), enter_of_other hne, hmod,
      tableReport_of_tab (State.tab_modTab_same (s.leftFlags t) t (fun r => { r.emptied with state := .idle, cause := none }))]
    rfl
  exact (comesTo_push _ [.abortEnd t] htake).trans (comesTo_push _ [] hend)

theorem exec_progAbort_of_running (hfit : (s.tab t).state ≠ .absent) (hmode : s.hall.mode ≠ .setup)
    (htakes : s.takes (.progAbort (t.val + 1))) :
    exec (.progAbort (t.val + 1)) s = .next (State.settle (
      if (s.tab t).active.isNone then s.refuse .badState
      else if (s.tab t).state = .offline then s.refuse .badState
      else if (s.tab t).killAwaited then s.refuse .busy
      else (s.accept (.tableWas (s.tab t).state)).push [.takeOff t, .abortEnd t])) := by
  rw [exec_progAbort, execProgAbort, request_of_takes _ _ _ htakes]
  exact congrArg (fun u => Host.Outcome.next (State.settle u)) (withProgram_of_running hfit hmode)

end Abort

/-! ## TABLE_RESUME -/

section Resume

variable {s : State}

theorem exec_tableResume_of_range (hset : s.settled) {k mode : Nat} (htakes : s.takes (.tableResume k mode))
    (h : k < 1 ∨ 4 < k ∨ 1 < mode) : exec (.tableResume k mode) s = .next (s.refuse .range) := by
  rw [exec_tableResume, execTableResume, request_of_takes _ _ _ htakes]
  cases hk : numbered 4 1 k with
  | none => exact congrArg _ (settle_refuse s hset _)
  | some t =>
    have hmode : 1 < mode := by
      obtain ⟨_, _⟩ := numbered_eq_some_iff.1 hk
      omega
    dsimp only
    rw [if_pos hmode, settle_refuse s hset]

variable {t : TableId} {mode : Nat} (hmode : mode ≤ 1)
include hmode

theorem exec_tableResume_of_table (htakes : s.takes (.tableResume (t.val + 1) mode)) :
    exec (.tableResume (t.val + 1) mode) s = .next (State.settle (
      if (s.tab t).state = .absent then s.refuse .unitAbsent
      else if s.hall.mode = .setup then s.refuse .badState
      else if (s.tab t).state ≠ .halted then s.refuse .badState
      else if s.hall.stop then s.refuse .stopAsserted
      else if (s.tab t).killAwaited then s.refuse .busy
      else if mode = 1 ∧ (s.tab t).atPlate then s.refuse .badState
      else s.resume t (decide (mode = 1)))) := by
  rw [exec_tableResume, execTableResume, request_of_takes _ _ _ htakes, numbered_val_add_one]
  dsimp only
  rw [if_neg (Nat.not_lt.2 hmode)]

/-- The claim that SKIP leaves: a MOVE step's is cleared (R88). -/
def resumedClaim (mode : Nat) (x : NestStep) (c : Claim) : Claim :=
  match mode, x with
  | 1, .move .. => .none
  | _, _ => c

/-- A halted step taken up again, at the point where the next one starts. -/
theorem comesTo_resume {a : Active} {x : NestStep} (hactive : (s.tab t).active = some a) (hstep : a.steps[a.index]? = some x)
    (f : FlagId) : ∃ k, k ≤ 1 ∧ (s.resume t (decide (mode = 1))).comesTo k
      ((s.midway f t (s.flag f) { s.tab t with
          cause := none, active := some { a with index := a.index + mode },
          claim := resumedClaim mode x (s.tab t).claim } s.stock s.alloc s.host).push [.stepStart t, .replyResumed t]) := by
  have hstep' : (s.tab t).step = some x := (TableRec.step_of_active hactive).trans hstep
  obtain rfl | rfl : mode = 0 ∨ mode = 1 := by omega
  · refine ⟨0, by decide, ?_⟩
    have hrec : ({ s.tab t with
        cause := none, active := some { a with index := a.index + 0 },
        claim := resumedClaim 0 x (s.tab t).claim } : TableRec) = { s.tab t with cause := none } := by
      rw [show ({ a with index := a.index + 0 } : Active) = a from rfl, ← hactive]
      rfl
    rw [hrec, midway_of_tab]
    exact State.comesTo_refl _
  · refine ⟨1, by decide, ?_⟩
    have hresume : s.resume t (decide (1 = 1)) = (s.midway f t (s.flag f) { s.tab t with
        cause := none, claim := resumedClaim 1 x (s.tab t).claim } s.stock s.alloc s.host).push
          [.stepEnd t, .replyResumed t] := by
      have htab : ((s.modTab t (fun r => { r with cause := none })).tab t).step = some x := by
        rw [State.tab_modTab_same]
        exact hstep'
      rw [midway_of_tab, State.resume]
      simp only [decide_true, if_true, htab]
      cases x <;> try rfl
      show ((s.modTab t (fun r => { r with cause := none })).modTab t _).push _ = _
      rw [State.modTab_modTab]
      rfl
    rw [hresume]
    exact midway_stepEnd (s := s) (f := f) (t := t) (q := s.flag f) (r := { s.tab t with
        cause := none, claim := resumedClaim 1 x (s.tab t).claim }) (stock := s.stock) (alloc := s.alloc) (host := s.host)
      hactive [.replyResumed t]

end Resume

/-- The reply to TABLE_RESUME names the state that the table has come to. -/
theorem midway_replyResumed {s : State} {t : TableId} {f : FlagId} {q : FlagRec} {r : TableRec} {stock : StockTable} {alloc : Allocator}
    {host : HostLine} : ((s.midway f t q r stock alloc host).push [.replyResumed t]).comesTo 1
      (s.midway f t q r stock alloc { host with hand := .ready (.accept (.resumed r.state)) }) := by
  refine comesTo_push (s := s.midway f t q r stock alloc host) _ [] ?_
  show runReplyResumed t (s.midway f t q r stock alloc host) = _
  rw [runReplyResumed, midway_tab]
  rfl

/-- The table of an accepted TABLE_RESUME, waiting for its flag. -/
def State.resumed (s : State) (t : TableId) (mode : Nat) (a : Active) (x : NestStep) : TableRec :=
  { s.tab t with
    state := .flagWait, cause := none, active := some { a with index := a.index + mode },
    claim := resumedClaim mode x (s.tab t).claim }

/-- An accepted TABLE_RESUME in front of a WAIT_FLAG step on a CLEAR flag. -/
theorem settle_resume_wait {s : State} {t : TableId} {mode : Nat} {a : Active} {x : NestStep} {f : FlagId} (hmode : mode ≤ 1)
    (hset : s.settled) (hhalted : (s.tab t).state = .halted) (hactive : (s.tab t).active = some a)
    (hstep : a.steps[a.index]? = some x) (hnext : a.steps[a.index + mode]? = some (.waitFlag f.val))
    (hclear : (s.flag f).value = false) :
    (s.resume t (decide (mode = 1))).settle = (s.midway f t { s.flag f with waiters := (s.flag f).waiters ++ [t] }
      (s.resumed t mode a x) s.stock s.alloc
      { s.host.report (.tableState t .flagWait (some (a.index + mode)) none a.loaded) with
        hand := .ready (.accept (.resumed .flagWait)) }).followBeacons := by
  obtain ⟨k, hk, hresume⟩ := comesTo_resume hmode hactive hstep f
  have hwaits := midway_stepStart_enter (s := s) (f := f) (t := t) (q := s.flag f) (r := { s.tab t with
    cause := none, active := some { a with index := a.index + mode },
    claim := resumedClaim mode x (s.tab t).claim }) (stock := s.stock) (alloc := s.alloc) (host := s.host) rfl hnext hclear
    (fun h => nomatch hhalted.symm.trans h) [.replyResumed t]
  have hreply := midway_replyResumed (s := s) (t := t) (f := f)
    (q := { s.flag f with waiters := (s.flag f).waiters ++ [t] }) (r := s.resumed t mode a x) (stock := s.stock)
    (alloc := s.alloc) (host := s.host.report (.tableState t .flagWait (some (a.index + mode)) none a.loaded))
  have hend := settle_of_midway ((hresume.trans hwaits).trans hreply)
    (Nat.le_trans (show 1 + (1 + k) ≤ 3 by omega) (by decide)) hset.1
  rwa [StockTable.counted_of_clean hset.2.1] at hend

/-- Settles O41. -/
theorem programsAreAbortedOrResumed : Obligations.ProgramsAreAbortedOrResumed := by
  refine ⟨fun s t htakes hset hfit hmode => ?_, fun s k mode htakes hset => ⟨exec_tableResume_of_range hset htakes, ?_⟩⟩
  · rw [exec_progAbort_of_running hfit hmode htakes]
    refine ⟨fun hnone => ?_, fun hactive hoff => ?_, fun hactive hon hkill => ?_, fun hactive hkill hstate hclaim => ?_⟩
    · simp only [hnone, Option.isNone_none, if_true, settle_refuse s hset]
    · simp only [Option.isNone_eq_false_iff.2 (Option.isSome_iff_ne_none.2 hactive), Bool.false_eq_true, if_false, hoff,
        if_true, settle_refuse s hset]
    · simp only [Option.isNone_eq_false_iff.2 (Option.isSome_iff_ne_none.2 hactive), Bool.false_eq_true, if_false, hon,
        hkill, if_true, settle_refuse s hset]
    · have hon : (s.tab t).state ≠ .offline := by obtain h | h | h := hstate <;> simp [h]
      have hcomes := comesTo_abort (s := s.accept (.tableWas (s.tab t).state)) hstate hclaim
      rw [if_neg (by simpa using hactive), if_neg hon, if_neg (Bool.eq_false_iff.1 hkill)]
      have hleft : (s.accept (.tableWas (s.tab t).state)).leftFlags t
          = (s.leftFlags t).accept (.tableWas (s.tab t).state) := leftFlags_setHand s t _
      rw [hleft, leftFlags_eq] at hcomes
      refine ⟨_, congrArg _ (settle_of_comesTo_clean hcomes (by decide) hset.1 hset.2.1), ?_, fun k hk => ?_, fun f => ?_, ?_,
        rfl, rfl, rfl, rfl, rfl, rfl, rfl, rfl⟩
      · exact State.tab_modTab_same s t (fun r => { r.emptied with state := .idle, cause := none })
      · exact State.tab_modTab_of_ne s (fun r => { r.emptied with state := .idle, cause := none }) hk
      · exact leftFlags_flag s t f
      · exact HostLine.report_hand _ _ _
  · rintro t rfl hmode
    rw [exec_tableResume_of_table hmode htakes]
    refine ⟨fun habsent => ?_, fun hfit hbad => ?_, fun hsetup hhalted => ⟨fun hstop => ?_, fun hstop hkill => ?_,
      fun hstop hkill a x hactive hstep => ⟨fun hskip hplate => ?_, fun hplate f hnext hclear => ?_⟩⟩⟩
    · rw [if_pos habsent, settle_refuse s hset]
    · rw [if_neg hfit]
      by_cases hmode : s.hall.mode = .setup
      · rw [if_pos hmode, settle_refuse s hset]
      · rw [if_neg hmode, if_pos (hbad.resolve_left hmode), settle_refuse s hset]
    · simp [hsetup, hhalted, hstop, settle_refuse s hset]
    · simp [hsetup, hhalted, hstop, hkill, settle_refuse s hset]
    · have hat : (s.tab t).atPlate = true := by
        rw [TableRec.atPlate, TableRec.step_of_active hactive, hstep]
        exact hplate
      simp [hsetup, hhalted, hstop, hkill, hskip, hat, settle_refuse s hset]
    · have hat : ¬(mode = 1 ∧ (s.tab t).atPlate = true) := by
        rintro ⟨hskip, hat⟩
        rw [TableRec.atPlate, TableRec.step_of_active hactive, hstep] at hat
        exact absurd hat (by simp [hplate hskip])
      have hgoes : (if (s.tab t).state = .absent then s.refuse .unitAbsent
          else if s.hall.mode = .setup then s.refuse .badState
          else if (s.tab t).state ≠ .halted then s.refuse .badState
          else if s.hall.stop then s.refuse .stopAsserted
          else if (s.tab t).killAwaited then s.refuse .busy
          else if mode = 1 ∧ (s.tab t).atPlate then s.refuse .badState
          else s.resume t (decide (mode = 1))) = s.resume t (decide (mode = 1)) := by
        simp only [hhalted, reduceCtorEq, if_false, hsetup, ne_eq, not_true_eq_false, hstop, Bool.false_eq_true, hkill, if_neg hat]
      rw [hgoes, settle_resume_wait hmode hset hhalted hactive hstep hnext hclear]
      obtain ⟨htabs, hflags, hguards, hmoves, hcomposer, hline, hnow, -⟩ := midway_framed (s := s) (f := f) (t := t)
        (q := { s.flag f with waiters := (s.flag f).waiters ++ [t] }) (r := s.resumed t mode a x) (stock := s.stock)
        (alloc := s.alloc) (host := { s.host.report (.tableState t .flagWait (some (a.index + mode)) none a.loaded) with
          hand := .ready (.accept (.resumed .flagWait)) }) s.hall.fault
      refine ⟨_, rfl, ?_, htabs, ?_, hflags, rfl, rfl, rfl, rfl, hcomposer, hguards, hmoves, hline, hnow⟩
      · rw [followBeacons_tab, midway_tab]
        rfl
      · rw [followBeacons_flag, midway_flag]

end Sys2Proof.Machine

/-! The wear of the consumables (R96, R99 to R108). -/

namespace Sys2Proof.Machine

theorem exec_tableConfig (k : Nat) (p : TableParams) (s : State) : exec (.tableConfig k p) s = execTableConfig k p s := by rfl

theorem exec_wearReset (k : Nat) (s : State) : exec (.wearReset k) s = execWearReset k s := by rfl

theorem exec_wearQuery (k : Nat) (s : State) : exec (.wearQuery k) s = execWearQuery k s := by rfl

/-! ## The wear state of a count (R101) -/

section WearStateOf

variable (count limit : Nat)

theorem wearStateOf_eq_due_iff : wearStateOf count limit = .due ↔ limit ≤ count := by
  unfold wearStateOf
  (repeat' split) <;> simp [*]

theorem wearStateOf_eq_warn_iff : wearStateOf count limit = .warn ↔ count < limit ∧ limit * 7 / 8 ≤ count := by
  unfold wearStateOf warnThreshold
  (repeat' split) <;> simp <;> omega

theorem wearStateOf_eq_ok_iff : wearStateOf count limit = .ok ↔ count < limit ∧ count < limit * 7 / 8 := by
  unfold wearStateOf warnThreshold
  (repeat' split) <;> simp <;> omega

end WearStateOf

/-- The pierce cost counts the hundreds of the thickness, a part of one like a whole one (R103). -/
theorem pierceCost_of_hundreds {p k thick : Nat} (hlo : 100 * k < thick + 100) (hhi : thick ≤ 100 * k) :
    pierceCost p thick = p * (2 + 3 * k) := by
  have hk : (thick + 99) / 100 = k := by omega
  rw [pierceCost, hk]

/-! ## An evaluation (R101, R102, R105) -/

/-- The report of an evaluation that changes the wear state of a record. -/
def TableRec.wearReported (r : TableRec) (t : TableId) (cause : WearCause) : WearReport :=
  { table := t, state := wearStateOf r.wear.count r.cfg.wearLimit, count := r.wear.count, rem := r.wear.rem,
    limit := r.cfg.wearLimit, threshold := warnThreshold r.cfg.wearLimit, cause := cause }

/-- The host line after an evaluation. -/
def TableRec.wearTold (r : TableRec) (t : TableId) (cause : WearCause) (host : HostLine) : HostLine :=
  if wearStateOf r.wear.count r.cfg.wearLimit = r.wear.state then host
  else match wearStateOf r.wear.count r.cfg.wearLimit with
    | .ok => host
    | .warn => host.report (.wearWarn (r.wearReported t cause))
    | .due => host.report (.wearDue (r.wearReported t cause))

section Evaluate

variable {s : State} {t : TableId} (cause : WearCause)

theorem TableRec.evaluated_of_same {r : TableRec} (h : wearStateOf r.wear.count r.cfg.wearLimit = r.wear.state) :
    r.evaluated = r := by
  rw [TableRec.evaluated, h]

/-- The effect of an evaluation leaves the wear record alone. -/
theorem wear_wearEffect (s : State) (t : TableId) : ((s.wearEffect t).tab t).wear = (s.tab t).wear := by
  have hdrop : (s.dropArcWaiter t).tab t = s.tab t := by
    unfold State.dropArcWaiter
    split <;> rfl
  unfold State.wearEffect
  dsimp only
  split
  · split
    · unfold State.enter
      split <;> simp only [State.raise_tab, State.tab_modTab_same, hdrop]
    · rfl
  · split <;> rfl

/-- The wear state becomes what count and limit make it, and count and remainder stay. -/
theorem wear_evalWear (s : State) (t : TableId) : ((s.evalWear t cause).tab t).wear = (s.tab t).evaluated.wear := by
  unfold State.evalWear
  dsimp only
  split
  next hsame => rw [TableRec.evaluated_of_same hsame]
  · rw [wear_wearEffect]
    have hmod : ((s.modTab t (fun r => { r with wear := { r.wear with
        state := wearStateOf (s.tab t).wear.count (s.tab t).cfg.wearLimit } })).tab t).wear = (s.tab t).evaluated.wear := by
      rw [State.tab_modTab_same]
      rfl
    split <;> exact hmod

/-- A table whose arc request an evaluation does not touch, and that does not stand in DUE, is evaluated with its report,
and nothing goes on. -/
theorem evalWear_of_plain (hpierce : wearStateOf (s.tab t).wear.count (s.tab t).cfg.wearLimit = .due →
      (s.tab t).state = .pierceWait → (s.tab t).contour.any (fun c => !c.arcHeld) = false)
    (hdue : (s.tab t).state ≠ .due) :
    s.evalWear t cause = (s.modTab t TableRec.evaluated).setHost ((s.tab t).wearTold t cause s.host) := by
  have hself : wearStateOf (s.tab t).wear.count (s.tab t).cfg.wearLimit = (s.tab t).wear.state →
      s.modTab t TableRec.evaluated = s := fun hsame => by
    have h : s.modTab t TableRec.evaluated = s.modTab t (fun _ => s.tab t) := by
      rw [State.modTab, TableRec.evaluated_of_same hsame]
      rfl
    rw [h, State.modTab_self]
  have htab : (s.modTab t TableRec.evaluated).tab t = (s.tab t).evaluated := State.tab_modTab_same s t _
  have heffect (u : State) (hu : u.tab t = (s.tab t).evaluated) : u.wearEffect t = u := by
    rw [State.wearEffect, hu]
    split
    next hst =>
      have hany := hpierce hst
      rw [if_neg (fun h => absurd h.2 (by rw [show (s.tab t).evaluated.contour = (s.tab t).contour from rfl, hany h.1]; simp))]
    · rw [if_neg (fun h => hdue h.1)]
  unfold State.evalWear
  dsimp only
  split
  next hsame => rw [hself hsame, TableRec.wearTold, if_pos hsame]; rfl
  next hdiff =>
    have hmod : s.modTab t (fun r => { r with wear := { r.wear with
        state := wearStateOf (s.tab t).wear.count (s.tab t).cfg.wearLimit } }) = s.modTab t TableRec.evaluated := rfl
    have hreport : (s.modTab t TableRec.evaluated).wearReport t cause = (s.tab t).wearReported t cause := by
      rw [State.wearReport, htab]
      rfl
    rw [hmod, hreport, TableRec.wearTold, if_neg hdiff]
    cases wearStateOf (s.tab t).wear.count (s.tab t).cfg.wearLimit with
    | ok => exact heffect _ htab
    | warn => exact heffect _ htab
    | due => exact heffect _ htab

end Evaluate

/-! ## Additions (R100, R104) -/

theorem wear_addWear (s : State) (t : TableId) (n : Nat) (cause : WearCause) : ((s.addWear t n cause).tab t).wear =
    { count := min ((s.tab t).wear.count + n) 65535, rem := (s.tab t).wear.rem,
      state := wearStateOf (min ((s.tab t).wear.count + n) 65535) (s.tab t).cfg.wearLimit } := by
  rw [State.addWear, wear_evalWear, State.tab_modTab_same, TableRec.evaluated]

theorem wear_addArc (s : State) (t : TableId) (a : Nat) : ((s.addArc t a).tab t).wear =
    { count := min ((s.tab t).wear.count + ((s.tab t).wear.rem + a) / 300) 65535, rem := ((s.tab t).wear.rem + a) % 300,
      state := wearStateOf (min ((s.tab t).wear.count + ((s.tab t).wear.rem + a) / 300) 65535)
        (s.tab t).cfg.wearLimit } := by
  rw [State.addArc, wear_addWear, State.tab_modTab_same]

/-! ## The requests -/

section Requests

variable {s : State} {t : TableId} (hset : s.settled) (hfit : (s.tab t).state ≠ .absent)
include hset hfit

theorem exec_tableConfig_of_refused {p : TableParams} (htakes : s.takes (.tableConfig (t.val + 1) p))
    (h : tableParamsOk p = false) : exec (.tableConfig (t.val + 1) p) s = .next (s.refuse .range) := by
  rw [exec_tableConfig, execTableConfig, request_of_takes _ _ _ htakes, withTable_of_fitted hfit,
    if_pos (by simp [h]), settle_refuse s hset]

theorem exec_tableConfig_of_ok {p : TableParams} (htakes : s.takes (.tableConfig (t.val + 1) p)) (h : tableParamsOk p = true)
    (hlimit : p.wearLimit = none) : exec (.tableConfig (t.val + 1) p) s = .next
      ((s.modTab t (fun r => { r with cfg := (s.tab t).cfg.update p })).accept (.tableCfg ((s.tab t).cfg.update p))) := by
  rw [exec_tableConfig, execTableConfig, request_of_takes _ _ _ htakes, withTable_of_fitted hfit, if_neg (by simp [h])]
  simp only [hlimit, Option.isSome_none, Bool.false_eq_true, if_false]
  exact congrArg _ (Quiet.settle (by simp) hset)

theorem exec_tableConfig_of_limit {p : TableParams} (htakes : s.takes (.tableConfig (t.val + 1) p)) (h : tableParamsOk p = true)
    {lim : Nat} (hlimit : p.wearLimit = some lim) (hpierce : (s.tab t).state ≠ .pierceWait) (hdue : (s.tab t).state ≠ .due) :
    let r : TableRec := { s.tab t with cfg := (s.tab t).cfg.update p }
    exec (.tableConfig (t.val + 1) p) s = .next ((s.modTab t (fun _ => r.evaluated)).setHost
      { r.wearTold t .limit s.host with hand := .ready (.accept (.tableCfg ((s.tab t).cfg.update p))) }).followBeacons := by
  intro r
  let s1 : State := (s.modTab t (fun _ => r)).accept (.tableCfg ((s.tab t).cfg.update p))
  have htab : s1.tab t = r := State.tab_modTab_same s t (fun _ => r)
  have heval : s1.evalWear t .limit = (s.modTab t (fun _ => r.evaluated)).setHost
      { r.wearTold t .limit s.host with hand := .ready (.accept (.tableCfg ((s.tab t).cfg.update p))) } := by
    rw [evalWear_of_plain .limit (fun _ h => absurd (htab ▸ h : r.state = .pierceWait) hpierce)
      (by rw [htab]; exact hdue), htab]
    have hmod : (s.modTab t (fun _ => r)).modTab t TableRec.evaluated = s.modTab t (fun _ => r.evaluated) :=
      State.modTab_modTab s t _ _
    have hhost (b : Hand) : r.wearTold t .limit { s.host with hand := b } = { r.wearTold t .limit s.host with hand := b } := by
      unfold TableRec.wearTold
      split
      · rfl
      · split
        · rfl
        · exact HostLine.report_hand _ _ _
        · exact HostLine.report_hand _ _ _
    show ((s.modTab t (fun _ => r)).modTab t TableRec.evaluated).setHost (r.wearTold t .limit { s.host with hand := _ }) = _
    rw [hmod, hhost]
  rw [exec_tableConfig, execTableConfig, request_of_takes _ _ _ htakes, withTable_of_fitted hfit, if_neg (by simp [h])]
  simp only [hlimit, Option.isSome_some, if_true]
  exact congrArg _ ((congrArg State.settle heval).trans (settle_of_done _ hset.1 hset.2.1))

theorem exec_wearReset_of_held (htakes : s.takes (.wearReset (t.val + 1))) {c : Contour} (hc : (s.tab t).contour = some c)
    (hheld : c.arcHeld = true) : exec (.wearReset (t.val + 1)) s = .next (s.refuse .busy) := by
  rw [exec_wearReset, execWearReset, request_of_takes _ _ _ htakes, withTable_of_fitted hfit,
    if_pos (by simp [hc, hheld]), settle_refuse s hset]

theorem exec_wearReset_of_free (htakes : s.takes (.wearReset (t.val + 1)))
    (hfree : ∀ c, (s.tab t).contour = some c → c.arcHeld = false) (hdue : (s.tab t).state ≠ .due)
    (hlimit : 2 ≤ (s.tab t).cfg.wearLimit) : exec (.wearReset (t.val + 1)) s = .next
      ((s.modTab t (fun r => { r with wear := { count := 0, rem := 0, state := .ok } })).accept
        (.wear (s.tab t).wearView)).followBeacons := by
  let r : TableRec := { s.tab t with wear := { (s.tab t).wear with count := 0, rem := 0 } }
  let s1 : State := (s.accept (.wear (s.tab t).wearView)).modTab t (fun _ => r)
  have htab : s1.tab t = r := State.tab_modTab_same s t (fun _ => r)
  have hok : wearStateOf 0 (s.tab t).cfg.wearLimit = .ok := (wearStateOf_eq_ok_iff _ _).2 (by omega)
  have hnone : (s.tab t).contour.any Contour.arcHeld = false := by
    cases hc : (s.tab t).contour with
    | none => rfl
    | some c => exact hfree c hc
  have hevaluated : r.evaluated = { s.tab t with wear := { count := 0, rem := 0, state := .ok } } := by
    rw [TableRec.evaluated, hok]
  rw [exec_wearReset, execWearReset, request_of_takes _ _ _ htakes, withTable_of_fitted hfit]
  dsimp only
  rw [hnone, if_neg Bool.false_ne_true]
  have heval : s1.evalWear t .limit = (s.modTab t (fun r => { r with wear := { count := 0, rem := 0, state := .ok } })).accept
      (.wear (s.tab t).wearView) := by
    have htold : r.wearTold t .limit s1.host = s1.host := by
      rw [TableRec.wearTold, show wearStateOf r.wear.count r.cfg.wearLimit = .ok from hok]
      split <;> rfl
    have hnot : wearStateOf (s1.tab t).wear.count (s1.tab t).cfg.wearLimit ≠ .due := by
      rw [htab]
      exact fun h => nomatch hok.symm.trans h
    rw [evalWear_of_plain .limit (fun h => absurd h hnot) (by rw [htab]; exact hdue), htab, htold]
    have hmod : s1.modTab t TableRec.evaluated = (s.accept (.wear (s.tab t).wearView)).modTab t (fun _ => r.evaluated) :=
      State.modTab_modTab _ t _ _
    rw [hmod, hevaluated]
    rfl
  exact congrArg _ ((congrArg State.settle heval).trans (settle_of_done _ hset.1 hset.2.1))

omit hset in
theorem exec_wearQuery_of_fitted (htakes : s.takes (.wearQuery (t.val + 1))) :
    exec (.wearQuery (t.val + 1)) s = .next (s.accept (.wear (s.tab t).wearView)) := by
  rw [exec_wearQuery, execWearQuery, ask_of_takes _ _ _ htakes, withTable_of_fitted hfit]

end Requests

/-- The host line after an evaluation, by the states that raise a report (R102). -/
theorem wearTold_eq (r : TableRec) (t : TableId) (cause : WearCause) (host : HostLine) : r.wearTold t cause host =
    if wearStateOf r.wear.count r.cfg.wearLimit = .warn ∧ r.wear.state ≠ .warn
      then host.report (.wearWarn (r.wearReported t cause))
    else if wearStateOf r.wear.count r.cfg.wearLimit = .due ∧ r.wear.state ≠ .due
      then host.report (.wearDue (r.wearReported t cause))
    else host := by
  unfold TableRec.wearTold
  cases wearStateOf r.wear.count r.cfg.wearLimit <;> cases r.wear.state <;> rfl

/-- Settles O42. -/
theorem wearIsChargedAndRead : Obligations.WearIsChargedAndRead := by
  refine ⟨⟨wear_addWear, wear_addArc, fun count limit => ⟨wearStateOf_eq_due_iff count limit, wearStateOf_eq_warn_iff count limit,
      wearStateOf_eq_ok_iff count limit⟩, fun p k T => pierceCost_of_hundreds⟩, fun s t hset hfit => ?_⟩
  intro r view
  refine ⟨fun p htakes => ⟨exec_tableConfig_of_refused hset hfit htakes, fun hok => ?_⟩,
    fun htakes => ⟨fun ⟨c, hc, hheld⟩ => exec_wearReset_of_held hset hfit htakes hc hheld,
      exec_wearReset_of_free hset hfit htakes⟩, exec_wearQuery_of_fitted hfit⟩
  intro cfg
  refine ⟨exec_tableConfig_of_ok hset hfit htakes hok, fun lim hlimit hpierce hdue => ?_⟩
  intro st rep
  let r' : TableRec := { s.tab t with cfg := (s.tab t).cfg.update p }
  have hlim : r'.cfg.wearLimit = lim := by
    show p.wearLimit.getD _ = lim
    rw [hlimit]
    rfl
  have hst : wearStateOf r'.wear.count r'.cfg.wearLimit = st := by rw [hlim]
  refine ⟨_, exec_tableConfig_of_limit hset hfit htakes hok hlimit hpierce hdue, ?_, fun k hk => ?_, ?_, rfl, rfl, rfl, rfl⟩
  · refine (State.tab_modTab_same s t (fun _ => r'.evaluated)).trans ?_
    rw [TableRec.evaluated, hst]
    rfl
  · exact State.tab_modTab_of_ne s (fun _ => r'.evaluated) hk
  · have hreported : r'.wearReported t .limit = rep := by
      rw [TableRec.wearReported, hst, hlim]
      rfl
    have htold := wearTold_eq r' t .limit s.host
    rw [hst, hreported] at htold
    show ({ r'.wearTold t .limit s.host with hand := .ready (.accept (.tableCfg ((s.tab t).cfg.update p))) } : HostLine) = _
    rw [htold]
    rfl

end Sys2Proof.Machine

/-! Contours: the grant of the arc hold, the answers to RUN_CONTOUR, and the end of a contour (R80, R81, R103, R104). -/

namespace Sys2Proof.Machine

theorem exec_contourDone (n : Nat) (marker : Bool) (number a : Nat) (s : State) :
    exec (.contourDone n marker number a) s = execContourDone n marker number a s := by rfl

theorem exec_contourFault (n : Nat) (marker : Bool) (number code : Nat) (s : State) :
    exec (.contourFault n marker number code) s = execContourFault n marker number code s := by rfl

theorem exec_contourTimerExpiry (t : TableId) (s : State) : exec (.contourTimerExpiry t) s = execContourTimerExpiry t s := by rfl

/-! ## A halt and its fault (R69, R211) -/

/-- A capture into an empty record writes the fault. -/
theorem capture_spec (s : State) (cls : FaultClass) (src : FaultSource) (code : FaultCode) (index : Option Nat) :
    ∃ f h, s.capture cls src code index = { s with hall := { s.hall with fault := f }, host := h }
      ∧ (s.hall.fault.held = none →
        f.held = some { cls := cls, src := src, code := code, clock := s.hall.clock, index := index }) := by
  cases hheld : s.hall.fault.held with
  | none =>
    let fault : HallFault := { cls := cls, src := src, code := code, clock := s.hall.clock, index := index }
    refine ⟨{ held := some fault, later := s.hall.fault.later }, s.host.report (.faultCaptured fault none), ?_, fun _ => rfl⟩
    unfold State.capture
    rw [hheld]
    rfl
  | some g =>
    obtain ⟨f, h, hcapture⟩ := capture_frame s cls src code index
    exact ⟨f, h, hcapture, fun hnone => nomatch hnone⟩

theorem runHalt_of_fault (s : State) (t : TableId) {cause : HaltCause} {cls : FaultClass} {code : FaultCode}
    (hcause : cause.fault = some (cls, code)) : ∃ f h, runHalt t cause s =
      { s.modTab t (fun r => { r with state := .halted, cause := some cause })
        with hall := { s.hall with fault := f }, host := h }
      ∧ (s.hall.fault.held = none → f.held = some
        { cls := cls, src := .table t, code := code, clock := s.hall.clock, index := (s.tab t).active.map Active.index }) := by
  let s1 : State := s.modTab t (fun r => { r with state := .halted, cause := some cause })
  have htab : s1.tab t = { s.tab t with state := .halted, cause := some cause } :=
    State.tab_modTab_same s t (fun r => { r with state := .halted, cause := some cause })
  have hindex : (((s1.raise (s1.tableReport t)).tab t).active.map Active.index) = (s.tab t).active.map Active.index := by
    rw [State.raise_tab, htab]
  obtain ⟨f, h, hcapture, hheld⟩ := capture_spec (s1.raise (s1.tableReport t)) cls (.table t) code
    ((s.tab t).active.map Active.index)
  refine ⟨f, h, ?_, hheld⟩
  unfold runHalt
  rw [hcause]
  dsimp only
  rw [hindex]
  exact hcapture

/-- The arc hold is given back, and the table halts with a fault. -/
theorem comesTo_releaseHalt {s : State} {t : TableId} {z : Zone} {cause : HaltCause} {cls : FaultClass} {code : FaultCode}
    (hsettle : 0 < (s.tab t).cfg.settle) (hzone : s.tableZone t = some z) (harc : (s.guard z).state = .arc)
    (hcause : cause.fault = some (cls, code)) : ∃ f h, (s.push [.arcRelease t, .halt t cause]).comesTo 2
      { (s.setGuard z { s.guard z with state := .settling (s.now + 1000 * (s.tab t).cfg.settle) }).modTab t
          (fun r => { r with state := .halted, cause := some cause })
        with hall := { s.hall with fault := f }, host := h }
      ∧ (s.hall.fault.held = none → f.held = some
        { cls := cls, src := .table t, code := code, clock := s.hall.clock, index := (s.tab t).active.map Active.index }) := by
  let s1 : State := s.setGuard z { s.guard z with state := .settling (s.now + 1000 * (s.tab t).cfg.settle) }
  have hrelease : (s.push [.arcRelease t, .halt t cause]).comesTo 1 (s1.push [.halt t cause]) :=
    comesTo_push _ [.halt t cause] ((runArcRelease_push hsettle _).trans
      (congrArg (fun u => State.push u [.halt t cause]) (runArcRelease_of_arc hsettle hzone harc)))
  obtain ⟨f, h, hhalt, hheld⟩ := runHalt_of_fault s1 t hcause
  exact ⟨f, h, hrelease.trans (comesTo_push _ [] hhalt), hheld⟩

/-! ## The grant (R80, R103) -/

section Granted

variable {s : State} {t : TableId} {c : Contour}

/-- The table to which the arc hold has been granted, its pierces counted. -/
def State.pierced (s : State) (t : TableId) (c : Contour) : TableRec :=
  { s.tab t with
    contour := some { c with arcHeld := true },
    wear := { (s.tab t).wear with
      count := min ((s.tab t).wear.count + pierceCost c.pierces (s.loadedThick t)) 65535 } }

/-- The table whose RUN_CONTOUR has been handed to its unit. -/
def State.piercing (s : State) (t : TableId) (c : Contour) : TableRec :=
  { (s.pierced t c).evaluated with
    contour := some { c with arcHeld := true, ackAwaited := true, hand := s.line.nextHand }, state := .pierceWait,
    cause := none }

/-- The charge of the pierces, with its evaluation. -/
theorem addWear_of_granted (hstate : (s.tab t).state = .pierceWait) :
    let s1 : State := s.modTab t (fun r => { r with contour := some { c with arcHeld := true } })
    s1.addWear t (pierceCost c.pierces (s1.loadedThick t)) .pierce
      = (s.modTab t (fun _ => (s.pierced t c).evaluated)).setHost ((s.pierced t c).wearTold t .pierce s.host) := by
  intro s1
  have htab1 : s1.tab t = { s.tab t with contour := some { c with arcHeld := true } } :=
    State.tab_modTab_same s t (fun r => { r with contour := some { c with arcHeld := true } })
  have hthick : s1.loadedThick t = s.loadedThick t := by
    rw [State.loadedThick, htab1]
    rfl
  have hcharge : s1.modTab t (fun r => { r with wear := { r.wear with
      count := min (r.wear.count + pierceCost c.pierces (s.loadedThick t)) Config.lastWear } })
      = s.modTab t (fun _ => s.pierced t c) := State.modTab_modTab s t _ _
  have htab2 : (s.modTab t (fun _ => s.pierced t c)).tab t = s.pierced t c := State.tab_modTab_same s t (fun _ => s.pierced t c)
  rw [hthick, State.addWear, hcharge, evalWear_of_plain .pierce (fun _ _ => by rw [htab2]; rfl)
    (by rw [htab2]; exact fun h => nomatch hstate.symm.trans h), htab2, State.modTab_modTab]
  rfl

/-- A grant of the arc hold to a table that waits for it: RUN_CONTOUR goes to its unit. -/
theorem runArcGranted_of_waiting (hcontour : (s.tab t).contour = some c) (hfree : c.arcHeld = false)
    (hstate : (s.tab t).state = .pierceWait) (honline : (s.unit (tableUnit t)).link = .online)
    (hout : (s.unit (tableUnit t)).out = none) : runArcGranted t s =
      ((s.countHand.modUnit (tableUnit t) (fun r => { r with
        out := some { cmd := { cmd := .runContour c.number c.pierces, sender := .sequencer, hand := s.line.nextHand },
                      attempt := 1, inFlight := false } })).modTab t (fun _ => s.piercing t c)).setHost
          ((s.pierced t c).wearTold t .pierce s.host) := by
  let c2 : Contour := { c with arcHeld := true, ackAwaited := true, hand := s.line.nextHand }
  let s2 : State := ((s.modTab t (fun _ => (s.pierced t c).evaluated)).setHost
    ((s.pierced t c).wearTold t .pierce s.host)).modTab t (fun r => { r with contour := some c2 })
  have htab2 : s2.tab t = { (s.pierced t c).evaluated with contour := some c2 } := by
    refine (State.tab_modTab_same ((s.modTab t (fun _ => (s.pierced t c).evaluated)).setHost
      ((s.pierced t c).wearTold t .pierce s.host)) t (fun r => { r with contour := some c2 })).trans ?_
    exact congrArg (fun r : TableRec => { r with contour := some c2 })
      (State.tab_modTab_same s t (fun _ => (s.pierced t c).evaluated))
  let s3 : State := s2.countHand.modUnit (tableUnit t) (fun r => { r with
    out := some { cmd := s2.handing (.runContour c.number c.pierces) .sequencer, attempt := 1, inFlight := false } })
  have hhand : s2.handTo (tableUnit t) (.runContour c.number c.pierces) .sequencer = s3 :=
    handTo_of_free (UnitRec.takes_of_online honline _) hout
  have henter : s3.enter t .pierceWait = s3.modTab t (fun r => { r with state := .pierceWait, cause := none }) :=
    enter_of_same ((congrArg TableRec.state htab2).trans hstate)
  have hend : s3.modTab t (fun r => { r with state := .pierceWait, cause := none })
      = s3.modTab t (fun _ => s.piercing t c) :=
    State.modTab_congr (congrArg (fun r : TableRec => { r with state := .pierceWait, cause := none }) htab2)
  rw [runArcGranted, hcontour]
  dsimp only
  rw [hfree, if_neg Bool.false_ne_true, addWear_of_granted hstate]
  refine (congrArg (fun u => State.enter u t .pierceWait) hhand).trans (henter.trans (hend.trans ?_))
  have htwice : ((s.modTab t (fun _ => (s.pierced t c).evaluated)).modTab t (fun r => { r with contour := some c2 })).modTab t
      (fun _ => s.piercing t c) = s.modTab t (fun _ => s.piercing t c) := by
    rw [State.modTab_modTab, State.modTab_modTab]
  exact congrArg (fun v : State => (v.countHand.modUnit (tableUnit t) (fun r => { r with
    out := some { cmd := { cmd := .runContour c.number c.pierces, sender := .sequencer, hand := s.line.nextHand },
                  attempt := 1, inFlight := false } })).setHost ((s.pierced t c).wearTold t .pierce s.host)) htwice

end Granted

/-! ## The answers to RUN_CONTOUR (R80) -/

section Answers

variable {s : State} {t : TableId} {c : Contour} {o : Outstanding} {e : Nat}

/-- The line after a good answer in the window of a table's unit that has no other command waiting. -/
def State.answeredLine (s : State) (u : UnitId) : State :=
  s.closeWindow.modUnit u (fun r => { r with out := none, fails := 0 })

theorem runAnswered_of_sequencer {h : Handed} {a : Answer} (hsender : h.sender = .sequencer) :
    runAnswered (tableUnit t) h a s = s.sequencerAnswer t h a := by
  unfold runAnswered
  rw [hsender, ownerOf_tableUnit]

theorem goodAnswer_of_alone {u : UnitId} (hwaiting : (s.unit u).waiting = []) (a : Answer) :
    s.goodAnswer u o a = (s.answeredLine u).push [.answered u o.cmd a] := by
  have hmod : s.closeWindow.modUnit u (fun r => { r.next with fails := 0 }) = s.answeredLine u :=
    State.modUnit_congr (by rw [State.closeWindow_unit, UnitRec.next, hwaiting])
  rw [State.goodAnswer, hmod]

theorem answeredLine_unit (s : State) (u : UnitId) : (s.answeredLine u).unit u = { s.unit u with out := none, fails := 0 } :=
  State.unit_modUnit_same s.closeWindow u _

/-- A good ACK or NAK of a command in flight on the main channel. -/
theorem exec_ack_of_command {k : CmdKind} {u : UnitId} (hrun : s.hall.inReset = false)
    (hwindow : s.line.window = some { unit := u, kind := .command, expiry := e }) (hout : (s.unit u).out = some o)
    (hk : o.cmd.cmd.kind = k) (hquery : k ≠ .statusQuery) {marker : Bool} (hmarker : marker = cmdMarker k) :
    exec (.ack (u.val + 1) marker (.cmd k)) s = .next (s.goodAnswer u o .ack).settle := by
  rw [exec_ack, execAck, handled_of_running _ s hrun, receive_of_command _ _ hwindow, State.receiveAnswer, hout]
  simp [goodAnswerOf, hk, hquery, hmarker]

theorem exec_nak_of_command {k : CmdKind} {u : UnitId} (hrun : s.hall.inReset = false)
    (hwindow : s.line.window = some { unit := u, kind := .command, expiry := e }) (hout : (s.unit u).out = some o)
    (hk : o.cmd.cmd.kind = k) {marker : Bool} (hmarker : marker = cmdMarker k) :
    exec (.nak (u.val + 1) marker (.cmd k)) s = .next (s.goodAnswer u o .nak).settle := by
  rw [exec_nak, execNak, handled_of_running _ s hrun, receive_of_command _ _ hwindow, State.receiveAnswer, hout]
  simp [goodAnswerOf, hk, hmarker]

variable (hcontour : (s.tab t).contour = some c) (hawaited : c.ackAwaited = true) (hhand : c.hand = o.cmd.hand)
  (hsender : o.cmd.sender = .sequencer) (hcmd : o.cmd.cmd = .runContour c.number c.pierces)
include hcontour hawaited hhand hsender hcmd

theorem comesTo_of_contourAck (hstate : (s.tab t).state = .pierceWait) :
    (s.push [.answered (tableUnit t) o.cmd .ack]).comesTo 1 ((s.modTab t (fun r => { r with
        contour := some { c with ackAwaited := false }, timer := some (s.now + 1000 * (s.tab t).cfg.contourLimit),
        state := .cutting, cause := none })).raise
      (.tableState t .cutting ((s.tab t).active.map Active.index) none ((s.tab t).active.bind Active.loaded))) := by
  refine comesTo_push _ [] ?_
  let s1 : State := s.modTab t (fun r => { r with
    contour := some { c with ackAwaited := false }, timer := some (s.now + 1000 * r.cfg.contourLimit) })
  have hs1 : runTask (.answered (tableUnit t) o.cmd .ack) s = s1.enter t .cutting := by
    show runAnswered (tableUnit t) o.cmd .ack s = _
    rw [runAnswered_of_sequencer hsender, State.sequencerAnswer.eq_def, hcmd]
    dsimp only [FieldCmd.kind]
    rw [hcontour]
    exact if_pos ⟨hawaited, hhand⟩
  have htab1 : s1.tab t = { s.tab t with
      contour := some { c with ackAwaited := false }, timer := some (s.now + 1000 * (s.tab t).cfg.contourLimit) } :=
    State.tab_modTab_same s t (fun r => { r with
      contour := some { c with ackAwaited := false }, timer := some (s.now + 1000 * r.cfg.contourLimit) })
  have hmod : s1.modTab t (fun r => { r with state := .cutting, cause := none }) = s.modTab t (fun r => { r with
      contour := some { c with ackAwaited := false }, timer := some (s.now + 1000 * (s.tab t).cfg.contourLimit),
      state := .cutting, cause := none }) :=
    (State.modTab_modTab s t _ _).trans (State.modTab_congr rfl)
  refine hs1.trans ((enter_of_other (by rw [htab1]; exact fun h => nomatch hstate.symm.trans h)).trans ?_)
  rw [hmod, tableReport_of_tab (State.tab_modTab_same s t (fun r => { r with
      contour := some { c with ackAwaited := false }, timer := some (s.now + 1000 * (s.tab t).cfg.contourLimit),
      state := .cutting, cause := none }))]
  rfl

theorem comesTo_of_contourNak :
    (s.push [.answered (tableUnit t) o.cmd .nak]).comesTo 1 ((s.clearContour t).push
      [.arcRelease t, .halt t .contourFault]) := by
  refine comesTo_push _ [] ?_
  show runAnswered (tableUnit t) o.cmd .nak s = _
  rw [runAnswered_of_sequencer hsender, State.sequencerAnswer.eq_def, hcmd]
  dsimp only [FieldCmd.kind]
  rw [hcontour]
  exact if_pos ⟨hawaited, hhand⟩

end Answers

/-- The parts of a state that a fault of a table's contour leaves: the table halts, its guard settles. -/
theorem settle_of_releaseHalt {s s0 : State} {t : TableId} {z : Zone} {cause : HaltCause} {cls : FaultClass}
    {code : FaultCode} {k : Nat} (hcomes : s0.comesTo k ((s.clearContour t).push [.arcRelease t, .halt t cause]))
    (hk : k ≤ 2) (hwork : s.work = []) (hclean : s.stock.changed = false)
    (hsettle : 0 < (s.tab t).cfg.settle) (hzone : s.tableZone t = some z) (harc : (s.guard z).state = .arc)
    (hcause : cause.fault = some (cls, code)) :
    let u := s0.settle
    u.tab t = { s.tab t with contour := none, timer := none, state := .halted, cause := some cause }
      ∧ (∀ k, k ≠ t → u.tab k = s.tab k)
      ∧ u.guard z = { s.guard z with state := .settling (s.now + 1000 * (s.tab t).cfg.settle) }
      ∧ (∀ y, y ≠ z → u.guard y = s.guard y) ∧ u.line = s.line
      ∧ (s.hall.fault.held = none → u.hall.fault.held = some
        { cls := cls, src := .table t, code := code, clock := s.hall.clock, index := (s.tab t).active.map Active.index })
      ∧ u.stock = s.stock ∧ u.moves = s.moves ∧ u.composer = s.composer ∧ u.flags = s.flags := by
  intro u
  have htab : (s.clearContour t).tab t = { s.tab t with contour := none, timer := none } :=
    State.tab_modTab_same s t (fun r => { r with contour := none, timer := none })
  have hcfg : ((s.clearContour t).tab t).cfg = (s.tab t).cfg := by rw [htab]
  have hactive : ((s.clearContour t).tab t).active = (s.tab t).active := by rw [htab]
  obtain ⟨f, h, hends, hheld⟩ := comesTo_releaseHalt (s := s.clearContour t) (z := z) (by rw [hcfg]; exact hsettle) hzone harc
    hcause
  rw [hactive] at hheld
  have hmod : ((s.clearContour t).setGuard z { s.guard z with
      state := .settling (s.now + 1000 * ((s.clearContour t).tab t).cfg.settle) }).modTab t
        (fun r => { r with state := .halted, cause := some cause })
      = (s.setGuard z { s.guard z with state := .settling (s.now + 1000 * (s.tab t).cfg.settle) }).modTab t
        (fun r => { r with contour := none, timer := none, state := .halted, cause := some cause }) := by
    rw [hcfg]
    exact State.modTab_modTab (s.setGuard z { s.guard z with
      state := .settling (s.now + 1000 * (s.tab t).cfg.settle) }) t (fun r => { r with contour := none, timer := none })
        (fun r => { r with state := .halted, cause := some cause })
  have hends' : s0.comesTo (2 + k) { (s.setGuard z { s.guard z with
      state := .settling (s.now + 1000 * (s.tab t).cfg.settle) }).modTab t
        (fun r => { r with contour := none, timer := none, state := .halted, cause := some cause })
      with hall := { s.hall with fault := f }, host := h } := by
    rw [← hmod]
    exact hcomes.trans hends
  have hu := settle_of_comesTo_clean hends' (Nat.le_trans (show 2 + k ≤ 4 by omega) (by decide)) hwork hclean
  rw [show u = _ from hu]
  refine ⟨?_, fun k hk => ?_, ?_, fun y hy => ?_, rfl, hheld, rfl, rfl, rfl, rfl⟩
  · exact State.tab_modTab_same s t (fun r => { r with
      contour := none, timer := none, state := .halted, cause := some cause })
  · exact State.tab_modTab_of_ne s (fun r => { r with
      contour := none, timer := none, state := .halted, cause := some cause }) hk
  · exact State.guard_setGuard_same s z _
  · exact (State.guard_setGuard s z y _).trans (if_neg hy)

/-- Settles O43. -/
theorem contoursStartWithTheArc : Obligations.ContoursStartWithTheArc := by
  intro s t c hcontour
  refine ⟨fun hfree hstate honline hout => ?_, fun o e hrun hset hstate hawaited hheld hhand hwindow hout hwaiting hsender hcmd =>
    ⟨?_, fun z hzone harc hsettle => ?_⟩⟩
  · have htab := State.tab_modTab_same (s.countHand.modUnit (tableUnit t) (fun r => { r with
      out := some { cmd := { cmd := .runContour c.number c.pierces, sender := .sequencer, hand := s.line.nextHand },
                    attempt := 1, inFlight := false } })) t (fun _ => s.piercing t c)
    refine ⟨_, runArcGranted_of_waiting hcontour hfree hstate honline hout, fun x hloaded hrec => ?_, ?_, ?_, ?_, ?_, ?_, ?_,
      fun k hk => ?_, rfl, rfl, rfl⟩
    · have hthick : s.loadedThick t = x.thick := by
        rw [State.loadedThick, hloaded, Option.bind_some, hrec]
        rfl
      refine (congrArg (fun r : TableRec => r.wear.count) htab).trans ?_
      show min ((s.tab t).wear.count + pierceCost c.pierces (s.loadedThick t)) 65535 = _
      rw [hthick]
      rfl
    · refine (congrArg (fun r : TableRec => r.wear.state) htab).trans ?_
      exact congrArg (fun n => wearStateOf n (s.tab t).cfg.wearLimit)
        (congrArg (fun r : TableRec => r.wear.count) htab).symm
    · exact congrArg TableRec.contour htab
    · exact congrArg TableRec.state htab
    · exact (congrArg TableRec.active htab).trans rfl
    · exact (congrArg TableRec.claim htab).trans rfl
    · exact congrArg UnitRec.out (State.unit_modUnit_same s.countHand (tableUnit t) (fun r => { r with
        out := some { cmd := { cmd := .runContour c.number c.pierces, sender := .sequencer, hand := s.line.nextHand },
                      attempt := 1, inFlight := false } }))
    · exact State.tab_modTab_of_ne _ (fun _ => s.piercing t c) hk
  · have hkind : o.cmd.cmd.kind = .runContour := by rw [hcmd]; rfl
    have hcomes := comesTo_of_contourAck (s := s.answeredLine (tableUnit t)) (t := t) hcontour hawaited hhand hsender hcmd hstate
    refine ⟨_, (exec_ack_of_command hrun hwindow hout hkind (by decide) rfl).trans (congrArg Host.Outcome.next
      ((congrArg State.settle (goodAnswer_of_alone hwaiting _)).trans (settle_of_comesTo_clean hcomes (by decide) hset.1
        hset.2.1))), ?_, fun k hk => ?_, ?_, rfl, rfl, rfl, rfl, rfl, rfl, rfl⟩
    · exact State.tab_modTab_same s t (fun r => { r with
        contour := some { c with ackAwaited := false }, timer := some (s.now + 1000 * (s.tab t).cfg.contourLimit),
        state := .cutting, cause := none })
    · exact State.tab_modTab_of_ne s (fun r => { r with
        contour := some { c with ackAwaited := false }, timer := some (s.now + 1000 * (s.tab t).cfg.contourLimit),
        state := .cutting, cause := none }) hk
    · exact answeredLine_unit s (tableUnit t)
  · have hkind : o.cmd.cmd.kind = .runContour := by rw [hcmd]; rfl
    have hcomes := comesTo_of_contourNak (s := s.answeredLine (tableUnit t)) (t := t) hcontour hawaited hhand hsender hcmd
    obtain ⟨htab, htabs, hguard, hguards, hline, hheld, hrest⟩ := settle_of_releaseHalt (s := s.answeredLine (tableUnit t))
      hcomes (by decide) hset.1 hset.2.1 hsettle hzone harc rfl
    refine ⟨_, (exec_nak_of_command hrun hwindow hout hkind rfl).trans (congrArg Host.Outcome.next
      (congrArg State.settle (goodAnswer_of_alone hwaiting _))), htab, htabs, hguard, hguards, ?_, ?_, hheld, hrest⟩
    · exact (congrArg (fun l => FieldLine.units l |>.get (tableUnit t)) hline).trans (answeredLine_unit s (tableUnit t))
    · exact congrArg FieldLine.window hline

/-! ## The end of a contour (R81, R104) -/

section Ends

variable {s : State} {t : TableId} {c : Contour} {e number : Nat}

theorem exec_contourDone_of_offer (a : Nat) (hrun : s.hall.inReset = false)
    (hwindow : s.line.window = some { unit := tableUnit t, kind := .offer, expiry := e }) :
    exec (.contourDone (t.val + 1) false number a) s = .next (s.closeWindow.takeContourDone t number a).settle := by
  have hunit : t.val + 1 = (tableUnit t).val + 1 := rfl
  have howner : ownerOf (tableUnit t) = .table t := ownerOf_tableUnit t
  rw [exec_contourDone, execContourDone, handled_of_running _ s hrun, hunit, receive_of_offer _ _ hwindow]
  simp [State.receiveReport, FieldMsg.isReport, State.deliver, howner]

theorem exec_contourFault_of_offer (code : Nat) (hrun : s.hall.inReset = false)
    (hwindow : s.line.window = some { unit := tableUnit t, kind := .offer, expiry := e }) :
    exec (.contourFault (t.val + 1) false number code) s = .next (s.closeWindow.takeContourFault t).settle := by
  have hunit : t.val + 1 = (tableUnit t).val + 1 := rfl
  have howner : ownerOf (tableUnit t) = .table t := ownerOf_tableUnit t
  rw [exec_contourFault, execContourFault, handled_of_running _ s hrun, hunit, receive_of_offer _ _ hwindow]
  simp [State.receiveReport, FieldMsg.isReport, State.deliver, howner]

theorem cutting_of_other (h : (s.tab t).state ≠ .cutting) : s.cutting t = none := if_neg h

theorem cutting_of_contour (h : (s.tab t).state = .cutting) (hcontour : (s.tab t).contour = some c) : s.cutting t = some c :=
  (if_pos h).trans hcontour

/-- A report of a contour out of CUTTING is stray. -/
theorem settle_strayReport (hset : s.settled) (u : UnitId) : (s.closeWindow.stray u).settle = s.closeWindow.stray u :=
  Quiet.settle (by simp [State.stray]) hset

/-- A fault of the contour in flight: ARC_KILL goes to the unit, and the release and the halt are due. -/
theorem faultContour_of_online (honline : (s.unit (tableUnit t)).link = .online) (hout : (s.unit (tableUnit t)).out = none)
    (cause : HaltCause) : s.faultContour t cause = ((s.countHand.modUnit (tableUnit t) (fun r => { r with
        out := some { cmd := { cmd := .arcKill, sender := .sequencer, hand := s.line.nextHand }, attempt := 1,
                      inFlight := false } })).clearContour t).push [.arcRelease t, .halt t cause] := by
  rw [State.faultContour, State.sendKill, handTo_of_free (UnitRec.takes_of_online honline _) hout]
  rfl

/-- The table of a contour that has ended: its arc wear charged, its contour cleared. -/
def State.cut (s : State) (t : TableId) (a : Nat) : TableRec :=
  { ({ s.tab t with wear := { (s.tab t).wear with
        rem := ((s.tab t).wear.rem + a) % 300,
        count := min ((s.tab t).wear.count + ((s.tab t).wear.rem + a) / 300) 65535 } } : TableRec).evaluated
    with contour := none, timer := none }

/-- The charge of the arc wear of a contour in flight, and the contour cleared. -/
theorem addArc_clearContour (hcutting : (s.tab t).state = .cutting) (a : Nat) : ∃ h : HostLine,
    (s.addArc t a).clearContour t = (s.modTab t (fun _ => s.cut t a)).setHost h := by
  let r1 : TableRec := { s.tab t with wear := { (s.tab t).wear with
    rem := ((s.tab t).wear.rem + a) % 300,
    count := min ((s.tab t).wear.count + ((s.tab t).wear.rem + a) / 300) 65535 } }
  have hadd : s.addArc t a = (s.modTab t (fun _ => r1)).evalWear t .arc :=
    congrArg (fun u => State.evalWear u t .arc) (State.modTab_modTab s t
      (fun r => { r with wear := { r.wear with rem := ((s.tab t).wear.rem + a) % 300 } })
      (fun r => { r with wear := { r.wear with
        count := min (r.wear.count + ((s.tab t).wear.rem + a) / 300) 65535 } }))
  have htab : (s.modTab t (fun _ => r1)).tab t = r1 := State.tab_modTab_same s t (fun _ => r1)
  have heval : (s.modTab t (fun _ => r1)).evalWear t .arc
      = (s.modTab t (fun _ => r1.evaluated)).setHost (r1.wearTold t .arc s.host) := by
    rw [evalWear_of_plain .arc (fun _ h => by rw [htab] at h; exact nomatch hcutting.symm.trans h)
      (by rw [htab]; exact fun h => nomatch hcutting.symm.trans h), htab, State.modTab_modTab]
    rfl
  refine ⟨r1.wearTold t .arc s.host, ?_⟩
  rw [hadd, heval]
  exact congrArg (fun u => State.setHost u (r1.wearTold t .arc s.host))
    (State.modTab_modTab s t (fun _ => r1.evaluated) (fun r => { r with contour := none, timer := none }))

/-- A contour that has ended in front of a WAIT_FLAG step on a CLEAR flag. -/
theorem settle_contourDone (hwork : s.work = []) (hclean : s.stock.changed = false) {g : Active} {f : FlagId} {z : Zone}
    (hcutting : (s.tab t).state = .cutting) (hcontour : (s.tab t).contour = some c) (hnumber : c.number = number) (a : Nat)
    (hzone : s.tableZone t = some z) (harc : (s.guard z).state = .arc) (hsettle : 0 < (s.tab t).cfg.settle)
    (hactive : (s.tab t).active = some g) (hnext : g.steps[g.index + 1]? = some (.waitFlag f.val))
    (hclear : (s.flag f).value = false) : ∃ h : HostLine, (s.takeContourDone t number a).settle =
      ((s.setGuard z { s.guard z with state := .settling (s.now + 1000 * (s.tab t).cfg.settle) }).midway f t
        { s.flag f with waiters := (s.flag f).waiters ++ [t] }
        { s.cut t a with active := some { g with index := g.index + 1 }, state := .flagWait, cause := none } s.stock s.alloc
        h).followBeacons := by
  obtain ⟨h, hcut⟩ := addArc_clearContour hcutting a
  let s1 : State := s.setGuard z { s.guard z with state := .settling (s.now + 1000 * (s.tab t).cfg.settle) }
  let s2 : State := (s.modTab t (fun _ => s.cut t a)).setHost h
  have htake : s.takeContourDone t number a = s2.push [.arcRelease t, .stepEnd t] := by
    rw [State.takeContourDone, cutting_of_contour hcutting hcontour]
    dsimp only
    rw [if_pos hnumber, hcut]
  have hcfg : (s2.tab t).cfg = (s.tab t).cfg := (congrArg TableRec.cfg (State.tab_modTab_same s t (fun _ => s.cut t a))).trans rfl
  have hmid : runTask (.arcRelease t) (s2.push [.stepEnd t])
      = (s1.midway f t (s.flag f) (s.cut t a) s.stock s.alloc h).push [.stepEnd t] := by
    refine (runArcRelease_push (s := s2) (by rw [hcfg]; exact hsettle) _).trans ?_
    rw [runArcRelease_of_arc (s := s2) (z := z) (by rw [hcfg]; exact hsettle) hzone harc, hcfg]
    exact congrArg (fun u => State.push u [.stepEnd t]) (midway_of_tab (s := s1) f t (s.cut t a) h).symm
  have hrelease : (s2.push [.arcRelease t, .stepEnd t]).comesTo 1
      ((s1.midway f t (s.flag f) (s.cut t a) s.stock s.alloc h).push [.stepEnd t]) := comesTo_push _ [.stepEnd t] hmid
  have hended := midway_stepEnd (s := s1) (f := f) (t := t) (q := s.flag f) (r := s.cut t a) (stock := s.stock)
    (alloc := s.alloc) (host := h) hactive []
  have hwaits := midway_stepStart_enter (s := s1) (f := f) (t := t) (q := s.flag f)
    (r := { s.cut t a with active := some { g with index := g.index + 1 } }) (stock := s.stock) (alloc := s.alloc) (host := h)
    rfl hnext hclear (fun h => nomatch hcutting.symm.trans h) []
  rw [State.push_nil] at hwaits
  have hend := settle_of_midway (s := s1) (k := 3) ((hrelease.trans hended).trans hwaits) (by decide) hwork
  rw [StockTable.counted_of_clean hclean] at hend
  exact ⟨_, (congrArg State.settle htake).trans hend⟩

/-- What a fault of the contour in flight comes to. -/
theorem settle_faultContour (hwork : s.work = []) (hclean : s.stock.changed = false) {z : Zone} {cause : HaltCause}
    {cls : FaultClass} {code : FaultCode} (hcause : cause.fault = some (cls, code)) (hzone : s.tableZone t = some z)
    (harc : (s.guard z).state = .arc) (hsettle : 0 < (s.tab t).cfg.settle)
    (honline : (s.unit (tableUnit t)).link = .online) (hout : (s.unit (tableUnit t)).out = none) :
    let u := (s.faultContour t cause).settle
    u.tab t = { s.tab t with contour := none, timer := none, state := .halted, cause := some cause }
      ∧ (∀ k, k ≠ t → u.tab k = s.tab k)
      ∧ u.guard z = { s.guard z with state := .settling (s.now + 1000 * (s.tab t).cfg.settle) }
      ∧ (∀ y, y ≠ z → u.guard y = s.guard y)
      ∧ (u.unit (tableUnit t)).out = some
        { cmd := { cmd := .arcKill, sender := .sequencer, hand := s.line.nextHand }, attempt := 1, inFlight := false }
      ∧ (s.hall.fault.held = none → u.hall.fault.held = some
        { cls := cls, src := .table t, code := code, clock := s.hall.clock, index := (s.tab t).active.map Active.index })
      ∧ u.stock = s.stock ∧ u.moves = s.moves ∧ u.composer = s.composer ∧ u.flags = s.flags := by
  intro u
  let r : UnitRec → UnitRec := fun r => { r with
    out := some { cmd := { cmd := .arcKill, sender := .sequencer, hand := s.line.nextHand }, attempt := 1,
                  inFlight := false } }
  obtain ⟨htab, htabs, hguard, hguards, hline, hheld, hrest⟩ := settle_of_releaseHalt
    (s := s.countHand.modUnit (tableUnit t) r) (t := t) (cause := cause) (State.comesTo_refl _) (by decide) hwork hclean hsettle
    hzone harc hcause
  have hu : u = (((s.countHand.modUnit (tableUnit t) r).clearContour t).push [.arcRelease t, .halt t cause]).settle :=
    congrArg State.settle (faultContour_of_online honline hout cause)
  rw [hu]
  refine ⟨htab, htabs, hguard, hguards, ?_, hheld, hrest⟩
  exact (congrArg (fun l => ((FieldLine.units l).get (tableUnit t)).out) hline).trans
    (congrArg UnitRec.out (State.unit_modUnit_same s.countHand (tableUnit t) r))

end Ends

/-- Settles O44. -/
theorem contoursEnd : Obligations.ContoursEnd := by
  intro s t e number a code hrun hset
  refine ⟨fun hwindow hother i hi => ?_, fun c z hcutting hcontour hzone harc hsettle =>
    ⟨fun g f hwindow hnumber hactive hnext hclear => ?_, fun i cause fc hi honline hout => ?_⟩⟩
  · have hcutting : s.closeWindow.cutting t = none := cutting_of_other hother
    simp only [List.mem_cons, List.not_mem_nil, or_false] at hi
    obtain rfl | rfl := hi
    · rw [exec_contourDone_of_offer a hrun hwindow, State.takeContourDone, hcutting]
      exact congrArg _ (settle_strayReport hset _)
    · rw [exec_contourFault_of_offer code hrun hwindow, State.takeContourFault, hcutting]
      exact congrArg _ (settle_strayReport hset _)
  · obtain ⟨h, hend⟩ := settle_contourDone (s := s.closeWindow) hset.1 hset.2.1 hcutting hcontour hnumber a hzone harc hsettle
      hactive hnext hclear
    let s1 : State := s.closeWindow.setGuard z { s.guard z with state := .settling (s.now + 1000 * (s.tab t).cfg.settle) }
    obtain ⟨htabs, hflags, hguards, hmoves, hcomposer, hline, -, -⟩ := midway_framed (s := s1) (f := f) (t := t)
      (q := { s.flag f with waiters := (s.flag f).waiters ++ [t] })
      (r := { s.cut t a with active := some { g with index := g.index + 1 }, state := .flagWait, cause := none })
      (stock := s.stock) (alloc := s.alloc) (host := h) s.hall.fault
    have htab := midway_tab s1 f t { s.flag f with waiters := (s.flag f).waiters ++ [t] }
      { s.cut t a with active := some { g with index := g.index + 1 }, state := .flagWait, cause := none } s.stock s.alloc h
    refine ⟨_, (exec_contourDone_of_offer a hrun hwindow).trans (congrArg _ hend), congrArg TableRec.state htab, congrArg TableRec.contour htab,
      congrArg TableRec.timer htab, congrArg TableRec.active htab, (congrArg (fun r : TableRec => r.wear.count) htab).trans rfl,
      (congrArg (fun r : TableRec => r.wear.rem) htab).trans rfl, (congrArg TableRec.claim htab).trans rfl,
      (congrArg TableRec.cfg htab).trans rfl, (congrArg TableRec.staged htab).trans rfl, htabs,
      State.guard_setGuard_same s z _, fun y hy => (State.guard_setGuard s z y _).trans (if_neg hy), ?_, hline, rfl, hmoves,
      hcomposer⟩
    exact midway_flag s1 f t { s.flag f with waiters := (s.flag f).waiters ++ [t] }
      { s.cut t a with active := some { g with index := g.index + 1 }, state := .flagWait, cause := none } s.stock s.alloc h
  · obtain ⟨rfl, rfl, hwindow, rfl | ⟨rfl, hnumber⟩⟩ | ⟨rfl, rfl, rfl, x, htimer, hdue⟩ := hi
    · refine ⟨_, (exec_contourFault_of_offer code hrun hwindow).trans ?_, settle_faultContour (s := s.closeWindow) hset.1
        hset.2.1 rfl hzone harc hsettle honline hout⟩
      rw [State.takeContourFault, cutting_of_contour (s := s.closeWindow) hcutting hcontour]
    · refine ⟨_, (exec_contourDone_of_offer a hrun hwindow).trans ?_, settle_faultContour (s := s.closeWindow) hset.1
        hset.2.1 rfl hzone harc hsettle honline hout⟩
      rw [State.takeContourDone, cutting_of_contour (s := s.closeWindow) hcutting hcontour]
      dsimp only
      rw [if_neg hnumber]
    · refine ⟨_, ?_, settle_faultContour hset.1 hset.2.1 rfl hzone harc hsettle honline hout⟩
      rw [exec_contourTimerExpiry, execContourTimerExpiry, handled_of_running _ s hrun, if_pos]
      simp [cutting_of_contour hcutting hcontour, htimer, hdue]

end Sys2Proof.Machine

/-! MOVE_POST (R163 to R167): its tests, and the acceptance of a NONE load and of a record from a slot. -/

namespace Sys2Proof.Machine

theorem exec_movePost (b : PostBody) (s : State) : exec (.movePost b) s = execMovePost b s := by rfl

/-! ## The operands -/

theorem flagByte_eq_none_iff {v : Nat} : flagByte v = none ↔ 15 < v ∧ v ≠ 255 := by
  unfold flagByte
  split
  next h => simp [h]
  next h =>
    split
    next f hf =>
      have := numbered_eq_some_iff.1 hf
      simp only [reduceCtorEq, false_iff]
      omega
    next hf =>
      have := numbered_eq_none_iff.1 hf
      simp only [true_iff]
      omega

theorem flagByte_of_flag {v : Nat} {fl : Option FlagId} (h : v = 255 ∧ fl = none ∨ ∃ f, fl = some f ∧ v = f.val) :
    flagByte v = some fl := by
  obtain ⟨rfl, rfl⟩ | ⟨f, rfl, rfl⟩ := h
  · rfl
  · rw [flagByte, if_neg (by omega), numbered_val]

theorem postLoad_eq_none_iff {b : PostBody} : postLoad b = none ↔ 2 < b.load ∨ (b.load = 1 ∧ (b.ref < 1 ∨ 255 < b.ref)) := by
  unfold postLoad
  split
  next h => simp [h]
  next h =>
    by_cases hin : within 1 255 b.ref = true
    · rw [if_pos hin]
      simp only [within, Bool.and_eq_true, decide_eq_true_eq] at hin
      simp only [reduceCtorEq, false_iff]
      omega
    · rw [if_neg hin]
      simp only [within, Bool.and_eq_true, decide_eq_true_eq] at hin
      simp only [true_iff]
      omega
  next h => simp [h]
  next h0 h1 h2 =>
    simp only [true_iff]
    have h0' : b.load ≠ 0 := h0
    have h1' : b.load ≠ 1 := h1
    have h2' : b.load ≠ 2 := h2
    omega

/-- The post that MOVE_POST hands over (R163). -/
def postOf (b : PostBody) (load : Load) (fl : Option FlagId) : Post :=
  { origin := .host, load := load, srcZone := b.srcZone, dstZone := b.dstZone, dstSlot := b.dstSlot,
    urgent := decide (b.priority = 1), flag := fl }

section Post

variable {s : State} {b : PostBody}

theorem exec_movePost_of_setup (hset : s.settled) (htakes : s.takes (.movePost b)) (hmode : s.hall.mode = .setup) :
    exec (.movePost b) s = .next (s.refuse .badState) := by
  rw [exec_movePost, execMovePost, request_of_takes _ _ _ htakes, notInSetup_of_setup hmode, settle_refuse s hset]

variable (hmode : s.hall.mode ≠ .setup) (htakes : s.takes (.movePost b))
include hmode htakes

theorem exec_movePost_of_range (hset : s.settled) (h : 2 < b.load ∨ (b.load = 1 ∧ (b.ref < 1 ∨ 255 < b.ref))
      ∨ (15 < b.flag ∧ b.flag ≠ 255) ∨ 1 < b.priority ∨ 15 < b.dstZone) :
    exec (.movePost b) s = .next (s.refuse .range) := by
  rw [exec_movePost, execMovePost, request_of_takes _ _ _ htakes, notInSetup_of_running hmode]
  refine congrArg Host.Outcome.next ((congrArg State.settle ?_).trans (settle_refuse s hset _))
  split
  next load flag hload hflag =>
    rw [if_pos]
    have hload' : ¬(2 < b.load ∨ (b.load = 1 ∧ (b.ref < 1 ∨ 255 < b.ref))) := by
      rw [← postLoad_eq_none_iff, hload]
      nofun
    have hflag' : ¬(15 < b.flag ∧ b.flag ≠ 255) := by
      rw [← flagByte_eq_none_iff, hflag]
      nofun
    omega
  · rfl

variable {load : Load} {fl : Option FlagId} (hload : postLoad b = some load) (hflag : flagByte b.flag = some fl)
  (hpriority : b.priority ≤ 1) (hzone : b.dstZone ≤ 15)
include hload hflag hpriority hzone

theorem exec_movePost_of_test {m : MoveRec} (htest : s.postTest (postOf b load fl) = .ok m)
    (hroom : s.moves.queue.length < 16) :
    exec (.movePost b) s = .next ((s.acceptMove m).accept (.moveId s.moveId)).settle := by
  have hpost := post_of_test htest hroom
  unfold postOf at hpost
  rw [exec_movePost, execMovePost, request_of_takes _ _ _ htakes, notInSetup_of_running hmode, hload, hflag]
  dsimp only
  rw [if_neg (by omega), hpost]

theorem exec_movePost_of_full (hset : s.settled) {m : MoveRec} (htest : s.postTest (postOf b load fl) = .ok m)
    (hfull : 16 ≤ s.moves.queue.length) : exec (.movePost b) s = .next (s.refuse .full) := by
  have hpost : s.post (postOf b load fl) = (s, .full) := by
    rw [State.post, htest]
    exact if_pos hfull
  unfold postOf at hpost
  rw [exec_movePost, execMovePost, request_of_takes _ _ _ htakes, notInSetup_of_running hmode, hload, hflag]
  dsimp only
  rw [if_neg (by omega), hpost]
  exact congrArg _ (settle_refuse s hset _)

end Post

/-! ## A NONE load (R166) -/

theorem postTest_of_none {s : State} {p : Post} {z : Zone} (hload : p.load = .none) (hzone : p.dstZone = z.val) :
    s.postTest p = .ok (p.draft .none none (.zone z) false) := by
  simp only [State.postTest, hload, hzone, dif_pos z.isLt]

/-- A move without a stock record locks nothing. -/
theorem acceptMove_of_none {s : State} {m : MoveRec} (hload : m.load = .none) : s.acceptMove m = s.enqueue m := by
  have hlock : s.lockStock s.moveId m = s := by rw [State.lockStock, hload]
  rw [State.acceptMove]
  dsimp only
  rw [hlock, State.enqueue]

theorem quiet_enqueue {s t : State} (m : MoveRec) (h : Quiet s t) : Quiet s (t.enqueue m) where
  work := h.work
  changed := h.changed
  now := h.now
  hall := h.hall
  map := h.map
  guards := h.guards
  tabs := h.tabs
  cranes := h.cranes

/-! ## A record from a slot (R164, R167) -/

section Stock

variable {s : State} {p : Post} {id n : Nat} {x : StockRec} {r d : SlotRef}

/-- The tests of a post of an AVAILABLE record that can be picked from a slot off the beds, with a destination that takes
it. -/
theorem postTest_of_available (hload : p.load = .stock id) (horigin : p.origin = .host) (hrec : s.stockRec id = some x)
    (hstate : x.state = .available) (hloc : x.loc = .slot r n) (htop : n + 1 = (s.slotRecs r).length)
    (hoff : s.bedTable r = none) (hlock : s.lock r = { pick := none, deliveries := 0 })
    (hdst : s.slotRef p.dstZone p.dstSlot = some d) (hkind : s.kindOf d.zone = .stock ∨ s.kindOf d.zone = .rack)
    (hother : d ≠ r) (hdelivery : s.deliveryTest d = none) :
    s.postTest p = .ok (p.draft (.slot r) (some r.zone) (.slot d) false) := by
  have hpick : s.pickTest x = none := pickTest_of_slot hloc htop (by rw [hlock]) (by rw [hlock])
  have howned : s.ownedBed d = false := by
    have hbed : s.bedTable d = none := by obtain h | h := hkind <;> rw [State.bedTable, h]
    rw [State.ownedBed, hbed]
  have hslot : s.stockSlotRef p.dstZone p.dstSlot = some d := by
    obtain h | h := hkind <;> simp [State.stockSlotRef, hdst, h]
  have hin : x.inSlot d = false := by simp [StockRec.inSlot, hloc, hother.symm]
  have hsource : s.ownedSource (.slot r n) = false := by simp only [State.ownedSource, hoff]
  show (match p.load with
    | .stock id => s.stockPost p id
    | .batch _ => s.batchPost p
    | .none => _) = _
  rw [hload]
  show s.stockPost p id = _
  rw [State.stockPost, hrec]
  simp [hstate, horigin, hdst, howned, hsource, hpick, hslot, hin, hdelivery, hloc, State.stateAllows]

/-- Acceptance of a move of a record from a slot to a slot. -/
theorem acceptMove_of_slots {m : MoveRec} (hload : m.load = .stock id) (hsrc : m.src = .slot r) (hdst : m.dst = .slot d) :
    s.acceptMove m = (((s.modRec id (StockRec.underMove s.moveId)).setPick r (some s.moveId)).beginDelivery d).enqueue m := by
  rw [State.acceptMove, lockStock_of_slots hload hsrc hdst]
  rfl

theorem lock_acceptMove_of_slots (hother : d ≠ r) (q : SlotRef) (mv : Nat) (f : StockRec → StockRec) :
    (((s.modRec id f).setPick r (some mv)).beginDelivery d).lock q =
      if q = d then { s.lock d with deliveries := (s.lock d).deliveries + 1 }
      else if q = r then { s.lock r with pick := some mv } else s.lock q := by
  refine (lock_beginDelivery _ d q).trans ?_
  rw [lock_setPick, lock_setPick, if_neg hother]
  rfl

end Stock

/-- Settles O50. -/
theorem movesArePosted : Obligations.MovesArePosted := by
  intro b s htakes hset
  refine ⟨exec_movePost_of_setup hset htakes, fun hmode => ⟨exec_movePost_of_range hmode htakes hset,
    fun fl hfl hpriority => ⟨fun z hnone hzone => ?_, fun x r d n hstock hrec hstate hloc htop hoff hlock hdst hkind hother
      hdelivery hroom => ?_⟩⟩⟩
  · have hload : postLoad b = some .none := by simp only [postLoad, hnone]
    have htest : s.postTest (postOf b .none fl) = .ok ((postOf b .none fl).draft .none none (.zone z) false) :=
      postTest_of_none rfl hzone
    have hle : b.dstZone ≤ 15 := by omega
    refine ⟨exec_movePost_of_full hmode htakes hload (flagByte_of_flag hfl) hpriority hle hset htest, fun hroom => ?_⟩
    rw [exec_movePost_of_test hmode htakes hload (flagByte_of_flag hfl) hpriority hle htest hroom, acceptMove_of_none rfl]
    exact congrArg _ (Quiet.settle ((quiet_accept _).2 (quiet_enqueue _ (Quiet.refl s))) hset)
  · have hload : postLoad b = some (.stock b.ref) := by simp only [postLoad, hstock]
    have htest := postTest_of_available (p := postOf b (.stock b.ref) fl) rfl rfl hrec hstate hloc htop hoff hlock hdst hkind
      hother hdelivery
    have hle : b.dstZone ≤ 15 := by
      obtain ⟨hz, -, -⟩ := slotRef_spec hdst
      omega
    have haccept := acceptMove_of_slots (s := s) (m := (postOf b (.stock b.ref) fl).draft (.slot r) (some r.zone) (.slot d) false)
      rfl rfl rfl
    have hquiet : Quiet s ((s.acceptMove ((postOf b (.stock b.ref) fl).draft (.slot r) (some r.zone) (.slot d) false)).accept
        (.moveId s.moveId)) := by
      rw [haccept]
      exact (quiet_accept _).2 (quiet_enqueue _ ((quiet_setLock _ _).2 ((quiet_setLock _ _).2 ((quiet_modRec _ _).2
        (Quiet.refl s)))))
    have hlocks := lock_acceptMove_of_slots (s := s) (id := b.ref) hother
    have hexec := exec_movePost_of_test hmode htakes hload (flagByte_of_flag hfl) hpriority hle htest hroom
    rw [hquiet.settle hset, haccept] at hexec
    refine ⟨_, hexec, rfl, rfl, ?_, ?_, fun q hqr hqd => ?_, rfl, rfl, rfl, rfl, rfl, rfl, rfl, rfl, rfl⟩
    · refine (hlocks r s.moveId (StockRec.underMove s.moveId)).trans ?_
      rw [if_neg hother.symm, if_pos rfl, hlock]
    · exact (hlocks d s.moveId (StockRec.underMove s.moveId)).trans (if_pos rfl)
    · refine (hlocks q s.moveId (StockRec.underMove s.moveId)).trans ?_
      rw [if_neg hqd, if_neg hqr]

end Sys2Proof.Machine

/-! MOVE_CANCEL, MOVE_QUERY, CRANE_STATUS and CRANE_CONFIG (R180, R185 to R187). -/

namespace Sys2Proof.Machine

theorem exec_moveCancel (id : Nat) (s : State) : exec (.moveCancel id) s = execMoveCancel id s := by rfl

theorem exec_moveQuery (id : Nat) (s : State) : exec (.moveQuery id) s = execMoveQuery id s := by rfl

theorem exec_craneStatus (n : Nat) (s : State) : exec (.craneStatus n) s = execCraneStatus n s := by rfl

theorem exec_craneConfig (n : Nat) (p : CraneParams) (s : State) : exec (.craneConfig n p) s = execCraneConfig n p s := by rfl

/-! ## What a handling owes -/

/-- The state that owes a stock-change event where it did or where a condition holds. -/
def State.owing (s : State) (b : Bool) : State := { s with stock := { s.stock with changed := b || s.stock.changed } }

theorem stockChanged_eq_owing (s : State) : s.stockChanged = s.owing true := by
  rw [State.owing, Bool.true_or]
  rfl

theorem owing_false (s : State) : s.owing false = s := by
  rw [State.owing, Bool.false_or]

theorem owing_of_changed {s : State} (h : s.stock.changed = true) (b : Bool) : s.owing b = s.stockChanged := by
  rw [State.owing, h, Bool.or_true]
  rfl

theorem takeChanged_eq (s : State) : s.takeChanged =
    { s with stock := { s.stock with events := s.stock.events + s.stock.changed.toNat, changed := false } } := by
  cases h : s.stock.changed with
  | true => rw [takeChanged_of_changed s h]; rfl
  | false =>
    rw [takeChanged_of_clean s h]
    exact congrArg (fun b => ({ s with stock := { s.stock with changed := b } } : State)) h

/-- The end of a delivery off the beds (R11, R13). -/
theorem endDelivery_of_off {s : State} {d : SlotRef} (h : s.bedTable d = none) : s.endDelivery d =
    (s.setLock d { s.lock d with deliveries := (s.lock d).deliveries - 1 }).owing (decide ((s.lock d).deliveries = 1)) := by
  have hbed : (s.setLock d { s.lock d with deliveries := (s.lock d).deliveries - 1 }).bedTable d = none := h
  rw [State.endDelivery]
  dsimp only
  by_cases hlast : (s.lock d).deliveries = 1
  · rw [if_pos hlast, decide_eq_true hlast, ← stockChanged_eq_owing, State.slotLeft, hbed]
    split <;> rfl
  · rw [if_neg hlast, decide_eq_false hlast, owing_false]

/-! ## MOVE_CANCEL (R185) -/

section Cancel

variable {s : State} {id : Nat} {m : MoveRec}

theorem withMove_of_none {f : MoveRec → State} (hmode : s.hall.mode ≠ .setup) (h : s.move id = none) :
    s.withMove id f = s.refuse .notFound := by
  rw [State.withMove, notInSetup_of_running hmode, h]

theorem withMove_of_some {f : MoveRec → State} (hmode : s.hall.mode ≠ .setup) (h : s.move id = some m) :
    s.withMove id f = f m := by
  rw [State.withMove, notInSetup_of_running hmode, h]

variable (htakes : s.takes (.moveCancel id)) (hmode : s.hall.mode ≠ .setup)
include htakes hmode

theorem exec_moveCancel_of_none (hset : s.settled) (h : s.move id = none) :
    exec (.moveCancel id) s = .next (s.refuse .notFound) := by
  rw [exec_moveCancel, execMoveCancel, request_of_takes _ _ _ htakes, withMove_of_none hmode h, settle_refuse s hset]

theorem exec_moveCancel_of_some (h : s.move id = some m) : exec (.moveCancel id) s = .next (State.settle (
    if m.origin ≠ .host then s.refuse .owned
    else if m.state ≠ .queued then s.refuse .badState
    else (s.cancelMove m).accept .none)) := by
  rw [exec_moveCancel, execMoveCancel, request_of_takes _ _ _ htakes, withMove_of_some hmode h]

end Cancel

/-- A queue-space signal that no table waits for. -/
theorem comesTo_of_queueSpace {s : State} (hnobody : s.moves.spaceWaits = []) (ts : List Task) :
    (s.push (.queueSpace :: ts)).comesTo 1 (s.push ts) := by
  refine comesTo_push _ ts ?_
  show (s.push ts).push ((s.push ts).moves.spaceWaits.map Task.postAgain) = _
  rw [show (s.push ts).moves.spaceWaits = [] from hnobody]
  rfl

/-- The state without a move in the queue. -/
def State.unqueued (s : State) (id : Nat) : State := s.setQueue (s.moves.queue.filter (fun k => k.id ≠ id))

theorem cancelMove_of_other {s : State} {m : MoveRec} (h : ∀ r, m.load ≠ .stock r) :
    s.cancelMove m = (s.unqueued m.id).push [.queueSpace] := by
  rw [State.cancelMove]
  cases hload : m.load with
  | stock r => exact absurd hload (h r)
  | batch tag => rfl
  | none => rfl

/-- The state in which a cancelled move of a record that was AVAILABLE has left its slots, its stock-change event owed. -/
def State.cancelled (s : State) (mv id : Nat) (r d : SlotRef) : State :=
  let s' := ((s.unqueued mv).setPick r none).modRec id (fun x =>
    { x with state := .available, table := none, before := none, move := none })
  (s'.setLock d { s'.lock d with deliveries := (s'.lock d).deliveries - 1 }).stockChanged

theorem lock_cancelled_of_ne (s : State) (mv id : Nat) {r d q : SlotRef} (h : q ≠ d) :
    (s.cancelled mv id r d).lock q = ((s.unqueued mv).setPick r none).lock q := lock_setLock_of_ne _ d q _ h

/-- A cancelled move of a record that was AVAILABLE in a slot, to a slot off the beds. -/
theorem cancelMove_of_available {s : State} {m : MoveRec} {x : StockRec} {r d : SlotRef} (hload : m.load = .stock x.id)
    (hsrc : m.src = .slot r) (hdst : m.dst = .slot d) (hrec : s.stockRec x.id = some x) (hbefore : x.before = some .available)
    (hoff : s.bedTable d = none) : s.cancelMove m = (s.cancelled m.id x.id r d).push [.queueSpace] := by
  have hback : (((s.setQueue (s.moves.queue.filter (fun k => k.id ≠ m.id))).push [.queueSpace]).stockRec x.id).bind
      StockRec.before = some .available := by
    show (s.stockRec x.id).bind StockRec.before = _
    rw [hrec]
    exact hbefore
  rw [State.cancelMove]
  simp only [hload, hsrc, hdst, hback, if_true]
  exact (endDelivery_of_off (by exact hoff)).trans ((owing_of_changed rfl _).trans rfl)

/-- Settles O51. -/
theorem moveRequestsAnswer : Obligations.MoveRequestsAnswer := by
  intro s hset
  refine ⟨fun id htakes hmode => ⟨exec_moveCancel_of_none htakes hmode hset, fun m hm => ?_⟩, fun id htakes => ?_,
    fun n htakes => ?_, fun n p htakes => ?_⟩
  · have hexec := exec_moveCancel_of_some htakes hmode hm
    have hid := State.move_id hm
    refine ⟨fun horigin => ?_, fun horigin hstate => ?_, fun horigin hstate hnobody => ?_⟩
    · rw [hexec, if_pos horigin, settle_refuse s hset]
    · rw [hexec, if_neg (Classical.not_not.2 horigin), if_pos hstate, settle_refuse s hset]
    · rw [if_neg (Classical.not_not.2 horigin), if_neg (Classical.not_not.2 hstate)] at hexec
      refine ⟨fun hother => ?_, fun x r d hload hsrc hdst hrec hbefore hoff hne hdel => ?_⟩
      · have hcomes := comesTo_of_queueSpace (s := (s.unqueued id).accept .none) hnobody []
        rw [hexec, cancelMove_of_other hother, hid]
        exact congrArg _ (settle_of_comesTo_clean hcomes (by decide) hset.1 hset.2.1)
      · have hcomes := comesTo_of_queueSpace (s := (s.cancelled id x.id r d).accept .none) hnobody []
        rw [cancelMove_of_available hload hsrc hdst hrec hbefore hoff, hid] at hexec
        have hsettle := settle_of_comesTo hcomes (by decide) hset.1
        rw [takeChanged_eq] at hsettle
        refine ⟨_, hexec.trans (congrArg _ hsettle), rfl, rfl, ?_, ?_, ?_, rfl, rfl, rfl⟩
        · exact stockRec_modRec_same (s := (s.unqueued id).setPick r none) hrec (fun _ => rfl)
        · exact (lock_cancelled_of_ne s id x.id hne.symm).trans ((lock_setPick _ r r none).trans (if_pos rfl))
        · refine (lock_setLock_same _ d _).trans ?_
          show ({ ((s.unqueued id).setPick r none).lock d with
            deliveries := (((s.unqueued id).setPick r none).lock d).deliveries - 1 } : SlotLock) = _
          rw [lock_setPick, if_neg hne]
          rfl
  · rw [exec_moveQuery, execMoveQuery, ask_of_takes _ _ _ htakes]
    refine ⟨fun hall => if_pos hall ▸ rfl, fun hone hnone => ?_, fun m hone hsome => ?_⟩
    · rw [if_neg hone, hnone]
    · rw [if_neg hone, hsome]
      rfl
  · rw [exec_craneStatus, execCraneStatus, ask_of_takes _ _ _ htakes]
    refine ⟨fun hrange => congrArg _ (withCrane_of_range hrange), ?_⟩
    rintro c rfl
    exact ⟨fun habsent => congrArg _ (withCrane_of_absent habsent), fun hfit => congrArg _ (withCrane_of_fitted hfit)⟩
  · rw [exec_craneConfig, execCraneConfig, ask_of_takes _ _ _ htakes]
    refine ⟨fun hrange => congrArg _ (withCrane_of_range hrange), ?_⟩
    rintro c rfl
    refine ⟨fun habsent => congrArg _ (withCrane_of_absent habsent), fun hfit => ?_⟩
    rw [withCrane_of_fitted hfit]
    exact ⟨fun hbad => by rw [if_pos (by simp [hbad])], fun hok => by rw [if_neg (by simp [hok])]; rfl⟩

end Sys2Proof.Machine

/-! The rules of a crane move: the command of a phase, a position, a fault, and a dispatch attempt (R161, R168 to R175). -/

namespace Sys2Proof.Machine

theorem exec_dispatchAttempt (s : State) : exec .dispatchAttempt s = execDispatchAttempt s := by rfl

theorem exec_arrived (n : Nat) (marker : Bool) (zone : Nat) (s : State) :
    exec (.arrived n marker zone) s = execArrived n marker zone s := by rfl

/-! ## Reports of a crane in an offer window (R196, Table 10-4) -/

section Reports

variable {s : State} {c : CraneId} {e : Nat}

theorem exec_arrived_of_offer (hrun : s.hall.inReset = false)
    (hwindow : s.line.window = some { unit := craneUnit c, kind := .offer, expiry := e }) (zone : Nat) :
    exec (.arrived (c.val + 5) false zone) s = .next (s.closeWindow.takeArrived c zone).settle := by
  have hunit : c.val + 5 = (craneUnit c).val + 1 := rfl
  have howner : ownerOf (craneUnit c) = .crane c := ownerOf_craneUnit c
  rw [exec_arrived, execArrived, handled_of_running _ s hrun, hunit, receive_of_offer _ _ hwindow]
  simp [State.receiveReport, FieldMsg.isReport, State.deliver, howner]

theorem craneMove_of_some {m : MoveRec} (hmove : (s.crane c).move = some m.id) (hm : s.move m.id = some m) :
    s.craneMove c = some m := by
  rw [State.craneMove, hmove]
  exact hm

end Reports

/-! ## The command of a phase (R171) -/

/-- The state in which a free crane unit has been handed a command of the controller. -/
def State.craneHanded (s : State) (c : CraneId) (cmd : FieldCmd) : State :=
  s.countHand.modUnit (craneUnit c) (fun r => { r with
    out := some { cmd := { cmd := cmd, sender := .cranes, hand := s.line.nextHand }, attempt := 1, inFlight := false } })

theorem handTo_crane {s : State} {c : CraneId} (cmd : FieldCmd) (honline : (s.unit (craneUnit c)).link = .online)
    (hout : (s.unit (craneUnit c)).out = none) : s.handTo (craneUnit c) cmd .cranes = s.craneHanded c cmd :=
  handTo_of_free (UnitRec.takes_of_online honline _) hout

/-- The state in which a move has entered a phase, its command handed to the crane's unit. -/
def State.commanded (s : State) (c : CraneId) (mv : Nat) (p : Phase) (cmd : FieldCmd) : State :=
  ((s.modMove mv (fun m => { m with phase := some p })).modCrane c
    (fun r => { r with timer := none, hand := some s.line.nextHand })).craneHanded c cmd

section Commanded

variable (s : State) (c : CraneId) (mv : Nat) (p : Phase) (cmd : FieldCmd)

theorem craneHanded_unit : (s.craneHanded c cmd).unit (craneUnit c) = { s.unit (craneUnit c) with
    out := some { cmd := { cmd := cmd, sender := .cranes, hand := s.line.nextHand }, attempt := 1, inFlight := false } } :=
  State.unit_modUnit_same s.countHand (craneUnit c) _

theorem commanded_crane :
    (s.commanded c mv p cmd).crane c = { s.crane c with timer := none, hand := some s.line.nextHand } :=
  State.crane_modCrane_same (s.modMove mv (fun m => { m with phase := some p })) c
    (fun r => { r with timer := none, hand := some s.line.nextHand })

theorem commanded_crane_of_ne {k : CraneId} (h : k ≠ c) : (s.commanded c mv p cmd).crane k = s.crane k :=
  State.crane_modCrane_of_ne (s.modMove mv (fun m => { m with phase := some p }))
    (fun r => { r with timer := none, hand := some s.line.nextHand }) h

@[simp] theorem commanded_work : (s.commanded c mv p cmd).work = s.work := rfl
@[simp] theorem commanded_stock : (s.commanded c mv p cmd).stock = s.stock := rfl
@[simp] theorem commanded_tables : (s.commanded c mv p cmd).tables = s.tables := rfl
@[simp] theorem commanded_guards : (s.commanded c mv p cmd).guards = s.guards := rfl
@[simp] theorem commanded_flags : (s.commanded c mv p cmd).flags = s.flags := rfl
@[simp] theorem commanded_alloc : (s.commanded c mv p cmd).alloc = s.alloc := rfl
@[simp] theorem commanded_composer : (s.commanded c mv p cmd).composer = s.composer := rfl
@[simp] theorem commanded_host : (s.commanded c mv p cmd).host = s.host := rfl
@[simp] theorem commanded_hall : (s.commanded c mv p cmd).hall = s.hall := rfl
@[simp] theorem commanded_window : (s.commanded c mv p cmd).line.window = s.line.window := rfl
@[simp] theorem commanded_attempts : (s.commanded c mv p cmd).moves.attempts = s.moves.attempts := rfl

/-- Entering a phase changes the move, the crane and the field line alone. -/
theorem commanded_frame : ∃ ms l, s.commanded c mv p cmd = { s with moves := ms, line := l } := ⟨_, _, rfl⟩

theorem commanded_unit : (s.commanded c mv p cmd).unit (craneUnit c) = { s.unit (craneUnit c) with
    out := some { cmd := { cmd := cmd, sender := .cranes, hand := s.line.nextHand }, attempt := 1, inFlight := false } } :=
  craneHanded_unit _ c cmd

theorem commanded_move {m : MoveRec} (h : s.move mv = some m) :
    (s.commanded c mv p cmd).move mv = some { m with phase := some p } :=
  State.move_modMove_same (fun m => { m with phase := some p }) (fun _ => rfl) h

end Commanded

/-- A phase with a command is entered. -/
theorem comesTo_enterPhase {s : State} {c : CraneId} {mv : Nat} {m : MoveRec} {p : Phase} {cmd : FieldCmd}
    (hm : s.move mv = some m) (hcrane : m.crane = some c) (hcmd : phaseCmd m p = some cmd)
    (honline : (s.unit (craneUnit c)).link = .online) (hout : (s.unit (craneUnit c)).out = none) (ts : List Task) :
    (s.push (.enterPhase mv p :: ts)).comesTo 1 ((s.commanded c mv p cmd).push ts) := by
  refine comesTo_push _ ts ?_
  have hm' : (s.push ts).move mv = some m := hm
  show runEnterPhase mv p (s.push ts) = _
  rw [runEnterPhase, hm']
  dsimp only
  rw [hcrane]
  dsimp only
  rw [hcmd]
  exact handTo_crane (s := ((s.push ts).modMove mv (fun m => { m with phase := some p })).modCrane c
    (fun r => { r with timer := none, hand := some s.line.nextHand })) cmd honline hout

/-! ## A fault of a move (R175) -/

/-- The state in which a crane has halted for a fault of its move. -/
def State.faultHalted (s : State) (m : MoveRec) (c : CraneId) : State :=
  ((s.modCrane c (fun r => { r with timer := none, hand := none, state := .halted, cause := some .fault })).craneHanded
    c .stop).modMove m.id (fun m => { m with state := .faulted })

/-- The state in which a record on the hook of a crane is HELD. -/
def State.hookHeld (s : State) (c : CraneId) : State :=
  match (s.crane c).hook with
  | .stock id => s.modRec id (fun x => { x with state := .held, before := none })
  | _ => s

/-- The fault that a move fault hands to the first-fault record; none for UNIT_LOST. -/
def MoveFaultCode.captured : MoveFaultCode → Option FaultCode
  | .unitLost => none
  | .craneFault => some .craneFault
  | .craneTimeout => some .craneTimeout

section Faults

variable {s : State} {m : MoveRec} {c : CraneId} {code : MoveFaultCode} {fc : FaultCode}

theorem faultHalted_crane : (s.faultHalted m c).crane c =
    { s.crane c with timer := none, hand := none, state := .halted, cause := some .fault } :=
  State.crane_modCrane_same s c (fun r => { r with timer := none, hand := none, state := .halted, cause := some .fault })

theorem faultHalted_crane_of_ne {k : CraneId} (h : k ≠ c) : (s.faultHalted m c).crane k = s.crane k :=
  State.crane_modCrane_of_ne s (fun r => { r with timer := none, hand := none, state := .halted, cause := some .fault }) h

theorem faultHalted_move (h : s.move m.id = some m) : (s.faultHalted m c).move m.id = some { m with state := .faulted } :=
  State.move_modMove_same (s := (s.modCrane c (fun r =>
    { r with timer := none, hand := none, state := .halted, cause := some .fault })).craneHanded c .stop)
    (fun m => { m with state := .faulted }) (fun _ => rfl) h

theorem faultHalted_unit : ((s.faultHalted m c).unit (craneUnit c)).out = some
    { cmd := { cmd := .stop, sender := .cranes, hand := s.line.nextHand }, attempt := 1, inFlight := false } :=
  congrArg UnitRec.out (craneHanded_unit _ c .stop)

@[simp] theorem faultHalted_guards : (s.faultHalted m c).guards = s.guards := rfl
@[simp] theorem faultHalted_stock : (s.faultHalted m c).stock = s.stock := rfl
@[simp] theorem faultHalted_tables : (s.faultHalted m c).tables = s.tables := rfl
@[simp] theorem faultHalted_alloc : (s.faultHalted m c).alloc = s.alloc := rfl

/-- What making a record on a hook HELD changes is the stock table's records. -/
theorem hookHeld_frame (s : State) (c : CraneId) : ∃ l, s.hookHeld c = s.setRecs l := by
  unfold State.hookHeld
  split
  · exact ⟨_, rfl⟩
  · exact ⟨s.stock.recs, rfl⟩

theorem hookHeld_of_empty (h : (s.crane c).hook = .empty) : s.hookHeld c = s := by
  rw [State.hookHeld, h]

theorem hookHeld_of_stock {id : Nat} (h : (s.crane c).hook = .stock id) :
    s.hookHeld c = s.modRec id (fun x => { x with state := .held, before := none }) := by
  rw [State.hookHeld, h]

/-- A fault of a move that is not STOPPED, on a free crane unit. -/
theorem faultMove_of_online (hcode : code.captured = some fc) (hstate : m.state ≠ .stopped)
    (honline : (s.unit (craneUnit c)).link = .online) (hout : (s.unit (craneUnit c)).out = none) :
    s.faultMove m c code = ((((s.faultHalted m c).hookHeld c).raise (.moveFault m.id m.origin c m.phase code
      (decide ((s.crane c).hook ≠ .empty)))).capture .unit (.crane c) fc (some m.id)).push [.tellOrigin m .faulted] := by
  have hlost : code ≠ .unitLost := by
    rintro rfl
    cases hcode
  have hhanded := handTo_crane (s := s.modCrane c (fun r =>
    { r with timer := none, hand := none, state := .halted, cause := some .fault })) .stop honline hout
  have hheld : (((s.faultHalted m c).hookHeld c).crane c).hook = (s.crane c).hook := by
    obtain ⟨l, h⟩ := hookHeld_frame (s.faultHalted m c) c
    rw [h, State.setRecs_crane, faultHalted_crane]
  unfold State.faultMove
  simp only [hlost, hstate, decide_false, Bool.or_self, Bool.false_eq_true, if_false]
  rw [hhanded]
  cases code with
  | unitLost => exact absurd rfl hlost
  | craneFault =>
    cases hcode
    rw [← hheld]
    rfl
  | craneTimeout =>
    cases hcode
    rw [← hheld]
    rfl

end Faults

/-- What a capture leaves: the fault where the record was empty, and no report where it keeps what it holds. -/
theorem capture_outcome (s : State) (cls : FaultClass) (src : FaultSource) (code : FaultCode) (index : Option Nat) :
    ∃ f h, s.capture cls src code index = { s with hall := { s.hall with fault := f }, host := h }
      ∧ (s.hall.fault.held = none →
        f.held = some { cls := cls, src := src, code := code, clock := s.hall.clock, index := index })
      ∧ (∀ g, s.hall.fault.held = some g → cls.rank ≤ g.cls.rank → h = s.host) := by
  cases hheld : s.hall.fault.held with
  | none =>
    obtain ⟨f, h, hcapture, hsome⟩ := capture_spec s cls src code index
    exact ⟨f, h, hcapture, fun _ => hsome hheld, fun g hg => nomatch hg⟩
  | some g =>
    by_cases hrank : g.cls.rank < cls.rank
    · obtain ⟨f, h, hcapture⟩ := capture_frame s cls src code index
      refine ⟨f, h, hcapture, (fun hnone => nomatch hnone), fun g' hg' hle => ?_⟩
      cases hg'
      exact absurd hrank (Nat.not_lt.2 hle)
    · refine ⟨{ held := some g, later := min (s.hall.fault.later + 1) Config.lastLater }, s.host, ?_, (fun hnone => nomatch hnone),
        fun _ _ _ => rfl⟩
      unfold State.capture
      rw [hheld]
      exact if_neg hrank

theorem runTellOrigin_of_host {m : MoveRec} (h : m.origin = .host) (e : MoveEnd) (s : State) : runTellOrigin m e s = s := by
  rw [runTellOrigin, h]

/-- A move of the host has no table to tell of its end. -/
theorem comesTo_tellOrigin {s : State} {m : MoveRec} (h : m.origin = .host) (e : MoveEnd) (ts : List Task) :
    (s.push (.tellOrigin m e :: ts)).comesTo 1 (s.push ts) :=
  comesTo_push _ ts (runTellOrigin_of_host h e (s.push ts))

/-- What a fault of a move of the host comes to. -/
theorem settle_faultMove {s : State} (hwork : s.work = []) (hclean : s.stock.changed = false) {m : MoveRec} {c : CraneId}
    {code : MoveFaultCode} {fc : FaultCode} (hcode : code.captured = some fc) (hstate : m.state ≠ .stopped)
    (horigin : m.origin = .host) (honline : (s.unit (craneUnit c)).link = .online) (hout : (s.unit (craneUnit c)).out = none) :
    ∃ f h, (s.faultMove m c code).settle = ({ (s.faultHalted m c).hookHeld c with
        hall := { s.hall with fault := f }, host := h } : State).followBeacons
      ∧ (s.hall.fault.held = none → f.held = some
        { cls := .unit, src := .crane c, code := fc, clock := s.hall.clock, index := some m.id })
      ∧ (∀ g, s.hall.fault.held = some g → 2 ≤ g.cls.rank → h = s.host.report
        (.moveFault m.id .host c m.phase code (decide ((s.crane c).hook ≠ .empty)))) := by
  obtain ⟨l, hhold⟩ := hookHeld_frame (s.faultHalted m c) c
  obtain ⟨f, h, hcapture, hnone, hkept⟩ := capture_outcome (((s.faultHalted m c).hookHeld c).raise (.moveFault m.id m.origin c
    m.phase code (decide ((s.crane c).hook ≠ .empty)))) .unit (.crane c) fc (some m.id)
  rw [hhold] at hnone hkept
  have hcomes := comesTo_tellOrigin (s := (((s.faultHalted m c).hookHeld c).raise (.moveFault m.id m.origin c
    m.phase code (decide ((s.crane c).hook ≠ .empty)))).capture .unit (.crane c) fc (some m.id)) horigin .faulted []
  have hend := settle_of_comesTo_clean hcomes (by decide) (by rw [hcapture, hhold]; exact hwork)
    (by rw [hcapture, hhold]; exact hclean)
  refine ⟨f, h, ?_, hnone, fun g hg hrank => ?_⟩
  · rw [faultMove_of_online hcode hstate honline hout, hend]
    rw [State.push_nil, hcapture, hhold]
    rfl
  · rw [hkept g hg hrank, ← horigin]
    rfl

/-! ## A dispatch attempt (R168 to R170) -/

section Dispatch

variable {s : State} {m : MoveRec} {c : CraneId} {rest : List CraneId} {p z : Zone}

/-- The state in which one dispatch attempt has been taken. -/
def State.attemptTaken (s : State) : State := { s with moves := { s.moves with attempts := s.moves.attempts - 1 } }

theorem exec_dispatchAttempt_of_due (hrun : s.hall.inReset = false) (h : 0 < s.moves.attempts) : exec .dispatchAttempt s
    = .next (s.attemptTaken.push ((walkOrder s.moves.queue).map (fun m => Task.tryMove m.id))).settle := by
  rw [exec_dispatchAttempt, execDispatchAttempt, handled_of_running _ _ hrun, if_pos h]
  rfl

theorem walkOrder_of_none {q : List MoveRec} (h : ∀ m ∈ q, m.state ≠ .queued) : walkOrder q = [] := by
  have hempty (f : MoveRec → Bool) : q.filter (fun m => m.state = .queued && f m) = [] :=
    List.filter_eq_nil_iff.2 (fun m hm => by simp [h m hm])
  rw [walkOrder, hempty, hempty, List.append_nil]

theorem walkOrder_of_one (h : m.state = .queued) : walkOrder [m] = [m] := by
  cases hurgent : m.urgent <;> simp [walkOrder, h, hurgent]

/-- The move as a crane has it, its span claimed and no guard to ask. -/
def MoveRec.sentTo (m : MoveRec) (c : CraneId) (p : Zone) (phase : Phase) : MoveRec :=
  { m with
    crane := some c, span := some (spanFor p m), state := .dispatched, phase := some phase, holds := [],
    srcZone := some (m.srcZone.getD p) }

/-- The state in which a crane has been given a move. -/
def State.assigned (s : State) (m : MoveRec) (c : CraneId) (p : Zone) : State :=
  (s.modMove m.id (fun k => { k with
    crane := some c, span := some (spanFor p m), state := .dispatched, phase := some .holdWait, holds := [],
    srcZone := some (k.srcZone.getD p) })).modCrane c (fun r => { r with state := .busy, move := some m.id })

theorem dispatch_of_no_holds (hnone : s.holdSet (spanFor p m) = []) :
    s.dispatch m c p = (s.assigned m c p).push [.travelCheck m.id] := by
  rw [State.dispatch]
  simp only [hnone]
  rfl

theorem comesTo_tryMove (hm : s.move m.id = some m) (hstate : m.state = .queued) (hcranes : s.cranesFor m = c :: rest)
    (hpos : (s.crane c).pos = some p) (hclear : s.spanClear c (spanFor p m) = true)
    (hnone : s.holdSet (spanFor p m) = []) :
    (s.push [.tryMove m.id]).comesTo 1 ((s.assigned m c p).push [.travelCheck m.id]) := by
  refine comesTo_push _ [] ?_
  show runTryMove m.id s = _
  rw [runTryMove, hm]
  dsimp only
  rw [if_pos hstate, hcranes, State.tryCranes, hpos]
  dsimp only
  rw [if_pos hclear, dispatch_of_no_holds hnone]

theorem assigned_move (hm : s.move m.id = some m) : (s.assigned m c p).move m.id = some (m.sentTo c p .holdWait) :=
  State.move_modMove_same (fun k : MoveRec => { k with
    crane := some c, span := some (spanFor p m), state := .dispatched, phase := some .holdWait, holds := [],
    srcZone := some (k.srcZone.getD p) }) (fun _ => rfl) hm

@[simp] theorem assigned_guards : (s.assigned m c p).guards = s.guards := rfl
@[simp] theorem assigned_stock : (s.assigned m c p).stock = s.stock := rfl
@[simp] theorem assigned_tables : (s.assigned m c p).tables = s.tables := rfl
@[simp] theorem assigned_host : (s.assigned m c p).host = s.host := rfl

theorem assigned_crane : (s.assigned m c p).crane c = { s.crane c with state := .busy, move := some m.id } :=
  State.crane_modCrane_same (s.modMove m.id _) c (fun r => { r with state := .busy, move := some m.id })

/-- A NONE move without a hold to wait for sets out to its destination. -/
theorem comesTo_travelCheck (hm : s.move m.id = some m) (hload : m.load = .none) (hdst : m.dst = .zone z)
    (hpos : (s.crane c).pos = some p) (hne : p ≠ z) :
    ((s.assigned m c p).push [.travelCheck m.id]).comesTo 1 ((s.assigned m c p).push [.enterPhase m.id .toDest]) := by
  have hat : (((s.assigned m c p).push []).crane c).pos = some p := (congrArg CraneRec.pos assigned_crane).trans hpos
  have hfirst : firstPhase (m.sentTo c p .holdWait) p = some .toDest := by
    simp [firstPhase, MoveRec.sentTo, hload, hdst, Dst.zoneOf, hne]
  refine comesTo_push _ [] ?_
  show runTravelCheck m.id ((s.assigned m c p).push []) = _
  rw [runTravelCheck, show ((s.assigned m c p).push []).move m.id = _ from assigned_move hm]
  dsimp only
  rw [show (m.sentTo c p .holdWait).crane.bind (fun k => (((s.assigned m c p).push []).crane k).pos) = some p from hat]
  dsimp only
  rw [if_pos ⟨rfl, rfl, rfl⟩, hfirst]
  rfl

end Dispatch

/-! ## ARRIVED (R161, R171) -/

section Arrived

variable {s : State} {m : MoveRec} {c : CraneId} {z : Zone} {a : Span}

/-- A position inside the move's span. -/
theorem setPosition_of_span (hmove : (s.crane c).move = some m.id) (hm : s.move m.id = some m) (hspan : m.span = some a)
    (hhas : a.has z = true) : s.setPosition c z = s.modCrane c (fun r => { r with pos := some z }) := by
  refine setPosition_of_inside (fun k hk => ?_)
  rw [hmove, Option.bind_some, hm] at hk
  cases hk
  exact ⟨a, hspan, hhas⟩

/-- ARRIVED of a move in TO_SOURCE. -/
theorem takeArrived_of_toSource (hmove : (s.crane c).move = some m.id) (hm : s.move m.id = some m) (hspan : m.span = some a)
    (hhas : a.has z = true) (hstate : m.state = .dispatched) (hphase : m.phase = some .toSource) :
    s.takeArrived c z.val = (if m.srcZone = some z
      then ((s.modCrane c (fun r => { r with pos := some z })).stopTimer c).atSource m z
      else (s.modCrane c (fun r => { r with pos := some z })).faultMove m c .craneFault) := by
  have hat : (s.modCrane c (fun r => { r with pos := some z })).craneMove c = some m :=
    craneMove_of_some (m := m) ((congrArg CraneRec.move (State.crane_modCrane_same s c
      (fun r => { r with pos := some z }))).trans hmove) hm
  rw [State.takeArrived, dif_pos z.isLt]
  dsimp only
  rw [setPosition_of_span hmove hm hspan hhas, hat]
  dsimp only
  rw [if_pos hstate, hphase]

/-- The state in which a move at its source has narrowed its span, a dispatch attempt due. -/
def State.narrowed (s : State) (m : MoveRec) (c : CraneId) (z : Zone) : State :=
  (((s.modCrane c (fun r => { r with pos := some z })).stopTimer c).modMove m.id (fun k => { k with
    span := some ((Span.at z).join m.dst.zoneOf),
    holds := k.holds.filter (fun h => ((Span.at z).join m.dst.zoneOf).has h.zone) })).wantAttempt

theorem atSource_of_inside (h : ∀ k ∈ m.holds, ((Span.at z).join m.dst.zoneOf).has k.zone = true) :
    ((s.modCrane c (fun r => { r with pos := some z })).stopTimer c).atSource m z
      = (s.narrowed m c z).push [.enterPhase m.id .picking] := by
  have hout : m.holds.filter (fun k => !((Span.at z).join m.dst.zoneOf).has k.zone) = [] :=
    List.filter_eq_nil_iff.2 (fun k hk => by simp [h k hk])
  rw [State.atSource, hout]
  rfl

theorem narrowed_move (hm : s.move m.id = some m)
    (h : ∀ k ∈ m.holds, ((Span.at z).join m.dst.zoneOf).has k.zone = true) :
    (s.narrowed m c z).move m.id = some { m with span := some ((Span.at z).join m.dst.zoneOf) } := by
  have hholds : m.holds.filter (fun k => ((Span.at z).join m.dst.zoneOf).has k.zone) = m.holds :=
    List.filter_eq_self.2 h
  refine (State.move_modMove_same (s := (s.modCrane c (fun r => { r with pos := some z })).stopTimer c) (fun k : MoveRec =>
    { k with
      span := some ((Span.at z).join m.dst.zoneOf),
      holds := k.holds.filter (fun h => ((Span.at z).join m.dst.zoneOf).has h.zone) }) (fun _ => rfl) hm).trans ?_
  rw [hholds]

@[simp] theorem narrowed_work : (s.narrowed m c z).work = s.work := rfl
@[simp] theorem narrowed_guards : (s.narrowed m c z).guards = s.guards := rfl
@[simp] theorem narrowed_stock : (s.narrowed m c z).stock = s.stock := rfl
@[simp] theorem narrowed_tables : (s.narrowed m c z).tables = s.tables := rfl
@[simp] theorem narrowed_host : (s.narrowed m c z).host = s.host := rfl
@[simp] theorem narrowed_attempts : (s.narrowed m c z).moves.attempts = s.moves.attempts + 1 := rfl
@[simp] theorem narrowed_window : (s.narrowed m c z).line.window = s.line.window := rfl

theorem stopped_crane : ((s.modCrane c (fun r => { r with pos := some z })).stopTimer c).crane c
    = { s.crane c with pos := some z, timer := none, hand := none } := by
  rw [State.stopTimer, State.crane_modCrane_same, State.crane_modCrane_same]

theorem stopped_crane_of_ne {k : CraneId} (h : k ≠ c) :
    ((s.modCrane c (fun r => { r with pos := some z })).stopTimer c).crane k = s.crane k := by
  rw [State.stopTimer, State.crane_modCrane_of_ne _ _ h, State.crane_modCrane_of_ne _ _ h]

end Arrived

/-- Settles O52. -/
theorem movesAreDispatched : Obligations.MovesAreDispatched := by
  refine ⟨fun s hrun hset => ⟨fun hnone => ?_, fun hdue hnone => ?_, fun m c rest p z hdue hqueue hstate hload hsrc hdst hcranes
    hpos hne hclear hholds honline hout => ?_⟩, fun s c m e z a hrun hset hwindow honline hout hmove hm hcrane hstate hphase
    hspan hhas => ⟨fun r hsrc hzone hinside => ?_, fun hother horigin hempty => ?_⟩⟩
  · rw [exec_dispatchAttempt, execDispatchAttempt, handled_of_running _ _ hrun, if_neg (by omega), settle_of_settled hset]
  · rw [exec_dispatchAttempt_of_due hrun hdue, walkOrder_of_none hnone]
    have hquiet : Quiet s s.attemptTaken :=
      ⟨rfl, rfl, rfl, rfl, rfl, rfl, fun _ => ⟨rfl, rfl⟩, fun _ => rfl⟩
    exact congrArg _ (hquiet.settle hset)
  · have hm : s.attemptTaken.move m.id = some m := by
      show s.moves.queue.find? _ = _
      rw [hqueue]
      simp
    have hexec := exec_dispatchAttempt_of_due hrun hdue
    rw [hqueue, walkOrder_of_one hstate, List.map_singleton] at hexec
    have htry := comesTo_tryMove (s := s.attemptTaken) hm hstate hcranes hpos hclear hholds
    have htravel := comesTo_travelCheck (s := s.attemptTaken) hm hload hdst hpos hne
    have hcmd : phaseCmd (m.sentTo c p .holdWait) .toDest = some (.goto z) := by
      simp [phaseCmd, MoveRec.sentTo, hdst, Dst.zoneOf]
    have henter := comesTo_enterPhase (s := s.attemptTaken.assigned m c p) (assigned_move hm) rfl hcmd honline hout []
    rw [State.push_nil] at henter
    have hend := settle_of_comesTo_clean ((htry.trans htravel).trans henter) (by decide) (by rw [commanded_work]; exact hset.1)
      (by rw [commanded_stock]; exact hset.2.1)
    refine ⟨_, hexec.trans (congrArg Host.Outcome.next hend), rfl, ?_, ?_, fun k hk => ?_, ?_, ?_, ?_, ?_, ?_⟩
    · show ((s.moves.queue.map _).map _) = _
      rw [hqueue]
      simp
    · refine (commanded_crane (s.attemptTaken.assigned m c p) c m.id .toDest (.goto z)).trans ?_
      rw [assigned_crane]
      rfl
    · refine (commanded_crane_of_ne (s.attemptTaken.assigned m c p) c m.id .toDest (.goto z) hk).trans ?_
      exact State.crane_modCrane_of_ne (s.attemptTaken.modMove m.id _) _ hk
    · exact congrArg UnitRec.out (commanded_unit (s.attemptTaken.assigned m c p) c m.id .toDest (.goto z))
    · rw [followBeacons_guards, commanded_guards, assigned_guards]
      rfl
    · rw [followBeacons_stock, commanded_stock, assigned_stock]
      rfl
    · rw [followBeacons_tables, commanded_tables, assigned_tables]
      rfl
    · rw [followBeacons_hostLine, commanded_host, assigned_host]
      rfl
  · have htake : s.closeWindow.takeArrived c z.val
        = (s.closeWindow.narrowed m c z).push [.enterPhase m.id .picking] := by
      rw [takeArrived_of_toSource (s := s.closeWindow) hmove hm hspan hhas hstate hphase, if_pos hzone,
        atSource_of_inside hinside]
    have hcmd : phaseCmd { m with span := some ((Span.at z).join m.dst.zoneOf) } .picking = some (.pick r.slot.val) := by
      simp [phaseCmd, hsrc]
    have henter := comesTo_enterPhase (s := s.closeWindow.narrowed m c z) (narrowed_move (s := s.closeWindow) hm hinside) hcrane
      hcmd honline hout []
    rw [State.push_nil] at henter
    have hend := settle_of_comesTo_clean henter (by decide) (by rw [commanded_work, narrowed_work]; exact hset.1)
      (by rw [commanded_stock, narrowed_stock]; exact hset.2.1)
    refine ⟨_, (exec_arrived_of_offer hrun hwindow z.val).trans (congrArg Host.Outcome.next
      ((congrArg State.settle htake).trans hend)), ?_, fun k hk => ?_, ?_, ?_, ?_, ?_, ?_, ?_, ?_, ?_⟩
    · refine (commanded_crane (s.closeWindow.narrowed m c z) c m.id .picking (.pick r.slot.val)).trans ?_
      rw [show (s.closeWindow.narrowed m c z).crane c = _ from stopped_crane (s := s.closeWindow)]
      rfl
    · exact (commanded_crane_of_ne (s.closeWindow.narrowed m c z) c m.id .picking (.pick r.slot.val) hk).trans
        (stopped_crane_of_ne (s := s.closeWindow) hk)
    · exact commanded_move (s.closeWindow.narrowed m c z) c m.id .picking (.pick r.slot.val)
        (narrowed_move (s := s.closeWindow) hm hinside)
    · exact congrArg UnitRec.out (commanded_unit (s.closeWindow.narrowed m c z) c m.id .picking (.pick r.slot.val))
    · rw [followBeacons_moves, commanded_attempts, narrowed_attempts]
      rfl
    · rw [followBeacons_line, commanded_window, narrowed_window]
      rfl
    · rw [followBeacons_guards, commanded_guards, narrowed_guards]
      rfl
    · rw [followBeacons_stock, commanded_stock, narrowed_stock]
      rfl
    · rw [followBeacons_tables, commanded_tables, narrowed_tables]
      rfl
    · rw [followBeacons_hostLine, commanded_host, narrowed_host]
      rfl
  · have htake := takeArrived_of_toSource (s := s.closeWindow) hmove hm hspan hhas hstate hphase
    rw [if_neg hother] at htake
    let s1 : State := s.closeWindow.modCrane c (fun r => { r with pos := some z })
    have hcrane1 : s1.crane c = { s.crane c with pos := some z } :=
      State.crane_modCrane_same s.closeWindow c (fun r => { r with pos := some z })
    obtain ⟨f, h, hend, -, -⟩ := settle_faultMove (s := s1) (code := .craneFault) hset.1 hset.2.1 rfl
      (fun h => nomatch hstate.symm.trans h) horigin honline hout
    have hhold : (s1.faultHalted m c).hookHeld c = s1.faultHalted m c :=
      hookHeld_of_empty (by rw [faultHalted_crane, hcrane1]; exact hempty)
    rw [hhold] at hend
    refine ⟨_, (exec_arrived_of_offer hrun hwindow z.val).trans (congrArg Host.Outcome.next
      ((congrArg State.settle htake).trans hend)), ?_, ?_, ?_, ?_, ?_, ?_⟩
    · refine (faultHalted_crane (s := s1)).trans ?_
      rw [hcrane1]
    · exact faultHalted_move (s := s1) hm
    · exact faultHalted_unit (s := s1) (m := m)
    · exact faultHalted_guards (s := s1) (m := m) (c := c)
    · exact faultHalted_stock (s := s1) (m := m) (c := c)
    · exact faultHalted_tables (s := s1) (m := m) (c := c)

end Sys2Proof.Machine

/-! PICKED and PLACED (R172, R173): a load is taken to the hook and weighed, laid down, and its move completed. -/

namespace Sys2Proof.Machine

theorem exec_picked (n : Nat) (marker : Bool) (kg : Nat) (s : State) :
    exec (.picked n marker kg) s = execPicked n marker kg s := by rfl

theorem exec_placed (n : Nat) (marker : Bool) (s : State) : exec (.placed n marker) s = execPlaced n marker s := by rfl

section Reports

variable {s : State} {c : CraneId} {e : Nat}

theorem exec_picked_of_offer (hrun : s.hall.inReset = false)
    (hwindow : s.line.window = some { unit := craneUnit c, kind := .offer, expiry := e }) (kg : Nat) :
    exec (.picked (c.val + 5) false kg) s = .next (s.closeWindow.takePicked c kg).settle := by
  have hunit : c.val + 5 = (craneUnit c).val + 1 := rfl
  have howner : ownerOf (craneUnit c) = .crane c := ownerOf_craneUnit c
  rw [exec_picked, execPicked, handled_of_running _ s hrun, hunit, receive_of_offer _ _ hwindow]
  simp [State.receiveReport, FieldMsg.isReport, State.deliver, howner]

theorem exec_placed_of_offer (hrun : s.hall.inReset = false)
    (hwindow : s.line.window = some { unit := craneUnit c, kind := .offer, expiry := e }) :
    exec (.placed (c.val + 5) false) s = .next (s.closeWindow.takePlaced c).settle := by
  have hunit : c.val + 5 = (craneUnit c).val + 1 := rfl
  have howner : ownerOf (craneUnit c) = .crane c := ownerOf_craneUnit c
  rw [exec_placed, execPlaced, handled_of_running _ s hrun, hunit, receive_of_offer _ _ hwindow]
  simp [State.receiveReport, FieldMsg.isReport, State.deliver, howner]

end Reports

/-! ## What the end of a handling leaves of a state -/

section TakeChanged

variable (s : State)

@[simp] theorem takeChanged_stockRec : s.takeChanged.stockRec = s.stockRec := by rw [takeChanged_eq]; rfl
@[simp] theorem takeChanged_lock : s.takeChanged.lock = s.lock := by rw [takeChanged_eq]; rfl
@[simp] theorem takeChanged_crane : s.takeChanged.crane = s.crane := by rw [takeChanged_eq]; rfl
@[simp] theorem takeChanged_move : s.takeChanged.move = s.move := by rw [takeChanged_eq]; rfl
@[simp] theorem takeChanged_moves : s.takeChanged.moves = s.moves := by rw [takeChanged_eq]
@[simp] theorem takeChanged_unit : s.takeChanged.unit = s.unit := by rw [takeChanged_eq]; rfl
@[simp] theorem takeChanged_line : s.takeChanged.line = s.line := by rw [takeChanged_eq]
@[simp] theorem takeChanged_host : s.takeChanged.host = s.host := by rw [takeChanged_eq]
@[simp] theorem takeChanged_hall : s.takeChanged.hall = s.hall := by rw [takeChanged_eq]
@[simp] theorem takeChanged_guards : s.takeChanged.guards = s.guards := by rw [takeChanged_eq]
@[simp] theorem takeChanged_tables : s.takeChanged.tables = s.tables := by rw [takeChanged_eq]
@[simp] theorem takeChanged_alloc : s.takeChanged.alloc = s.alloc := by rw [takeChanged_eq]
@[simp] theorem takeChanged_composer : s.takeChanged.composer = s.composer := by rw [takeChanged_eq]
@[simp] theorem takeChanged_flags : s.takeChanged.flags = s.flags := by rw [takeChanged_eq]

theorem takeChanged_events : s.takeChanged.stock.events = s.stock.events + s.stock.changed.toNat := by rw [takeChanged_eq]

@[simp] theorem followBeacons_stockRec : s.followBeacons.stockRec = s.stockRec := rfl

end TakeChanged

/-! ## PICKED (R172) -/

section Picked

variable {s : State} {c : CraneId} {m : MoveRec} {x : StockRec} {r d : SlotRef} {kg : Nat}

/-- The state in which a record has been taken from its slot to the hook of a crane, a stock-change event owed. -/
def State.hooked (s : State) (c : CraneId) (m : MoveRec) (id kg : Nat) (r : SlotRef) : State :=
  (((((s.stopTimer c).modMove m.id (fun m => { m with mass := some kg, phase := some .toDest })).modRec id
    (fun x => { x with loc := .hook c })).setPick r none).modCrane c (fun k => { k with hook := .stock id })).stockChanged

theorem slotLeft_of_off (h : s.bedTable r = none) : s.slotLeft r = s.stockChanged := by rw [State.slotLeft, h]

theorem takePicked_of_stock (hmove : s.craneMove c = some m) (hstate : m.state = .dispatched)
    (hphase : m.phase = some .picking) {id : Nat} (hload : m.load = .stock id) (hsrc : m.src = .slot r)
    (hoff : s.bedTable r = none) : s.takePicked c kg = (s.hooked c m id kg r).push [.weigh m.id kg] := by
  rw [State.takePicked, hmove]
  dsimp only
  rw [if_pos ⟨.inl hstate, hphase⟩, hload, hsrc]
  exact slotLeft_of_off (by exact hoff)

theorem hooked_crane (id : Nat) : (s.hooked c m id kg r).crane c
    = { s.crane c with timer := none, hand := none, hook := .stock id } := by
  refine (State.crane_modCrane_same ((((s.stopTimer c).modMove m.id (fun m =>
    { m with mass := some kg, phase := some .toDest })).modRec id (fun x => { x with loc := .hook c })).setPick r none) c
      (fun k => { k with hook := .stock id })).trans ?_
  exact congrArg (fun k : CraneRec => { k with hook := .stock id })
    (State.crane_modCrane_same s c (fun r => { r with timer := none, hand := none }))

theorem hooked_crane_of_ne (id : Nat) {k : CraneId} (h : k ≠ c) : (s.hooked c m id kg r).crane k = s.crane k := by
  refine (State.crane_modCrane_of_ne ((((s.stopTimer c).modMove m.id (fun m =>
    { m with mass := some kg, phase := some .toDest })).modRec id (fun x => { x with loc := .hook c })).setPick r none)
      (fun k => { k with hook := .stock id }) h).trans ?_
  exact State.crane_modCrane_of_ne s (fun r => { r with timer := none, hand := none }) h

theorem hooked_move (id : Nat) (hm : s.move m.id = some m) :
    (s.hooked c m id kg r).move m.id = some { m with mass := some kg, phase := some .toDest } :=
  State.move_modMove_same (s := s.stopTimer c) (fun m : MoveRec => { m with mass := some kg, phase := some .toDest })
    (fun _ => rfl) hm

theorem hooked_stockRec (hrec : s.stockRec x.id = some x) :
    (s.hooked c m x.id kg r).stockRec x.id = some { x with loc := .hook c } :=
  stockRec_modRec_same (s := (s.stopTimer c).modMove m.id (fun m => { m with mass := some kg, phase := some .toDest })) hrec
    (fun _ => rfl)

theorem hooked_lock (id : Nat) (q : SlotRef) :
    (s.hooked c m id kg r).lock q = if q = r then { s.lock r with pick := none } else s.lock q :=
  lock_setPick (((s.stopTimer c).modMove m.id (fun m => { m with mass := some kg, phase := some .toDest })).modRec id
    (fun x => { x with loc := .hook c })) r q none

section Readers

variable (s c m kg r) (id : Nat)

@[simp] theorem hooked_work : (s.hooked c m id kg r).work = s.work := rfl
@[simp] theorem hooked_guards : (s.hooked c m id kg r).guards = s.guards := rfl
@[simp] theorem hooked_tables : (s.hooked c m id kg r).tables = s.tables := rfl
@[simp] theorem hooked_alloc : (s.hooked c m id kg r).alloc = s.alloc := rfl
@[simp] theorem hooked_composer : (s.hooked c m id kg r).composer = s.composer := rfl
@[simp] theorem hooked_host : (s.hooked c m id kg r).host = s.host := rfl
@[simp] theorem hooked_hall : (s.hooked c m id kg r).hall = s.hall := rfl
@[simp] theorem hooked_line : (s.hooked c m id kg r).line = s.line := rfl
@[simp] theorem hooked_events : (s.hooked c m id kg r).stock.events = s.stock.events := rfl
@[simp] theorem hooked_changed : (s.hooked c m id kg r).stock.changed = true := rfl

end Readers

/-- The expected mass of a record, in kg (R172). -/
def StockRec.expected (x : StockRec) : Nat := massOf (x.len * x.wid * x.thick)

/-- How far a weight is off the expected mass. -/
def StockRec.off (x : StockRec) (kg : Nat) : Nat := (kg - x.expected) + (x.expected - kg)

/-- A weight within the tolerance sends the move on to its destination. -/
theorem runWeigh_of_within {mv : Nat} (hm : s.move mv = some m) (hload : m.load = .stock x.id) (hcrane : m.crane = some c)
    (hrec : s.stockRec x.id = some x) (hwithin : x.off kg ≤ tolerance x.expected) (hstate : m.state = .dispatched)
    (hfar : m.srcZone ≠ some m.dst.zoneOf) : runWeigh mv kg s = s.push [.enterPhase m.id .toDest] := by
  have hafter : s.afterPick m = s.push [.enterPhase m.id .toDest] := by
    rw [State.afterPick, if_neg (by simp [hstate]), if_neg hfar]
  rw [runWeigh, hm]
  dsimp only
  rw [hload, hcrane]
  dsimp only
  rw [hrec]
  exact (if_pos hwithin).trans hafter

/-- A weight beyond the tolerance holds the move, reports it and captures it as NOTE. -/
theorem runWeigh_of_beyond {mv : Nat} (hm : s.move mv = some m) (hload : m.load = .stock x.id) (hcrane : m.crane = some c)
    (hrec : s.stockRec x.id = some x) (hbeyond : tolerance x.expected < x.off kg) : runWeigh mv kg s =
      ((s.modMove mv (fun m => { m with state := .weightHold, phase := some .toDest })).raise
        (.weightMismatch mv c x.id x.expected (tolerance x.expected) kg)).capture .note (.crane c) .weightMismatch (some mv) := by
  rw [runWeigh, hm]
  dsimp only
  rw [hload, hcrane]
  dsimp only
  rw [hrec]
  exact if_neg (Nat.not_le.2 hbeyond)

end Picked

section PickedSettled

variable {s : State} {c : CraneId} {m : MoveRec} {x : StockRec} {r d : SlotRef} {kg : Nat} (hwork : s.work = [])
  (hrec : s.stockRec x.id = some x) (hm : s.move m.id = some m) (hcrane : m.crane = some c) (hload : m.load = .stock x.id)
include hwork hrec hm hcrane hload

/-- PICKED within the tolerance: GOTO to the destination goes to the crane's unit. -/
theorem settle_picked_of_within (hstate : m.state = .dispatched) (hdst : m.dst = .slot d)
    (hfar : m.srcZone ≠ some d.zone) (hwithin : x.off kg ≤ tolerance x.expected)
    (honline : (s.unit (craneUnit c)).link = .online) (hout : (s.unit (craneUnit c)).out = none) :
    ((s.hooked c m x.id kg r).push [.weigh m.id kg]).settle
      = ((s.hooked c m x.id kg r).commanded c m.id .toDest (.goto d.zone)).takeChanged.followBeacons := by
  have hzone : m.dst.zoneOf = d.zone := by rw [hdst]; rfl
  have hweigh : ((s.hooked c m x.id kg r).push [.weigh m.id kg]).comesTo 1
      ((s.hooked c m x.id kg r).push [.enterPhase m.id .toDest]) :=
    comesTo_push _ [] (runWeigh_of_within (s := s.hooked c m x.id kg r) (m := { m with mass := some kg, phase := some .toDest })
      (hooked_move x.id hm) hload hcrane (x := { x with loc := .hook c }) (hooked_stockRec hrec) hwithin hstate
      (show m.srcZone ≠ some m.dst.zoneOf by rw [hzone]; exact hfar))
  have hcmd : phaseCmd { m with mass := some kg, phase := some .toDest } .toDest = some (.goto d.zone) := by
    show some (FieldCmd.goto m.dst.zoneOf) = _
    rw [hzone]
  have henter := comesTo_enterPhase (s := s.hooked c m x.id kg r) (hooked_move x.id hm) hcrane hcmd
    (by rw [State.unit, hooked_line]; exact honline) (by rw [State.unit, hooked_line]; exact hout) []
  rw [State.push_nil] at henter
  exact settle_of_comesTo (hweigh.trans henter) (by decide) (by rw [commanded_work, hooked_work]; exact hwork)

/-- PICKED beyond the tolerance: the move is held, and the mismatch captured. -/
theorem settle_picked_of_beyond (hbeyond : tolerance x.expected < x.off kg) :
    ((s.hooked c m x.id kg r).push [.weigh m.id kg]).settle
      = ((((s.hooked c m x.id kg r).modMove m.id (fun m => { m with state := .weightHold, phase := some .toDest })).raise
          (.weightMismatch m.id c x.id x.expected (tolerance x.expected) kg)).capture .note (.crane c) .weightMismatch
            (some m.id)).takeChanged.followBeacons := by
  have hweigh : ((s.hooked c m x.id kg r).push [.weigh m.id kg]).comesTo 1
      ((((s.hooked c m x.id kg r).modMove m.id (fun m => { m with state := .weightHold, phase := some .toDest })).raise
        (.weightMismatch m.id c x.id x.expected (tolerance x.expected) kg)).capture .note (.crane c) .weightMismatch
          (some m.id)) :=
    comesTo_push _ [] (runWeigh_of_beyond (s := s.hooked c m x.id kg r) (m := { m with mass := some kg, phase := some .toDest })
      (hooked_move x.id hm) hload hcrane (x := { x with loc := .hook c }) (hooked_stockRec hrec) hbeyond)
  refine settle_of_comesTo hweigh (by decide) ?_
  obtain ⟨f, h, hcapture⟩ := capture_frame (((s.hooked c m x.id kg r).modMove m.id (fun m =>
    { m with state := .weightHold, phase := some .toDest })).raise
      (.weightMismatch m.id c x.id x.expected (tolerance x.expected) kg)) .note (.crane c) .weightMismatch (some m.id)
  exact (congrArg State.work hcapture).trans hwork

end PickedSettled

/-! ## PLACED (R173) -/

section Placed

variable {s : State} {c : CraneId} {m : MoveRec} {x : StockRec} {d : SlotRef}

/-- A record laid down owes a stock-change event where it becomes AVAILABLE or changes the top of a stack (R13). -/
theorem layDown_eq (s : State) (id : Nat) (d : SlotRef) (st : StockState) : s.layDown id d st =
    (s.modRec id (fun x => { x with loc := .slot d (s.slotRecs d).length, state := st, before := none, move := none })).owing
      (decide (st = .available ∨ s.kindOf d.zone = .stock)) := by
  rw [State.layDown]
  by_cases h : st = .available ∨ s.kindOf d.zone = .stock
  · rw [decide_eq_true h, ← stockChanged_eq_owing]
    exact if_pos h
  · rw [decide_eq_false h, owing_false]
    exact if_neg h

theorem owing_owing (s : State) (a b : Bool) : (s.owing a).owing b = s.owing (b || a) := by
  simp only [State.owing, Bool.or_assoc]

/-- The state in which a move without holds has left its crane and the queue, a dispatch attempt due (R173, R184). -/
def State.ended (s : State) (m : MoveRec) : State :=
  ((s.freeCrane m).setQueue (s.moves.queue.filter (fun k => k.id ≠ m.id))).wantAttempt

theorem endMove_of_no_holds (hcrane : m.crane = some c) (hholds : m.holds = []) : s.endMove m = s.ended m := by
  have hqueue : (s.freeCrane m).moves.queue = s.moves.queue := by
    rw [State.freeCrane, hcrane]
    rfl
  rw [State.endMove, hholds, hqueue]
  rfl

theorem ended_push (s : State) (ts : List Task) (m : MoveRec) : (s.push ts).ended m = (s.ended m).push ts := by
  unfold State.ended State.freeCrane
  cases m.crane <;> rfl

/-- A crane's record when its move has ended (R173, R184). -/
def CraneRec.freed (k : CraneRec) : CraneRec :=
  { k with move := none, timer := none, hand := none, state := if k.state = .busy then .idle else k.state }

theorem ended_crane (hcrane : m.crane = some c) : (s.ended m).crane c = (s.crane c).freed := by
  have h : s.freeCrane m = s.modCrane c CraneRec.freed := by
    rw [State.freeCrane, hcrane]
    rfl
  show (s.freeCrane m).crane c = _
  rw [h, State.crane_modCrane_same]

theorem ended_crane_of_ne (hcrane : m.crane = some c) {k : CraneId} (hk : k ≠ c) : (s.ended m).crane k = s.crane k := by
  have h : s.freeCrane m = s.modCrane c CraneRec.freed := by
    rw [State.freeCrane, hcrane]
    rfl
  show (s.freeCrane m).crane k = _
  rw [h, State.crane_modCrane_of_ne _ _ hk]

/-- The end of a move changes the cranes and the queue alone. -/
theorem ended_frame (s : State) (m : MoveRec) : ∃ ms : MoveCtl, s.ended m = { s with moves := ms }
    ∧ ms.queue = s.moves.queue.filter (fun k => k.id ≠ m.id) ∧ ms.attempts = s.moves.attempts + 1
    ∧ ms.spaceWaits = s.moves.spaceWaits := by
  unfold State.ended State.freeCrane
  split
  · exact ⟨_, rfl, rfl, rfl, rfl⟩
  · exact ⟨_, rfl, rfl, rfl, rfl⟩

/-- The state in which a record has been laid at a slot off the beds and the delivery there ended (R11, R13, R173). -/
def State.laid (s : State) (id : Nat) (d : SlotRef) (st : StockState) : State :=
  ((s.modRec id (fun x =>
    { x with loc := .slot d (s.slotRecs d).length, state := st, before := none, move := none })).setLock d
      { s.lock d with deliveries := (s.lock d).deliveries - 1 }).owing
        (decide ((s.lock d).deliveries = 1) || decide (st = .available ∨ s.kindOf d.zone = .stock))

theorem layDown_endDelivery (hoff : s.bedTable d = none) (id : Nat) (st : StockState) :
    (s.layDown id d st).endDelivery d = s.laid id d st := by
  rw [layDown_eq, endDelivery_of_off (by exact hoff)]
  exact owing_owing ((s.modRec id (fun x =>
    { x with loc := .slot d (s.slotRecs d).length, state := st, before := none, move := none })).setLock d
      { s.lock d with deliveries := (s.lock d).deliveries - 1 }) _ _

theorem laid_lock (id : Nat) (st : StockState) :
    (s.laid id d st).lock d = { s.lock d with deliveries := (s.lock d).deliveries - 1 } :=
  lock_setLock_same _ d _

theorem laid_stockRec (hrec : s.stockRec x.id = some x) (st : StockState) : (s.laid x.id d st).stockRec x.id
    = some { x with loc := .slot d (s.slotRecs d).length, state := st, before := none, move := none } :=
  stockRec_modRec_same hrec (fun _ => rfl)

/-- The state in which a crane has laid down its load and its move has ended. -/
def State.delivered (s : State) (c : CraneId) (m : MoveRec) : State :=
  ((s.stopTimer c).modCrane c (fun k => { k with hook := .empty })).ended m

theorem delivered_crane (hcrane : m.crane = some c) : (s.delivered c m).crane c
    = ({ s.crane c with timer := none, hand := none, hook := .empty } : CraneRec).freed := by
  refine (ended_crane (s := (s.stopTimer c).modCrane c (fun k => { k with hook := .empty })) hcrane).trans ?_
  rw [State.crane_modCrane_same, State.stopTimer, State.crane_modCrane_same]

theorem delivered_crane_of_ne (hcrane : m.crane = some c) {k : CraneId} (hk : k ≠ c) :
    (s.delivered c m).crane k = s.crane k := by
  refine (ended_crane_of_ne (s := (s.stopTimer c).modCrane c (fun k => { k with hook := .empty })) hcrane hk).trans ?_
  rw [State.crane_modCrane_of_ne _ _ hk, State.stopTimer, State.crane_modCrane_of_ne _ _ hk]

theorem delivered_frame (s : State) (c : CraneId) (m : MoveRec) : ∃ ms : MoveCtl, s.delivered c m = { s with moves := ms }
    ∧ ms.queue = s.moves.queue.filter (fun k => k.id ≠ m.id) ∧ ms.attempts = s.moves.attempts + 1
    ∧ ms.spaceWaits = s.moves.spaceWaits := by
  obtain ⟨ms, hframe, hms⟩ := ended_frame ((s.stopTimer c).modCrane c (fun k => { k with hook := .empty })) m
  exact ⟨ms, hframe, hms⟩

/-- The state of a record that is placed off the beds (R173). -/
def stateWhenPlaced (quarantine : Bool) : StockState := if quarantine then .quarantined else .available

theorem placedState_of_off (hoff : s.bedTable d = none) (quarantine : Bool) :
    s.placedState d quarantine = stateWhenPlaced quarantine := by
  rw [State.placedState, hoff]
  rfl

/-- A completed move of a record to a slot off the beds. -/
theorem runComplete_of_slot (hm : s.move m.id = some m) (hcrane : m.crane = some c) (hreturning : m.returning = false)
    (horigin : m.origin = .host) (hflag : m.flag = none) (hholds : m.holds = []) (hload : m.load = .stock x.id)
    (hdst : m.dst = .slot d) (hoff : s.bedTable d = none) : runComplete m.id s =
      ((s.delivered c m).laid x.id d (stateWhenPlaced m.quarantine)).push
        [.moveReport m, .tellOrigin m .delivered, .queueSpace] := by
  rw [runComplete, hm]
  dsimp only
  rw [hcrane]
  dsimp only
  rw [hreturning, horigin, hflag, endMove_of_no_holds hcrane hholds, hload, hdst]
  have hended : ((((s.stopTimer c).push [.moveReport m, .tellOrigin m .delivered, .queueSpace]).modCrane c
      (fun k => { k with hook := .empty })).ended m)
      = (s.delivered c m).push [.moveReport m, .tellOrigin m .delivered, .queueSpace] :=
    ended_push ((s.stopTimer c).modCrane c (fun k => { k with hook := .empty })) _ m
  have hoff' : ((s.delivered c m).push [.moveReport m, .tellOrigin m .delivered, .queueSpace]).bedTable d = none := by
    obtain ⟨ms, hframe, -⟩ := delivered_frame s c m
    rw [hframe]
    exact hoff
  show ((((((s.stopTimer c).push [.moveReport m, .tellOrigin m .delivered, .queueSpace]).modCrane c
      (fun k => { k with hook := .empty })).ended m).layDown x.id d
    ((((((s.stopTimer c).push [.moveReport m, .tellOrigin m .delivered, .queueSpace]).modCrane c
      (fun k => { k with hook := .empty })).ended m)).placedState d m.quarantine)).endDelivery d) = _
  rw [hended, placedState_of_off hoff', layDown_endDelivery hoff']
  rfl

end Placed

/-- What a completed move of the host comes to, with nobody waiting for queue space. -/
theorem comesTo_completed {s : State} {c : CraneId} {m : MoveRec} {x : StockRec} {d : SlotRef} (hm : s.move m.id = some m)
    (hcrane : m.crane = some c) (hreturning : m.returning = false) (horigin : m.origin = .host) (hflag : m.flag = none)
    (hholds : m.holds = []) (hload : m.load = .stock x.id) (hdst : m.dst = .slot d) (hoff : s.bedTable d = none)
    (hnobody : s.moves.spaceWaits = []) : (s.push [.complete m.id]).comesTo 4
      (((s.delivered c m).laid x.id d (stateWhenPlaced m.quarantine)).raise
        (.moveDone m.id .host (.stock x.id) m.src (.slot d) (some c) false m.mass false)) := by
  let s1 : State := (s.delivered c m).laid x.id d (stateWhenPlaced m.quarantine)
  let report : Report := .moveDone m.id .host (.stock x.id) m.src (.slot d) (some c) false m.mass false
  have hcomplete : (s.push [.complete m.id]).comesTo 1
      (s1.push [.moveReport m, .tellOrigin m .delivered, .queueSpace]) :=
    comesTo_push _ [] (runComplete_of_slot hm hcrane hreturning horigin hflag hholds hload hdst hoff)
  have hreport : (s1.push [.moveReport m, .tellOrigin m .delivered, .queueSpace]).comesTo 1
      ((s1.raise report).push [.tellOrigin m .delivered, .queueSpace]) := by
    refine comesTo_push _ _ ?_
    show runMoveReport m _ = _
    rw [runMoveReport, horigin, hload, hdst, hcrane, hreturning, hflag]
    rfl
  have htell := comesTo_tellOrigin (s := s1.raise report) horigin .delivered [.queueSpace]
  have hnobody' : (s1.raise report).moves.spaceWaits = [] := by
    obtain ⟨ms, hframe, -, -, hspace⟩ := delivered_frame s c m
    show (s.delivered c m).moves.spaceWaits = []
    rw [hframe]
    exact hspace.trans hnobody
  have hspace := comesTo_of_queueSpace hnobody' []
  exact ((hcomplete.trans hreport).trans htell).trans hspace

/-- What a PICKED of a record from slot `r` by crane `c` leaves, however its move goes on. -/
structure PickedLeft (s u : State) (c : CraneId) (x : StockRec) (r : SlotRef) : Prop where
  record : u.stockRec x.id = some { x with loc := .hook c }
  source : u.lock r = { s.lock r with pick := none }
  locks : ∀ q, q ≠ r → u.lock q = s.lock q
  events : u.stock.events = s.stock.events + 1
  hook : (u.crane c).hook = .stock x.id
  cranes : ∀ k, k ≠ c → u.crane k = s.crane k
  guards : u.guards = s.guards
  tables : u.tables = s.tables
  alloc : u.alloc = s.alloc
  composer : u.composer = s.composer

theorem pickedLeft_of_frame {s v : State} {c : CraneId} {m : MoveRec} {x : StockRec} {r : SlotRef} {kg : Nat}
    (hrec : s.stockRec x.id = some x)
    (hframe : ∃ ms l hall host, v = { s.hooked c m x.id kg r with moves := ms, line := l, hall := hall, host := host })
    (hhook : (v.crane c).hook = .stock x.id) (hcranes : ∀ k, k ≠ c → v.crane k = s.crane k) :
    PickedLeft s v.takeChanged.followBeacons c x r := by
  obtain ⟨ms, l, hall, host, rfl⟩ := hframe
  refine { record := ?_, source := ?_, locks := fun q hq => ?_, events := ?_, hook := ?_, cranes := fun k hk => ?_,
           guards := ?_, tables := ?_, alloc := ?_, composer := ?_ }
  · rw [followBeacons_stockRec, takeChanged_stockRec]
    exact hooked_stockRec hrec
  · rw [followBeacons_lock, takeChanged_lock]
    exact (hooked_lock x.id r).trans (if_pos rfl)
  · rw [followBeacons_lock, takeChanged_lock]
    exact (hooked_lock x.id q).trans (if_neg hq)
  · rw [followBeacons_stock, takeChanged_events]
    rfl
  · rw [followBeacons_crane, takeChanged_crane]
    exact hhook
  · rw [followBeacons_crane, takeChanged_crane]
    exact hcranes k hk
  · rw [followBeacons_guards, takeChanged_guards]
    exact hooked_guards s c m r kg x.id
  · rw [followBeacons_tables, takeChanged_tables]
    exact hooked_tables s c m r kg x.id
  · rw [followBeacons_alloc, takeChanged_alloc]
    exact hooked_alloc s c m r kg x.id
  · rw [followBeacons_composer, takeChanged_composer]
    exact hooked_composer s c m r kg x.id

theorem pickedLeft_of_within {s : State} {c : CraneId} {m : MoveRec} {x : StockRec} {r : SlotRef} {kg : Nat}
    (hrec : s.stockRec x.id = some x) (p : Phase) (cmd : FieldCmd) :
    PickedLeft s ((s.hooked c m x.id kg r).commanded c m.id p cmd).takeChanged.followBeacons c x r := by
  refine pickedLeft_of_frame (m := m) (kg := kg) hrec ?_ ?_ (fun k hk => ?_)
  · obtain ⟨ms, l, h⟩ := commanded_frame (s.hooked c m x.id kg r) c m.id p cmd
    exact ⟨ms, l, _, _, h⟩
  · rw [commanded_crane, hooked_crane]
  · rw [commanded_crane_of_ne _ _ _ _ _ hk, hooked_crane_of_ne _ hk]

/-- The state of a move whose load is held for its weight, the mismatch reported. -/
def State.weightHeld (s : State) (c : CraneId) (m : MoveRec) (x : StockRec) (kg : Nat) : State :=
  (s.modMove m.id (fun m => { m with state := .weightHold, phase := some .toDest })).raise
    (.weightMismatch m.id c x.id x.expected (tolerance x.expected) kg)

theorem pickedLeft_of_beyond {s : State} {c : CraneId} {m : MoveRec} {x : StockRec} {r : SlotRef} {kg : Nat}
    (hrec : s.stockRec x.id = some x) (hall : HallControl) (host : HostLine) :
    PickedLeft s ({ (s.hooked c m x.id kg r).weightHeld c m x kg with hall := hall, host := host } : State).takeChanged.followBeacons
      c x r := by
  refine pickedLeft_of_frame (m := m) (kg := kg) hrec ⟨_, _, _, _, rfl⟩ ?_ (fun k hk => ?_)
  · exact congrArg CraneRec.hook (hooked_crane (s := s) (m := m) (r := r) (kg := kg) x.id)
  · exact hooked_crane_of_ne (s := s) (m := m) (r := r) (kg := kg) x.id hk

/-- PICKED within the tolerance, from the state whose window is closed. -/
theorem picked_within {s : State} {c : CraneId} {m : MoveRec} {x : StockRec} {r d : SlotRef} {kg : Nat} (hwork : s.work = [])
    (hrec : s.stockRec x.id = some x) (hm : s.move m.id = some m) (hcrane : m.crane = some c)
    (hload : m.load = .stock x.id) (hstate : m.state = .dispatched) (hdst : m.dst = .slot d)
    (hfar : m.srcZone ≠ some d.zone) (hwithin : x.off kg ≤ tolerance x.expected)
    (honline : (s.unit (craneUnit c)).link = .online) (hout : (s.unit (craneUnit c)).out = none) :
    ∃ u, ((s.hooked c m x.id kg r).push [.weigh m.id kg]).settle = u ∧ PickedLeft s u c x r
      ∧ u.move m.id = some { m with mass := some kg, phase := some .toDest }
      ∧ (u.unit (craneUnit c)).out = some
          { cmd := { cmd := .goto d.zone, sender := .cranes, hand := s.line.nextHand }, attempt := 1, inFlight := false }
      ∧ u.host = s.host := by
  refine ⟨_, settle_picked_of_within hwork hrec hm hcrane hload hstate hdst hfar hwithin honline hout,
    pickedLeft_of_within hrec _ _, ?_, ?_, ?_⟩
  · rw [followBeacons_move, takeChanged_move]
    exact commanded_move _ c m.id .toDest (.goto d.zone) (hooked_move x.id hm)
  · rw [followBeacons_unit, takeChanged_unit, commanded_unit, hooked_line]
  · rw [followBeacons_hostLine, takeChanged_host, commanded_host, hooked_host]

/-- PICKED beyond the tolerance, from the state whose window is closed. -/
theorem picked_beyond {s : State} {c : CraneId} {m : MoveRec} {x : StockRec} {r : SlotRef} {kg : Nat} (hwork : s.work = [])
    (hrec : s.stockRec x.id = some x) (hm : s.move m.id = some m) (hcrane : m.crane = some c)
    (hload : m.load = .stock x.id) (hbeyond : tolerance x.expected < x.off kg)
    (hout : (s.unit (craneUnit c)).out = none) :
    ∃ u, ((s.hooked c m x.id kg r).push [.weigh m.id kg]).settle = u ∧ PickedLeft s u c x r
      ∧ u.move m.id = some { m with mass := some kg, state := .weightHold, phase := some .toDest }
      ∧ (u.unit (craneUnit c)).out = none
      ∧ (s.hall.fault.held = none → u.hall.fault.held = some
          { cls := .note, src := .crane c, code := .weightMismatch, clock := s.hall.clock, index := some m.id })
      ∧ (s.hall.fault.held ≠ none → u.host = s.host.report
          (.weightMismatch m.id c x.id x.expected (tolerance x.expected) kg)) := by
  have hend := settle_picked_of_beyond (r := r) (kg := kg) hwork hrec hm hcrane hload hbeyond
  obtain ⟨f, h, hcapture, hnone, hkept⟩ := capture_outcome ((s.hooked c m x.id kg r).weightHeld c m x kg) .note (.crane c)
    .weightMismatch (some m.id)
  have hend' : ((s.hooked c m x.id kg r).push [.weigh m.id kg]).settle
      = ({ (s.hooked c m x.id kg r).weightHeld c m x kg with
            hall := { s.hall with fault := f }, host := h } : State).takeChanged.followBeacons :=
    hend.trans (congrArg (fun t : State => t.takeChanged.followBeacons) hcapture)
  refine ⟨_, hend', pickedLeft_of_beyond hrec _ _, ?_, ?_, fun hn => ?_, fun hsome => ?_⟩
  · rw [followBeacons_move, takeChanged_move]
    exact State.move_modMove_same (s := s.hooked c m x.id kg r)
      (fun m : MoveRec => { m with state := .weightHold, phase := some .toDest }) (fun _ => rfl) (hooked_move x.id hm)
  · rw [followBeacons_unit, takeChanged_unit]
    exact hout
  · rw [followBeacons_fault, takeChanged_hall]
    exact hnone hn
  · obtain ⟨g, hg⟩ := Option.ne_none_iff_exists'.1 hsome
    have hrank : FaultClass.note.rank ≤ g.cls.rank := by cases g.cls <;> decide
    rw [followBeacons_hostLine, takeChanged_host]
    exact hkept g hg hrank

theorem takePlaced_of_placing {s : State} {c : CraneId} {m : MoveRec} (hmove : s.craneMove c = some m)
    (hstate : m.state = .dispatched) (hphase : m.phase = some .placing) : s.takePlaced c = s.push [.complete m.id] := by
  rw [State.takePlaced, hmove]
  exact if_pos ⟨.inl hstate, hphase⟩

/-- PLACED of a record at a slot off the beds, from the state whose window is closed. -/
theorem placed_off {s : State} {c : CraneId} {m : MoveRec} {x : StockRec} {d : SlotRef} (hwork : s.work = [])
    (hm : s.move m.id = some m) (hcrane : m.crane = some c) (hreturning : m.returning = false) (horigin : m.origin = .host)
    (hflag : m.flag = none) (hholds : m.holds = []) (hload : m.load = .stock x.id) (hdst : m.dst = .slot d)
    (hoff : s.bedTable d = none) (hnobody : s.moves.spaceWaits = []) : (s.push [.complete m.id]).settle
      = (((s.delivered c m).laid x.id d (stateWhenPlaced m.quarantine)).raise
          (.moveDone m.id .host (.stock x.id) m.src (.slot d) (some c) false m.mass false)).takeChanged.followBeacons := by
  refine settle_of_comesTo (comesTo_completed hm hcrane hreturning horigin hflag hholds hload hdst hoff hnobody) (by decide) ?_
  obtain ⟨ms, hframe, -⟩ := delivered_frame s c m
  show (s.delivered c m).work = []
  rw [hframe]
  exact hwork

/-- How many stock-change events a record laid down owes (R13). -/
theorem laid_owes {s : State} {d : SlotRef} (hclean : s.stock.changed = false) (id : Nat) (q : Bool) :
    (s.laid id d (stateWhenPlaced q)).stock.changed.toNat
      = if q = false ∨ s.kindOf d.zone = .stock ∨ (s.lock d).deliveries = 1 then 1 else 0 := by
  have hchanged : (s.laid id d (stateWhenPlaced q)).stock.changed
      = ((decide ((s.lock d).deliveries = 1)
          || decide (stateWhenPlaced q = .available ∨ s.kindOf d.zone = .stock)) || s.stock.changed) := rfl
  rw [hchanged, hclean]
  cases q <;> by_cases hkind : s.kindOf d.zone = .stock <;> by_cases hlast : (s.lock d).deliveries = 1 <;>
    simp [stateWhenPlaced, hkind, hlast]

/-- Settles O53: by the tolerance for PICKED, and by the four tasks of a completed move for PLACED. -/
theorem loadsArePickedAndPlaced : Obligations.LoadsArePickedAndPlaced := by
  intro s c m x e kg d hrun hset hwindow honline hout hmove hm hcrane hstate horigin hload hrec hdst hoff
  have hat : s.closeWindow.craneMove c = some m := craneMove_of_some (s := s.closeWindow) hmove hm
  refine ⟨fun r hphase hsrc hsrcOff hsrcZone hne => ?_, fun hphase hreturning hholds hflag hnobody hbusy hloc => ?_⟩
  · intro expected off
    have hexec : exec (.picked (c.val + 5) false kg) s
        = .next ((s.closeWindow.hooked c m x.id kg r).push [.weigh m.id kg]).settle :=
      (exec_picked_of_offer hrun hwindow kg).trans (congrArg (fun t : State => Host.Outcome.next t.settle)
        (takePicked_of_stock (s := s.closeWindow) hat hstate hphase hload hsrc hsrcOff))
    have hfar : m.srcZone ≠ some d.zone := by
      rw [hsrcZone]
      exact fun h => hne (Option.some.inj h).symm
    by_cases hwithin : off ≤ expected / 16 + 20
    · obtain ⟨u, hu, hleft, hmoved, hcmd, hhost⟩ := picked_within (s := s.closeWindow) (r := r) (kg := kg) hset.1 hrec hm hcrane
        hload hstate hdst hfar hwithin honline hout
      exact ⟨u, hexec.trans (congrArg Host.Outcome.next hu), hleft.record, hleft.source, hleft.locks, hleft.events, hleft.hook,
        hleft.cranes, hleft.guards, hleft.tables, hleft.alloc, hleft.composer, fun _ => ⟨hmoved, hcmd, hhost⟩,
        fun hbeyond => absurd hwithin (Nat.not_le.2 hbeyond)⟩
    · obtain ⟨u, hu, hleft, hmoved, hcmd, hnone, hhost⟩ := picked_beyond (s := s.closeWindow) (r := r) (kg := kg) hset.1 hrec hm
        hcrane hload (Nat.not_le.1 hwithin) hout
      exact ⟨u, hexec.trans (congrArg Host.Outcome.next hu), hleft.record, hleft.source, hleft.locks, hleft.events, hleft.hook,
        hleft.cranes, hleft.guards, hleft.tables, hleft.alloc, hleft.composer, fun h => absurd h hwithin,
        fun _ => ⟨hmoved, hcmd, hnone, hhost⟩⟩
  · have hexec : exec (.placed (c.val + 5) false) s = .next (s.closeWindow.push [.complete m.id]).settle :=
      (exec_placed_of_offer hrun hwindow).trans (congrArg (fun t : State => Host.Outcome.next t.settle)
        (takePlaced_of_placing (s := s.closeWindow) hat hstate hphase))
    have hend := placed_off (s := s.closeWindow) hset.1 hm hcrane hreturning horigin hflag hholds hload hdst hoff hnobody
    obtain ⟨ms, hframe, hqueue, hattempts, -⟩ := delivered_frame s.closeWindow c m
    have hcrane' := delivered_crane (s := s.closeWindow) hcrane
    have hcranes := fun k (hk : k ≠ c) => delivered_crane_of_ne (s := s.closeWindow) hcrane hk
    rw [hframe] at hend hcrane' hcranes
    refine ⟨_, hexec.trans (congrArg Host.Outcome.next hend), ?_, ?_, ?_, ?_, fun k hk => ?_, ?_, ?_, ?_, ?_, ?_, ?_, ?_⟩
    · rw [followBeacons_stockRec, takeChanged_stockRec]
      exact laid_stockRec (s := { s.closeWindow with moves := ms }) hrec _
    · rw [followBeacons_lock, takeChanged_lock]
      exact laid_lock (s := { s.closeWindow with moves := ms }) x.id _
    · rw [followBeacons_stock, takeChanged_events]
      exact congrArg (s.stock.events + ·) (laid_owes (s := { s.closeWindow with moves := ms }) hset.2.1 x.id m.quarantine)
    · rw [followBeacons_crane, takeChanged_crane]
      refine hcrane'.trans ?_
      rw [CraneRec.freed]
      exact congrArg (fun st => ({ s.crane c with hook := .empty, state := st, move := none, timer := none, hand := none } : CraneRec))
        (if_pos hbusy)
    · rw [followBeacons_crane, takeChanged_crane]
      exact hcranes k hk
    · rw [followBeacons_moves, takeChanged_moves]
      exact hqueue
    · rw [followBeacons_moves, takeChanged_moves]
      exact hattempts
    · rw [followBeacons_hostLine, takeChanged_host]
      rfl
    · rw [followBeacons_tables, takeChanged_tables]
      rfl
    · rw [followBeacons_guards, takeChanged_guards]
      rfl
    · rw [followBeacons_flags, takeChanged_flags]
      rfl
    · rw [followBeacons_alloc, takeChanged_alloc]
      rfl

end Sys2Proof.Machine

/-! CRANE_FAULT and the phase timer (R175): a fault of a DISPATCHED move of the host halts its crane and the move. -/

namespace Sys2Proof.Machine

theorem exec_craneFault (n : Nat) (marker : Bool) (code : Nat) (s : State) :
    exec (.craneFault n marker code) s = execCraneFault n marker code s := by rfl

theorem exec_phaseTimerExpiry (c : CraneId) (s : State) :
    exec (.phaseTimerExpiry c) s = execPhaseTimerExpiry c s := by rfl

section Reports

variable {s : State} {c : CraneId}

theorem exec_craneFault_of_offer {e : Nat} (hrun : s.hall.inReset = false)
    (hwindow : s.line.window = some { unit := craneUnit c, kind := .offer, expiry := e }) (n : Nat) :
    exec (.craneFault (c.val + 5) false n) s = .next (s.closeWindow.takeCraneFault c).settle := by
  have hunit : c.val + 5 = (craneUnit c).val + 1 := rfl
  have howner : ownerOf (craneUnit c) = .crane c := ownerOf_craneUnit c
  rw [exec_craneFault, execCraneFault, handled_of_running _ s hrun, hunit, receive_of_offer _ _ hwindow]
  simp [State.receiveReport, FieldMsg.isReport, State.deliver, howner]

theorem exec_phaseTimerExpiry_of_due {m : MoveRec} {x : Nat} (hrun : s.hall.inReset = false) (hmove : s.craneMove c = some m)
    (htimer : (s.crane c).timer = some x) (hdue : x ≤ s.now) :
    exec (.phaseTimerExpiry c) s = .next (s.faultMove m c .craneTimeout).settle := by
  rw [exec_phaseTimerExpiry, execPhaseTimerExpiry, handled_of_running _ s hrun, hmove]
  dsimp only
  rw [if_pos (by rw [htimer]; exact decide_eq_true hdue)]

theorem takeCraneFault_of_dispatched {m : MoveRec} (hmove : s.craneMove c = some m) (hstate : m.state = .dispatched) :
    s.takeCraneFault c = s.faultMove m c .craneFault := by
  rw [State.takeCraneFault, hmove]
  exact if_pos (.inl hstate)

theorem craneMove_of_none (h : (s.crane c).move = none) : s.craneMove c = none := by
  rw [State.craneMove, h]
  rfl

end Reports

/-- What a fault of the DISPATCHED move `m` of crane `c` leaves, whatever brought it about. -/
structure FaultLeft (s u : State) (c : CraneId) (m : MoveRec) (code : MoveFaultCode) (fc : FaultCode) : Prop where
  crane : u.crane c = { s.crane c with timer := none, hand := none, state := .halted, cause := some .fault }
  cranes : ∀ k, k ≠ c → u.crane k = s.crane k
  move : u.move m.id = some { m with state := .faulted }
  unit : (u.unit (craneUnit c)).out = some
    { cmd := { cmd := .stop, sender := .cranes, hand := s.line.nextHand }, attempt := 1, inFlight := false }
  empty : (s.crane c).hook = .empty → u.stock = s.stock
  held : ∀ x, (s.crane c).hook = .stock x.id → s.stockRec x.id = some x →
    u.stockRec x.id = some { x with state := .held, before := none }
  captured : s.hall.fault.held = none → u.hall.fault.held = some
    { cls := .unit, src := .crane c, code := fc, clock := s.hall.clock, index := some m.id }
  reported : ∀ g, s.hall.fault.held = some g → 2 ≤ g.cls.rank → u.host = s.host.report
    (.moveFault m.id .host c m.phase code (decide ((s.crane c).hook ≠ .empty)))
  tables : u.tables = s.tables
  guards : u.guards = s.guards
  alloc : u.alloc = s.alloc

theorem faultMove_leaves {s : State} {c : CraneId} {m : MoveRec} {code : MoveFaultCode} {fc : FaultCode} (hwork : s.work = [])
    (hclean : s.stock.changed = false) (hcode : code.captured = some fc) (hm : s.move m.id = some m)
    (hstate : m.state = .dispatched) (horigin : m.origin = .host) (honline : (s.unit (craneUnit c)).link = .online)
    (hout : (s.unit (craneUnit c)).out = none) : FaultLeft s (s.faultMove m c code).settle c m code fc := by
  obtain ⟨f, h, hend, hnone, hkept⟩ := settle_faultMove hwork hclean hcode (by rw [hstate]; exact (fun h => nomatch h)) horigin
    honline hout
  obtain ⟨l, hframe⟩ := hookHeld_frame (s.faultHalted m c) c
  have hhook : ((s.faultHalted m c).crane c).hook = (s.crane c).hook := by rw [faultHalted_crane]
  rw [hend]
  refine { crane := ?_, cranes := fun k hk => ?_, move := ?_, unit := ?_, empty := fun hempty => ?_, held := fun x hx hrec => ?_,
           captured := hnone, reported := hkept, tables := ?_, guards := ?_, alloc := ?_ }
  · rw [hframe]
    exact faultHalted_crane
  · rw [hframe]
    exact faultHalted_crane_of_ne hk
  · rw [hframe]
    exact faultHalted_move hm
  · rw [hframe]
    exact faultHalted_unit (s := s) (m := m)
  · rw [hookHeld_of_empty (hhook.trans hempty)]
    exact faultHalted_stock (s := s) (m := m) (c := c)
  · rw [hookHeld_of_stock (hhook.trans hx)]
    exact stockRec_modRec_same (s := s.faultHalted m c) hrec (fun _ => rfl)
  · rw [hframe]
    exact faultHalted_tables (s := s) (m := m) (c := c)
  · rw [hframe]
    exact faultHalted_guards (s := s) (m := m) (c := c)
  · rw [hframe]
    exact faultHalted_alloc (s := s) (m := m) (c := c)

/-- Settles O54: both causes come to the same fault of the move, and a report without a move is stray. -/
theorem craneFaultsFaultTheMove : Obligations.CraneFaultsFaultTheMove := by
  refine fun s c e n hrun hset => ⟨fun i code fc m hcause honline hout hmove hm hcrane hstate horigin => ?_,
    fun hwindow hnone i hi => ?_⟩
  · have hleft : ∃ u, exec i s = .next u ∧ FaultLeft s u c m code fc := by
      obtain ⟨rfl, rfl, rfl, hwindow⟩ | ⟨rfl, rfl, rfl, x, htimer, hdue⟩ := hcause
      · obtain ⟨hcr, hcrs, hmv, hu, hemp, hheld, hcap, hrep, ht, hg, ha⟩ := faultMove_leaves (s := s.closeWindow)
          (code := .craneFault) hset.1 hset.2.1 rfl hm hstate horigin honline hout
        exact ⟨_, (exec_craneFault_of_offer hrun hwindow n).trans (congrArg (fun t : State => Host.Outcome.next t.settle)
          (takeCraneFault_of_dispatched (s := s.closeWindow) (craneMove_of_some (s := s.closeWindow) hmove hm) hstate)),
          hcr, hcrs, hmv, hu, hemp, hheld, hcap, hrep, ht, hg, ha⟩
      · exact ⟨_, exec_phaseTimerExpiry_of_due hrun (craneMove_of_some hmove hm) htimer hdue,
          faultMove_leaves hset.1 hset.2.1 rfl hm hstate horigin honline hout⟩
    obtain ⟨u, hexec, hcr, hcrs, hmv, hu, hemp, hheld, hcap, hrep, ht, hg, ha⟩ := hleft
    exact ⟨u, hexec, hcr, hcrs, hmv, hu, hemp, hheld, hcap, hrep, ht, hg, ha⟩
  · have hat : s.closeWindow.craneMove c = none := craneMove_of_none hnone
    have hstray := settle_strayReport hset (craneUnit c)
    simp only [List.mem_cons, List.not_mem_nil, or_false] at hi
    obtain rfl | rfl | rfl := hi
    · rw [exec_picked_of_offer hrun hwindow n, State.takePicked, hat]
      exact congrArg Host.Outcome.next hstray
    · rw [exec_placed_of_offer hrun hwindow, State.takePlaced, hat]
      exact congrArg Host.Outcome.next hstray
    · rw [exec_craneFault_of_offer hrun hwindow n, State.takeCraneFault, hat]
      exact congrArg Host.Outcome.next hstray

end Sys2Proof.Machine

/-! MOVE_ACCEPT_WEIGHT, MOVE_ABORT, MOVE_RETRY and MOVE_RECOVER (R182 to R184): the requests that take up a held or faulted
move. -/

namespace Sys2Proof.Machine

theorem exec_moveAcceptWeight (id : Nat) (s : State) : exec (.moveAcceptWeight id) s = execMoveAcceptWeight id s := by rfl

theorem exec_moveAbort (id : Nat) (s : State) : exec (.moveAbort id) s = execMoveAbort id s := by rfl

theorem exec_moveRetry (id : Nat) (s : State) : exec (.moveRetry id) s = execMoveRetry id s := by rfl

theorem exec_moveRecover (id loc zone slot : Nat) (s : State) :
    exec (.moveRecover id loc zone slot) s = execMoveRecover id loc zone slot s := by rfl

section Tests

variable {s : State} {id : Nat} {m : MoveRec} (hmode : s.hall.mode ≠ .setup)
include hmode

/-- A request of 9.8 that names no move of the queue. -/
theorem request_withMove_of_none {i : Instr} {f : State → MoveRec → State} (hset : s.settled) (htakes : s.takes i)
    (h : s.move id = none) : request i (fun s => s.withMove id (f s)) s = .next (s.refuse .notFound) := by
  rw [request_of_takes _ _ _ htakes, withMove_of_none hmode h, settle_refuse s hset]

/-- A request of 9.8 that names a move of the queue. -/
theorem request_withMove_of_some {i : Instr} {f : State → MoveRec → State} (htakes : s.takes i) (h : s.move id = some m) :
    request i (fun s => s.withMove id (f s)) s = .next (f s m).settle := by
  rw [request_of_takes _ _ _ htakes, withMove_of_some hmode h]

theorem takenUp_refused_of_none (hset : s.settled) {loc zone slot : Nat} (h : s.move id = none) (i : Instr)
    (hi : i ∈ [Instr.moveAcceptWeight id, .moveAbort id, .moveRetry id, .moveRecover id loc zone slot]) (htakes : s.takes i) :
    exec i s = .next (s.refuse .notFound) := by
  simp only [List.mem_cons, List.not_mem_nil, or_false] at hi
  obtain rfl | rfl | rfl | rfl := hi
  · exact (exec_moveAcceptWeight id s).trans (request_withMove_of_none hmode hset htakes h)
  · exact (exec_moveAbort id s).trans (request_withMove_of_none hmode hset htakes h)
  · exact (exec_moveRetry id s).trans (request_withMove_of_none hmode hset htakes h)
  · exact (exec_moveRecover id loc zone slot s).trans (request_withMove_of_none hmode hset htakes h)

theorem takenUp_refused_of_not_held (hset : s.settled) (h : s.move id = some m) (hstate : m.state ≠ .weightHold) (i : Instr)
    (hi : i ∈ [Instr.moveAcceptWeight id, .moveAbort id]) (htakes : s.takes i) : exec i s = .next (s.refuse .badState) := by
  simp only [List.mem_cons, List.not_mem_nil, or_false] at hi
  obtain rfl | rfl := hi
  · rw [exec_moveAcceptWeight, execMoveAcceptWeight, request_withMove_of_some hmode htakes h, if_neg (fun h => hstate h.1),
      settle_refuse s hset]
  · rw [exec_moveAbort, execMoveAbort, request_withMove_of_some hmode htakes h, if_neg (fun h => hstate h.1),
      settle_refuse s hset]

theorem takenUp_refused_of_not_faulted (hset : s.settled) {loc zone slot : Nat} (h : s.move id = some m)
    (hstate : m.state ≠ .faulted) (i : Instr) (hi : i ∈ [Instr.moveRetry id, .moveRecover id loc zone slot])
    (htakes : s.takes i) : exec i s = .next (s.refuse .badState) := by
  simp only [List.mem_cons, List.not_mem_nil, or_false] at hi
  obtain rfl | rfl := hi
  · rw [exec_moveRetry, execMoveRetry, request_withMove_of_some hmode htakes h]
    refine congrArg Host.Outcome.next (.trans ?_ (settle_refuse s hset .badState))
    cases m.crane with
    | none => rfl
    | some c => exact congrArg State.settle (if_neg (fun h => hstate h.1))
  · rw [exec_moveRecover, execMoveRecover, request_withMove_of_some hmode htakes h, if_pos hstate, settle_refuse s hset]

end Tests

/-! ## A phase entered again (R182, R183) -/

/-- The crane of a move that has been taken up: its command handed to its unit, the crane BUSY with its hook and position as
they were. -/
def TookUp (s u : State) (c : CraneId) (cmd : FieldCmd) : Prop :=
  (u.unit (craneUnit c)).out = some
      { cmd := { cmd := cmd, sender := .cranes, hand := s.line.nextHand }, attempt := 1, inFlight := false }
  ∧ (u.crane c).timer = none ∧ (u.crane c).hand = some s.line.nextHand ∧ (u.crane c).state = .busy
  ∧ (u.crane c).hook = (s.crane c).hook ∧ (u.crane c).pos = (s.crane c).pos
  ∧ u.tables = s.tables ∧ u.guards = s.guards ∧ u.flags = s.flags ∧ u.alloc = s.alloc

theorem tookUp_of_commanded {s t : State} {c : CraneId} {mv : Nat} {p : Phase} {cmd : FieldCmd}
    (hframe : ∃ stock ms host, t = { s with stock := stock, moves := ms, host := host })
    (hcrane : t.crane c = { s.crane c with state := .busy }) :
    TookUp s (t.commanded c mv p cmd).takeChanged.followBeacons c cmd := by
  have hat : (t.commanded c mv p cmd).takeChanged.followBeacons.crane c
      = { s.crane c with state := .busy, timer := none, hand := some s.line.nextHand } := by
    rw [followBeacons_crane, takeChanged_crane, commanded_crane, hcrane]
    obtain ⟨stock, ms, host, rfl⟩ := hframe
    rfl
  refine ⟨?_, congrArg CraneRec.timer hat, congrArg CraneRec.hand hat, congrArg CraneRec.state hat,
    (congrArg CraneRec.hook hat).trans rfl, (congrArg CraneRec.pos hat).trans rfl, ?_⟩
  · rw [followBeacons_unit, takeChanged_unit, commanded_unit]
    obtain ⟨stock, ms, host, rfl⟩ := hframe
    rfl
  · rw [followBeacons_tables, takeChanged_tables, commanded_tables, followBeacons_guards, takeChanged_guards, commanded_guards,
      followBeacons_flags, takeChanged_flags, commanded_flags, followBeacons_alloc, takeChanged_alloc, commanded_alloc]
    obtain ⟨stock, ms, host, rfl⟩ := hframe
    exact ⟨rfl, rfl, rfl, rfl⟩

/-- A handling whose last task enters a phase with a command. -/
theorem settle_enterPhase {t : State} {c : CraneId} {mv : Nat} {m : MoveRec} {p : Phase} {cmd : FieldCmd}
    (hwork : t.work = []) (hm : t.move mv = some m) (hcrane : m.crane = some c) (hcmd : phaseCmd m p = some cmd)
    (honline : (t.unit (craneUnit c)).link = .online) (hout : (t.unit (craneUnit c)).out = none) :
    (t.push [.enterPhase mv p]).settle = (t.commanded c mv p cmd).takeChanged.followBeacons := by
  have henter := comesTo_enterPhase hm hcrane hcmd honline hout []
  rw [State.push_nil] at henter
  exact settle_of_comesTo henter (by decide) (by rw [commanded_work]; exact hwork)

section TakenUp

variable {s : State} {m : MoveRec} {c : CraneId} (hwork : s.work = []) (hmode : s.hall.mode ≠ .setup)
  (hm : s.move m.id = some m) (hcrane : m.crane = some c) (honline : (s.unit (craneUnit c)).link = .online)
  (hout : (s.unit (craneUnit c)).out = none)
include hwork hmode hm hcrane honline hout

theorem exec_moveAcceptWeight_of_held (htakes : s.takes (.moveAcceptWeight m.id)) (hstate : m.state = .weightHold)
    (hbusy : (s.crane c).state = .busy) (hfar : m.srcZone ≠ some m.dst.zoneOf) :
    exec (.moveAcceptWeight m.id) s = .next ((((s.modMove m.id (fun m => { m with state := .dispatched })).accept .none).commanded
      c m.id .toDest (.goto m.dst.zoneOf)).takeChanged.followBeacons) := by
  have hif : m.state = .weightHold ∧ s.moveCrane m = some .busy := ⟨hstate, by rw [State.moveCrane, hcrane, ← hbusy]; rfl⟩
  rw [exec_moveAcceptWeight, execMoveAcceptWeight, request_withMove_of_some hmode htakes hm, if_pos hif, State.afterPick,
    if_neg (fun h => nomatch h), if_neg hfar]
  exact congrArg Host.Outcome.next (settle_enterPhase (t := (s.modMove m.id (fun m => { m with state := .dispatched })).accept .none)
    (m := { m with state := .dispatched }) hwork
    (State.move_modMove_same (fun m : MoveRec => { m with state := .dispatched }) (fun _ => rfl) hm) hcrane rfl honline hout)

omit hwork hmode hm hcrane honline hout in
/-- What making a record MOVING again changes is the stock table's records. -/
theorem holdAgain_frame (s : State) (m : MoveRec) : ∃ l, s.holdAgain m = s.setRecs l := by
  unfold State.holdAgain
  split
  · exact ⟨_, rfl⟩
  · exact ⟨s.stock.recs, rfl⟩

omit hwork hmode hm hcrane honline hout in
@[simp] theorem commanded_stockRec (mv : Nat) (p : Phase) (cmd : FieldCmd) :
    (s.commanded c mv p cmd).stockRec = s.stockRec := rfl

omit hwork hmode hm hcrane honline hout in
@[simp] theorem accept_stockRec (b : Accept) : (s.accept b).stockRec = s.stockRec := rfl

/-- The state in which a faulted move and its crane have been taken up again. -/
def State.retried (s : State) (m : MoveRec) (c : CraneId) : State :=
  ((s.modCrane c (fun r => { r with state := .busy })).modMove m.id (fun m => { m with state := .dispatched })).holdAgain m

omit hwork hmode hm hcrane honline hout in
theorem retried_frame : ∃ l, s.retried m c = ((s.modCrane c (fun r => { r with state := .busy })).modMove m.id
    (fun m => { m with state := .dispatched })).setRecs l :=
  holdAgain_frame ((s.modCrane c (fun r => { r with state := .busy })).modMove m.id (fun m => { m with state := .dispatched })) m

theorem exec_moveRetry_of_faulted (htakes : s.takes (.moveRetry m.id)) (hstate : m.state = .faulted)
    (hidle : (s.crane c).state = .idle) {p : Phase} {cmd : FieldCmd} (hphase : m.phase = some p)
    (hcmd : phaseCmd m p = some cmd) : exec (.moveRetry m.id) s = .next
      (((s.retried m c).accept (.phase (some p))).commanded c m.id p cmd).takeChanged.followBeacons := by
  obtain ⟨l, hframe⟩ := retried_frame (s := s) (m := m) (c := c)
  have hrequest : exec (.moveRetry m.id) s = .next
      (((s.retried m c).accept (.phase (some p))).push [.enterPhase m.id p]).settle := by
    rw [exec_moveRetry, execMoveRetry, request_withMove_of_some hmode htakes hm]
    simp only [hcrane, hstate, hidle, hphase, and_self, if_true, Option.getD_some]
    rfl
  rw [hrequest, hframe]
  exact congrArg Host.Outcome.next (settle_enterPhase (m := { m with state := .dispatched }) hwork
    (State.move_modMove_same (s := s.modCrane c (fun r => { r with state := .busy }))
      (fun m : MoveRec => { m with state := .dispatched }) (fun _ => rfl) hm) hcrane
    (by cases p <;> exact hcmd) honline hout)

/-- The state in which the load of a held move is on its way back to its source slot. -/
def State.sentBack (s : State) (m : MoveRec) (r d : SlotRef) : State :=
  ((((s.setLock d { s.lock d with deliveries := (s.lock d).deliveries - 1 }).owing
      (decide ((s.lock d).deliveries = 1))).beginDelivery r).modMove m.id (fun m => { m with
    dst := .slot r, returning := true, flag := none, quarantine := true, state := .dispatched })).accept .none

theorem exec_moveAbort_of_held {r d : SlotRef} (htakes : s.takes (.moveAbort m.id)) (hstate : m.state = .weightHold)
    (hbusy : (s.crane c).state = .busy) (hsrc : m.src = .slot r) (hdst : m.dst = .slot d) (hsrcOff : s.bedTable r = none)
    (hoff : s.bedTable d = none) (htest : s.deliveryTest r = none) : exec (.moveAbort m.id) s = .next
      ((s.sentBack m r d).commanded c m.id .placing (.place r.slot.val)).takeChanged.followBeacons := by
  have hif : m.state = .weightHold ∧ s.moveCrane m = some .busy := ⟨hstate, by rw [State.moveCrane, hcrane, ← hbusy]; rfl⟩
  have howned : s.ownedBed r = false := by rw [State.ownedBed, hsrcOff]
  have hrequest : exec (.moveAbort m.id) s = .next ((s.sentBack m r d).push [.enterPhase m.id .placing]).settle := by
    rw [exec_moveAbort, execMoveAbort, request_withMove_of_some hmode htakes hm, if_pos hif]
    simp only [hsrc, howned, htest, Bool.false_eq_true, if_false]
    rw [State.sendBack, hdst]
    dsimp only
    rw [endDelivery_of_off (by exact hoff)]
    rfl
  rw [hrequest]
  exact congrArg Host.Outcome.next (settle_enterPhase
    (m := { m with dst := .slot r, returning := true, flag := none, quarantine := true, state := .dispatched }) hwork
    (State.move_modMove_same (s := ((s.setLock d { s.lock d with deliveries := (s.lock d).deliveries - 1 }).owing
      (decide ((s.lock d).deliveries = 1))).beginDelivery r) (fun m : MoveRec => { m with
        dst := .slot r, returning := true, flag := none, quarantine := true, state := .dispatched }) (fun _ => rfl) hm)
    hcrane rfl honline hout)

end TakenUp

/-! ## MOVE_RECOVER (R184) -/

/-- The state in which a faulted move of a STOCK load has ended, its delivery to the destination taken back. -/
def State.endedDelivery (s : State) (m : MoveRec) (d : SlotRef) : State :=
  ((s.ended m).setLock d { s.lock d with deliveries := (s.lock d).deliveries - 1 }).owing (decide ((s.lock d).deliveries = 1))

section EndFaulted

variable {t : State} {m : MoveRec} {c : CraneId} {d : SlotRef} (hcrane : m.crane = some c) (hholds : m.holds = [])
include hcrane hholds

theorem endFaulted_of_other (hload : ∀ k, m.load ≠ .stock k) :
    t.endFaulted m = (t.ended m).push [.tellOrigin m .ended, .queueSpace] := by
  rw [State.endFaulted, endMove_of_no_holds hcrane hholds, ended_push]
  split
  next k d hk _ => exact absurd hk (hload k)
  next => rfl

theorem endFaulted_of_stock {k : Nat} (hload : m.load = .stock k) (hdst : m.dst = .slot d) (hoff : t.bedTable d = none) :
    t.endFaulted m = (t.endedDelivery m d).push [.tellOrigin m .ended, .queueSpace] := by
  have hoff' : ((t.ended m).push [.tellOrigin m .ended, .queueSpace]).bedTable d = none := by
    obtain ⟨ms, hframe, -⟩ := ended_frame t m
    rw [hframe]
    exact hoff
  have hlock : ((t.ended m).push [.tellOrigin m .ended, .queueSpace]).lock d = t.lock d := by
    obtain ⟨ms, hframe, -⟩ := ended_frame t m
    rw [hframe]
    rfl
  rw [State.endFaulted, endMove_of_no_holds hcrane hholds, ended_push]
  rw [hload, hdst]
  dsimp only
  rw [endDelivery_of_off hoff', hlock]
  rfl

end EndFaulted

/-- The origin of a host's move needs no word of its end, and nobody waits for queue space. -/
theorem settle_ended {t : State} {m : MoveRec} (hwork : t.work = []) (horigin : m.origin = .host)
    (hnobody : t.moves.spaceWaits = []) :
    (t.push [.tellOrigin m .ended, .queueSpace]).settle = t.takeChanged.followBeacons := by
  have htell := comesTo_tellOrigin (s := t) horigin .ended [.queueSpace]
  have hspace := comesTo_of_queueSpace hnobody []
  rw [State.push_nil] at hspace
  exact settle_of_comesTo (htell.trans hspace) (by decide) hwork

/-- What MOVE_RECOVER leaves of the crane, the queue and the destination of a move of a STOCK load, with the hook as given. -/
def RecoveredLeft (s u : State) (c : CraneId) (id : Nat) (d : SlotRef) (hook : Hook) : Prop :=
  u.crane c = { s.crane c with
      hook := hook, move := none, timer := none, hand := none,
      state := if (s.crane c).state = .busy then .idle else (s.crane c).state }
  ∧ (∀ k, k ≠ c → u.crane k = s.crane k)
  ∧ u.moves.queue = s.moves.queue.filter (fun k => k.id ≠ id) ∧ u.moves.attempts = s.moves.attempts + 1
  ∧ u.lock d = { s.lock d with deliveries := (s.lock d).deliveries - 1 }
  ∧ u.host = { s.host with hand := .ready (.accept .none) }
  ∧ u.tables = s.tables ∧ u.guards = s.guards ∧ u.flags = s.flags ∧ u.alloc = s.alloc

/-- The state in which a recovered record of a move stands, before the move ends. -/
structure Recovering (s t : State) (c : CraneId) (d : SlotRef) (hook : Hook) : Prop where
  frame : ∃ stock cs, t = { s with stock := stock, moves := { s.moves with cranes := cs } }
  crane : t.crane c = { s.crane c with hook := hook }
  cranes : ∀ k, k ≠ c → t.crane k = s.crane k
  lock : t.lock d = s.lock d
  bed : t.bedTable d = s.bedTable d

section Recovered

variable {s t : State} {m : MoveRec} {c : CraneId} {d : SlotRef} {hook : Hook} (hrec : Recovering s t c d hook)
  (hcrane : m.crane = some c)
include hrec hcrane

theorem recoveredLeft_of_recovering :
    RecoveredLeft s ((t.endedDelivery m d).accept .none).takeChanged.followBeacons c m.id d hook := by
  obtain ⟨ms, hended, hqueue, hattempts, -⟩ := ended_frame t m
  have hc := ended_crane (s := t) hcrane
  have hcs := fun k (hk : k ≠ c) => ended_crane_of_ne (s := t) hcrane hk
  rw [hrec.crane] at hc
  rw [hended] at hc hcs
  rw [State.endedDelivery, hended]
  obtain ⟨stock, cs, hframe⟩ := hrec.frame
  refine ⟨?_, fun k hk => ?_, ?_, ?_, ?_, ?_, ?_, ?_, ?_, ?_⟩
  · rw [followBeacons_crane, takeChanged_crane]
    exact hc
  · rw [followBeacons_crane, takeChanged_crane]
    exact (hcs k hk).trans (hrec.cranes k hk)
  · rw [followBeacons_moves, takeChanged_moves]
    refine hqueue.trans ?_
    rw [hframe]
  · rw [followBeacons_moves, takeChanged_moves]
    refine hattempts.trans ?_
    rw [hframe]
  · rw [followBeacons_lock, takeChanged_lock, ← hrec.lock]
    exact lock_setLock_same { t with moves := ms } d { t.lock d with deliveries := (t.lock d).deliveries - 1 }
  · rw [followBeacons_hostLine, takeChanged_host, hframe]
    rfl
  · rw [followBeacons_tables, takeChanged_tables, hframe]
    rfl
  · rw [followBeacons_guards, takeChanged_guards, hframe]
    rfl
  · rw [followBeacons_flags, takeChanged_flags, hframe]
    rfl
  · rw [followBeacons_alloc, takeChanged_alloc, hframe]
    rfl

omit hrec hcrane in
theorem endedDelivery_stockRec (id : Nat) :
    ((t.endedDelivery m d).accept .none).takeChanged.followBeacons.stockRec id = t.stockRec id := by
  obtain ⟨ms, hended, -⟩ := ended_frame t m
  rw [followBeacons_stockRec, takeChanged_stockRec, State.endedDelivery, hended]
  rfl

omit hrec hcrane in
theorem endedDelivery_lock_of_ne {q : SlotRef} (h : q ≠ d) :
    ((t.endedDelivery m d).accept .none).takeChanged.followBeacons.lock q = t.lock q := by
  obtain ⟨ms, hended, -⟩ := ended_frame t m
  rw [followBeacons_lock, takeChanged_lock, State.endedDelivery, hended]
  exact lock_setLock_of_ne { t with moves := ms } d q { t.lock d with deliveries := (t.lock d).deliveries - 1 } h

omit hcrane in
theorem endedDelivery_events : ((t.endedDelivery m d).accept .none).takeChanged.followBeacons.stock.events
    = t.stock.events + (decide ((s.lock d).deliveries = 1) || t.stock.changed).toNat := by
  obtain ⟨ms, hended, -⟩ := ended_frame t m
  rw [followBeacons_stock, takeChanged_events, State.endedDelivery, hended, ← hrec.lock]
  rfl

end Recovered

section Requests

variable {s : State} {m : MoveRec} {loc zone slot : Nat} (hmode : s.hall.mode ≠ .setup) (hm : s.move m.id = some m)
  (htakes : s.takes (.moveRecover m.id loc zone slot)) (hstate : m.state = .faulted)
include hmode hm htakes hstate

theorem exec_moveRecover_of_faulted (hloc : loc ≤ 2) :
    exec (.moveRecover m.id loc zone slot) s = .next (s.recover m loc zone slot).settle := by
  rw [exec_moveRecover, execMoveRecover, request_withMove_of_some hmode htakes hm, if_neg (Classical.not_not.2 hstate),
    if_neg (Nat.not_lt.2 hloc)]

theorem exec_moveRecover_of_high (hset : s.settled) (hloc : 2 < loc) :
    exec (.moveRecover m.id loc zone slot) s = .next (s.refuse .range) := by
  rw [exec_moveRecover, execMoveRecover, request_withMove_of_some hmode htakes hm, if_neg (Classical.not_not.2 hstate), if_pos hloc,
    settle_refuse s hset]

theorem exec_moveRecover_of_other (hset : s.settled) (hload : ∀ k, m.load ≠ .stock k) (hloc : loc ≠ 2) :
    exec (.moveRecover m.id loc zone slot) s = .next (s.refuse .range) := by
  by_cases hhigh : 2 < loc
  · exact exec_moveRecover_of_high hmode hm htakes hstate hset hhigh
  · rw [exec_moveRecover_of_faulted hmode hm htakes hstate (Nat.not_lt.1 hhigh), State.recover]
    split
    next k hk => exact absurd hk (hload k)
    next => rw [if_neg hloc, settle_refuse s hset]

end Requests

section RecoverCases

variable {s : State} {m : MoveRec} {c : CraneId} {x : StockRec} {d : SlotRef} {loc zone slot : Nat} (hload : m.load = .stock x.id)
  (hrec : s.stockRec x.id = some x)
include hload hrec

theorem recover_of_slot {r : SlotRef} {n : Nat} (hat : x.loc = .slot r n) : s.recover m loc zone slot =
    if loc = 0 ∧ r.zone.val = zone ∧ r.slot.val = slot then s.recoverAtSource m x r else s.refuse .badState := by
  rw [State.recover, hload]
  dsimp only
  rw [hrec]
  dsimp only
  rw [hat]

theorem recover_of_hook {k : CraneId} (hat : x.loc = .hook k) :
    s.recover m loc zone slot = s.recoverHeld m x loc zone slot := by
  rw [State.recover, hload]
  dsimp only
  rw [hrec]
  dsimp only
  rw [hat]

variable (hwork : s.work = []) (hcrane : m.crane = some c) (hholds : m.holds = []) (hdst : m.dst = .slot d)
  (horigin : m.origin = .host) (hnobody : s.moves.spaceWaits = []) (hoff : s.bedTable d = none)
include hwork hcrane hholds hdst horigin hnobody hoff

omit hrec in
/-- A recovered record's move ends, its request accepted. -/
theorem settle_endFaulted {t : State} {hook : Hook} (ht : Recovering s t c d hook) :
    ((t.endFaulted m).accept .none).settle = ((t.endedDelivery m d).accept .none).takeChanged.followBeacons := by
  obtain ⟨stock, cs, hframe⟩ := ht.frame
  obtain ⟨ms, hended, -, -, hspace⟩ := ended_frame t m
  rw [endFaulted_of_stock hcrane hholds hload hdst (ht.bed.trans hoff)]
  refine settle_ended (t := (t.endedDelivery m d).accept .none) ?_ horigin ?_
  · rw [State.endedDelivery, hended, hframe]
    exact hwork
  · rw [State.endedDelivery, hended]
    refine hspace.trans ?_
    rw [hframe]
    exact hnobody

/-- MOVE_RECOVER of a record not yet picked. -/
theorem recoverAtSource_leaves {r : SlotRef} (hne : d ≠ r) (hclean : s.stock.changed = false) :
    ∃ u, (s.recoverAtSource m x r).settle = u ∧ RecoveredLeft s u c m.id d (s.crane c).hook
      ∧ u.stockRec x.id = some { x with state := .quarantined, before := none, move := none }
      ∧ u.lock r = { s.lock r with pick := none }
      ∧ u.stock.events = s.stock.events + if (s.lock d).deliveries = 1 then 1 else 0 := by
  let t : State := (s.modRec x.id (fun y => { y with state := .quarantined, before := none, move := none })).setPick r none
  have ht : Recovering s t c d (s.crane c).hook :=
    ⟨⟨_, _, rfl⟩, rfl, fun _ _ => rfl,
      (lock_setPick (s.modRec x.id (fun y => { y with state := .quarantined, before := none, move := none })) r d none).trans
        (if_neg hne), rfl⟩
  refine ⟨_, settle_endFaulted hload hwork hcrane hholds hdst horigin hnobody hoff ht, recoveredLeft_of_recovering ht hcrane,
    ?_, ?_, ?_⟩
  · rw [endedDelivery_stockRec]
    exact stockRec_modRec_same hrec (fun _ => rfl)
  · rw [endedDelivery_lock_of_ne hne.symm]
    exact (lock_setPick (s.modRec x.id (fun y => { y with state := .quarantined, before := none, move := none })) r r
      none).trans (if_pos rfl)
  · rw [endedDelivery_events ht]
    refine congrArg (s.stock.events + ·) ?_
    rw [show t.stock.changed = false from hclean]
    by_cases h : (s.lock d).deliveries = 1 <;> simp [h]

/-- MOVE_RECOVER of a record that stays on the hook. -/
theorem recoverHook_leaves (hclean : s.stock.changed = false) :
    ∃ u, (((s.modRec x.id (fun y => { y with state := .held, before := none, move := none })).endFaulted m).accept
        .none).settle = u ∧ RecoveredLeft s u c m.id d (s.crane c).hook
      ∧ u.stockRec x.id = some { x with state := .held, before := none, move := none }
      ∧ u.stock.events = s.stock.events + if (s.lock d).deliveries = 1 then 1 else 0 := by
  let t : State := s.modRec x.id (fun y => { y with state := .held, before := none, move := none })
  have ht : Recovering s t c d (s.crane c).hook := ⟨⟨_, _, rfl⟩, rfl, fun _ _ => rfl, rfl, rfl⟩
  refine ⟨_, settle_endFaulted hload hwork hcrane hholds hdst horigin hnobody hoff ht, recoveredLeft_of_recovering ht hcrane,
    ?_, ?_⟩
  · rw [endedDelivery_stockRec]
    exact stockRec_modRec_same hrec (fun _ => rfl)
  · rw [endedDelivery_events ht]
    refine congrArg (s.stock.events + ·) ?_
    rw [show t.stock.changed = false from hclean]
    by_cases h : (s.lock d).deliveries = 1 <;> simp [h]

/-- MOVE_RECOVER of a record on the hook to a slot. -/
theorem recoverSlot_leaves (q : SlotRef) (hclean : s.stock.changed = false) :
    ∃ u, ((((s.layDown x.id q .quarantined).emptyHook m).endFaulted m).accept .none).settle = u
      ∧ RecoveredLeft s u c m.id d .empty
      ∧ u.stockRec x.id = some { x with
          loc := .slot q (s.slotRecs q).length, state := .quarantined, before := none, move := none }
      ∧ u.stock.events = s.stock.events
          + if s.kindOf q.zone = .stock ∨ (s.lock d).deliveries = 1 then 1 else 0 := by
  let t0 : State := (s.modRec x.id (fun x =>
    { x with loc := .slot q (s.slotRecs q).length, state := .quarantined, before := none, move := none })).owing
      (decide (StockState.quarantined = .available ∨ s.kindOf q.zone = .stock))
  let t : State := t0.modCrane c (fun r => { r with hook := .empty })
  have htlay : (s.layDown x.id q .quarantined).emptyHook m = t := by
    rw [State.emptyHook, hcrane, layDown_eq]
  have ht : Recovering s t c d .empty :=
    ⟨⟨_, _, rfl⟩, State.crane_modCrane_same t0 c (fun r => { r with hook := .empty }),
      fun _ hk => State.crane_modCrane_of_ne t0 (fun r => { r with hook := .empty }) hk, rfl, rfl⟩
  refine ⟨_, (congrArg (fun v : State => ((v.endFaulted m).accept .none).settle) htlay).trans
    (settle_endFaulted hload hwork hcrane hholds hdst horigin hnobody hoff ht), recoveredLeft_of_recovering ht hcrane, ?_, ?_⟩
  · rw [endedDelivery_stockRec]
    exact stockRec_modRec_same (s := s) hrec (fun _ => rfl)
  · rw [endedDelivery_events ht]
    refine congrArg (s.stock.events + ·) ?_
    have hchanged : t.stock.changed
        = (decide (StockState.quarantined = .available ∨ s.kindOf q.zone = .stock) || s.stock.changed) := rfl
    rw [hchanged, hclean]
    by_cases h : (s.lock d).deliveries = 1 <;> by_cases hkind : s.kindOf q.zone = .stock <;> simp [h, hkind]

end RecoverCases

theorem stockSlotRef_of_none {s : State} {zone slot : Nat}
    (h : s.slotRef zone slot = none ∨ ∃ q, s.slotRef zone slot = some q ∧ s.kindOf q.zone = .output) :
    s.stockSlotRef zone slot = none := by
  obtain hnone | ⟨q, hsome, hkind⟩ := h
  · rw [State.stockSlotRef, hnone]
  · rw [State.stockSlotRef, hsome]
    exact if_pos hkind

theorem stockSlotRef_of_some {s : State} {zone slot : Nat} {q : SlotRef} (h : s.slotRef zone slot = some q)
    (hkind : s.kindOf q.zone ≠ .output) : s.stockSlotRef zone slot = some q := by
  rw [State.stockSlotRef, h]
  exact if_neg hkind

section TakenUpObligation

variable {s : State} {m : MoveRec} {c : CraneId} (hset : s.settled) (hmode : s.hall.mode ≠ .setup) (hm : s.move m.id = some m)
  (hcrane : m.crane = some c)
include hset hmode hm hcrane

section Handed

variable (honline : (s.unit (craneUnit c)).link = .online) (hout : (s.unit (craneUnit c)).out = none)
include honline hout

theorem moveAcceptWeight_takes_up (htakes : s.takes (.moveAcceptWeight m.id)) (hstate : m.state = .weightHold)
    (hbusy : (s.crane c).state = .busy) (hfar : m.srcZone ≠ some m.dst.zoneOf) :
    ∃ u : State, exec (.moveAcceptWeight m.id) s = .next u
      ∧ u.move m.id = some { m with state := .dispatched, phase := some .toDest }
      ∧ u.host = { s.host with hand := .ready (.accept .none) } ∧ u.stock = s.stock
      ∧ TookUp s u c (.goto m.dst.zoneOf) := by
  let t : State := (s.modMove m.id (fun m => { m with state := .dispatched })).accept .none
  have hclean : (t.commanded c m.id .toDest (.goto m.dst.zoneOf)).takeChanged
      = t.commanded c m.id .toDest (.goto m.dst.zoneOf) := takeChanged_of_clean _ (by rw [commanded_stock]; exact hset.2.1)
  refine ⟨_, exec_moveAcceptWeight_of_held hset.1 hmode hm hcrane honline hout htakes hstate hbusy hfar, ?_, ?_, ?_, ?_⟩
  · rw [followBeacons_move, takeChanged_move]
    exact commanded_move t c m.id .toDest (.goto m.dst.zoneOf)
      (State.move_modMove_same (fun m : MoveRec => { m with state := .dispatched }) (fun _ => rfl) hm)
  · rw [followBeacons_hostLine, takeChanged_host, commanded_host]
    rfl
  · rw [hclean, followBeacons_stock, commanded_stock]
    rfl
  · exact tookUp_of_commanded (t := t) ⟨_, _, _, rfl⟩ (by rw [← hbusy]; rfl)

theorem moveAbort_sends_back {r d : SlotRef} (htakes : s.takes (.moveAbort m.id)) (hstate : m.state = .weightHold)
    (hbusy : (s.crane c).state = .busy) (hsrc : m.src = .slot r) (hdst : m.dst = .slot d) (hne : d ≠ r)
    (hsrcOff : s.bedTable r = none) (hoff : s.bedTable d = none) (htest : s.deliveryTest r = none) :
    ∃ u : State, exec (.moveAbort m.id) s = .next u
      ∧ u.move m.id = some { m with
          dst := .slot r, returning := true, flag := none, quarantine := true, state := .dispatched,
          phase := some .placing }
      ∧ u.host = { s.host with hand := .ready (.accept .none) }
      ∧ u.stock.recs = s.stock.recs
      ∧ u.lock r = { s.lock r with deliveries := (s.lock r).deliveries + 1 }
      ∧ u.lock d = { s.lock d with deliveries := (s.lock d).deliveries - 1 }
      ∧ TookUp s u c (.place r.slot.val) := by
  let s1 : State := (s.setLock d { s.lock d with deliveries := (s.lock d).deliveries - 1 }).owing
    (decide ((s.lock d).deliveries = 1))
  have hlock : ∀ q, s1.lock q = if q = d then { s.lock d with deliveries := (s.lock d).deliveries - 1 } else s.lock q :=
    fun q => lock_setLock s d q _
  have hsent : ∀ q, (s.sentBack m r d).lock q
      = if q = r then { s1.lock r with deliveries := (s1.lock r).deliveries + 1 } else s1.lock q :=
    fun q => lock_beginDelivery s1 r q
  refine ⟨_, exec_moveAbort_of_held hset.1 hmode hm hcrane honline hout htakes hstate hbusy hsrc hdst hsrcOff hoff htest,
    ?_, ?_, ?_, ?_, ?_, ?_⟩
  · rw [followBeacons_move, takeChanged_move]
    exact commanded_move (s.sentBack m r d) c m.id .placing (.place r.slot.val)
      (State.move_modMove_same (s := s1.beginDelivery r) (fun m : MoveRec => { m with
        dst := .slot r, returning := true, flag := none, quarantine := true, state := .dispatched }) (fun _ => rfl) hm)
  · rw [followBeacons_hostLine, takeChanged_host, commanded_host]
    rfl
  · rw [takeChanged_eq]
    rfl
  · rw [followBeacons_lock, takeChanged_lock]
    refine (hsent r).trans ?_
    rw [if_pos rfl, hlock, if_neg hne.symm]
  · rw [followBeacons_lock, takeChanged_lock]
    refine (hsent d).trans ?_
    rw [if_neg hne, hlock, if_pos rfl]
  · exact tookUp_of_commanded (t := s.sentBack m r d) ⟨_, _, _, rfl⟩ (by rw [← hbusy]; rfl)

omit hset hmode hm hcrane honline hout in
theorem retried_stockRec {x : StockRec} (hload : m.load = .stock x.id) (hrec : s.stockRec x.id = some x) :
    (s.retried m c).stockRec x.id = some (if x.state = .held then { x with
      state := .moving, before := some (if m.quarantine then .quarantined else .available) } else x) := by
  rw [State.retried, State.holdAgain, hload]
  exact stockRec_modRec_same (s := (s.modCrane c (fun r => { r with state := .busy })).modMove m.id
    (fun m => { m with state := .dispatched })) hrec (fun y => by split <;> rfl)

theorem moveRetry_takes_up {p : Phase} {cmd : FieldCmd} (htakes : s.takes (.moveRetry m.id)) (hstate : m.state = .faulted)
    (hidle : (s.crane c).state = .idle) (hphase : m.phase = some p) (hcmd : phaseCmd m p = some cmd) :
    ∃ u : State, exec (.moveRetry m.id) s = .next u
      ∧ u.move m.id = some { m with state := .dispatched }
      ∧ u.host = { s.host with hand := .ready (.accept (.phase (some p))) }
      ∧ (∀ x, m.load = .stock x.id → s.stockRec x.id = some x →
          (x.state = .held → u.stockRec x.id = some { x with
            state := .moving, before := some (if m.quarantine then .quarantined else .available) })
          ∧ (x.state ≠ .held → u.stockRec x.id = some x))
      ∧ TookUp s u c cmd := by
  obtain ⟨l, hframe⟩ := retried_frame (s := s) (m := m) (c := c)
  refine ⟨_, exec_moveRetry_of_faulted hset.1 hmode hm hcrane honline hout htakes hstate hidle hphase hcmd, ?_, ?_,
    fun x hload hrec => ?_, ?_⟩
  · rw [followBeacons_move, takeChanged_move]
    have hmoved : ((s.retried m c).accept (.phase (some p))).move m.id = some { m with state := .dispatched } := by
      rw [hframe]
      exact State.move_modMove_same (s := s.modCrane c (fun r => { r with state := .busy }))
        (fun m : MoveRec => { m with state := .dispatched }) (fun _ => rfl) hm
    rw [commanded_move _ c m.id p cmd hmoved, ← hphase]
  · rw [followBeacons_hostLine, takeChanged_host, commanded_host, hframe]
    rfl
  · have hafter : (((s.retried m c).accept (.phase (some p))).commanded c m.id p cmd).takeChanged.followBeacons.stockRec x.id
        = some (if x.state = .held then { x with
          state := .moving, before := some (if m.quarantine then .quarantined else .available) } else x) := by
      rw [followBeacons_stockRec, takeChanged_stockRec, commanded_stockRec, accept_stockRec]
      exact retried_stockRec hload hrec
    exact ⟨fun h => by rw [hafter, if_pos h], fun h => by rw [hafter, if_neg h]⟩
  · refine tookUp_of_commanded ?_ ?_
    · rw [hframe]
      exact ⟨_, _, _, rfl⟩
    · rw [hframe]
      exact State.crane_modCrane_same s c (fun r => { r with state := .busy })

end Handed

theorem moveRecover_ends_other {zone slot : Nat} (htakes : s.takes (.moveRecover m.id 2 zone slot))
    (hstate : m.state = .faulted) (hload : ∀ k, m.load ≠ .stock k) (hholds : m.holds = [])
    (hnobody : s.moves.spaceWaits = []) (horigin : m.origin = .host) :
    ∃ u : State, exec (.moveRecover m.id 2 zone slot) s = .next u
      ∧ u.crane c = { s.crane c with
          hook := .empty, move := none, timer := none, hand := none,
          state := if (s.crane c).state = .busy then .idle else (s.crane c).state }
      ∧ u.moves.queue = s.moves.queue.filter (fun k => k.id ≠ m.id)
      ∧ u.moves.attempts = s.moves.attempts + 1
      ∧ u.host = { s.host with hand := .ready (.accept .none) }
      ∧ u.stock = s.stock ∧ u.tables = s.tables ∧ u.guards = s.guards ∧ u.flags = s.flags := by
  let t : State := s.modCrane c (fun r => { r with hook := .empty })
  have hrecover : s.recover m 2 zone slot = ((t.ended m).accept .none).push [.tellOrigin m .ended, .queueSpace] := by
    have hempty : s.emptyHook m = t := by rw [State.emptyHook, hcrane]
    rw [State.recover]
    split
    next k hk => exact absurd hk (hload k)
    next =>
      rw [if_pos rfl, hempty, endFaulted_of_other hcrane hholds hload]
      rfl
  obtain ⟨ms, hended, hqueue, hattempts, hspace⟩ := ended_frame t m
  have hc := ended_crane (s := t) hcrane
  rw [hended] at hc
  have hsettle : (((t.ended m).accept .none).push [.tellOrigin m .ended, .queueSpace]).settle
      = ((t.ended m).accept .none).takeChanged.followBeacons := by
    rw [hended]
    exact settle_ended (t := ({ t with moves := ms } : State).accept .none) hset.1 horigin (hspace.trans hnobody)
  rw [exec_moveRecover_of_faulted hmode hm htakes hstate (Nat.le_refl 2), hrecover, hsettle, hended,
    takeChanged_of_clean (({ t with moves := ms } : State).accept .none) hset.2.1]
  refine ⟨_, rfl, ?_, hqueue, hattempts, rfl, rfl, rfl, rfl, rfl⟩
  refine hc.trans ?_
  rw [show t.crane c = { s.crane c with hook := .empty } from
    State.crane_modCrane_same s c (fun r => { r with hook := .empty })]
  rfl

end TakenUpObligation

/-- Settles O55. -/
theorem heldMovesAreTakenUp : Obligations.HeldMovesAreTakenUp := by
  intro s id loc zone slot hset hmode
  refine ⟨takenUp_refused_of_none hmode hset, fun m hm => ?_⟩
  obtain rfl : m.id = id := State.move_id hm
  refine ⟨takenUp_refused_of_not_held hmode hset hm, takenUp_refused_of_not_faulted hmode hset hm,
    fun c hcrane honline hout => ?_, fun c htakes hstate hcrane => ⟨?_, ?_⟩⟩
  · intro handed
    exact ⟨moveAcceptWeight_takes_up hset hmode hm hcrane honline hout,
      fun r d htakes hstate hbusy hsrc hdst hne hsrcOff hoff htest _ =>
        moveAbort_sends_back hset hmode hm hcrane honline hout htakes hstate hbusy hsrc hdst hne hsrcOff hoff htest,
      fun p cmd => moveRetry_takes_up hset hmode hm hcrane honline hout,
      moveRecover_ends_other hset hmode hm hcrane⟩
  · exact exec_moveRecover_of_other hmode hm htakes hstate hset
  · intro x d hload hrec hdst hoff hholds hnobody horigin hloc last recovered
    have hexec := exec_moveRecover_of_faulted hmode hm htakes hstate hloc
    refine ⟨fun r n hat => ⟨fun hother => ?_, fun hl hz hs hne => ?_⟩, fun k hat => ?_⟩
    · rw [hexec, recover_of_slot hload hrec hat, if_neg (fun h => hother ⟨h.1, h.2.1.symm, h.2.2.symm⟩), settle_refuse s hset]
    · rw [recover_of_slot hload hrec hat, if_pos ⟨hl, hz.symm, hs.symm⟩] at hexec
      obtain ⟨u, hu, hleft, hx, hlock, hevents⟩ := recoverAtSource_leaves hload hrec hset.1 hcrane hholds hdst horigin hnobody
        hoff hne hset.2.1
      exact ⟨u, ⟨hexec.trans (congrArg Host.Outcome.next hu), hleft⟩, hx, hlock, hevents⟩
    · rw [recover_of_hook hload hrec hat] at hexec
      have hrefused : ∀ code, s.recoverHeld m x loc zone slot = s.refuse code →
          exec (.moveRecover m.id loc zone slot) s = .next (s.refuse code) := fun code h => by
        rw [hexec, h, settle_refuse s hset]
      refine ⟨?_, ?_, ?_, ?_, ?_⟩
      · rintro rfl
        exact hrefused .range rfl
      · rintro rfl hno
        refine hrefused .badState ?_
        rw [State.recoverHeld, hcrane]
        simp [hno]
      · rintro rfl hsensed
        obtain ⟨u, hu, hleft, hx, hevents⟩ := recoverHook_leaves hload hrec hset.1 hcrane hholds hdst horigin hnobody hoff
          hset.2.1
        have hheld : s.recoverHeld m x 1 zone slot
            = ((s.modRec x.id (fun y => { y with state := .held, before := none, move := none })).endFaulted m).accept
              .none := by
          rw [State.recoverHeld, hcrane]
          simp [hsensed]
        rw [hheld] at hexec
        exact ⟨u, ⟨hexec.trans (congrArg Host.Outcome.next hu), hleft⟩, hx, hevents⟩
      · rintro rfl hno
        refine hrefused .range ?_
        rw [State.recoverHeld, if_pos rfl, stockSlotRef_of_none hno]
      · rintro q rfl hq hkind tested
        have htested : s.recoverTest m q = tested := by rw [State.recoverTest, hdst]
        refine ⟨fun code hcode => hrefused code ?_, fun hnone => ?_⟩
        · rw [State.recoverHeld, if_pos rfl, stockSlotRef_of_some hq hkind]
          dsimp only
          rw [htested, hcode]
        have hheld : s.recoverHeld m x 0 zone slot
            = (((s.layDown x.id q .quarantined).emptyHook m).endFaulted m).accept .none := by
          rw [State.recoverHeld, if_pos rfl, stockSlotRef_of_some hq hkind]
          dsimp only
          rw [htested, hnone]
        rw [hheld] at hexec
        obtain ⟨u, hu, hleft, hx, hevents⟩ := recoverSlot_leaves hload hrec hset.1 hcrane hholds hdst horigin hnobody hoff q
          hset.2.1
        exact ⟨u, ⟨hexec.trans (congrArg Host.Outcome.next hu), hleft⟩, hx, hevents⟩

end Sys2Proof.Machine

/-! CRANE_RESUME and the STATUS it waits for (R181). -/

namespace Sys2Proof.Machine

theorem exec_craneResume (n : Nat) (s : State) : exec (.craneResume n) s = execCraneResume n s := by rfl

section Request

variable {s : State} {c : CraneId}

/-- The state in which a crane's STATUS is awaited for CRANE_RESUME. -/
def State.resuming (s : State) (c : CraneId) : State :=
  ((s.modCrane c (fun r => { r with awaited := true })).craneHanded c .statusQuery).setHand (.waiting (.craneResume c))

theorem quiet_resuming (s : State) (c : CraneId) : Quiet s (s.resuming c) := by
  simp only [State.resuming, State.craneHanded, quiet_setHand, quiet_modUnit]
  exact (quiet_line (t := s.modCrane c (fun r => { r with awaited := true })) _).2 
    ((quiet_modCrane c (fun r => { r with awaited := true }) (fun _ => rfl)).2 (Quiet.refl s))

theorem resuming_crane : (s.resuming c).crane c = { s.crane c with awaited := true } :=
  State.crane_modCrane_same s c (fun r => { r with awaited := true })

theorem resuming_crane_of_ne {k : CraneId} (h : k ≠ c) : (s.resuming c).crane k = s.crane k :=
  State.crane_modCrane_of_ne s (fun r => { r with awaited := true }) h

theorem resuming_unit : ((s.resuming c).unit (craneUnit c)).out = some
    { cmd := { cmd := .statusQuery, sender := .cranes, hand := s.line.nextHand }, attempt := 1, inFlight := false } :=
  congrArg UnitRec.out (craneHanded_unit (s.modCrane c (fun r => { r with awaited := true })) c .statusQuery)

theorem exec_craneResume_of_takes {n : Nat} (htakes : s.takes (.craneResume n)) : exec (.craneResume n) s = .next
    (s.notInSetup (s.withCrane n fun c =>
      if (s.crane c).state ≠ .halted then s.refuse .badState
      else if s.hall.stop then s.refuse .stopAsserted
      else ((s.modCrane c (fun r => { r with awaited := true })).handTo (craneUnit c) .statusQuery .cranes).setHand
        (.waiting (.craneResume c)))).settle := by
  rw [exec_craneResume, execCraneResume, request_of_takes _ _ _ htakes]

end Request

section Resumed

variable {s : State} {c : CraneId} {z : Zone} {load : Bool} {h : Handed}

/-- The state in which the STATUS of a crane without a move has been taken. -/
def State.located (s : State) (c : CraneId) (z : Zone) (load : Bool) : State :=
  ((s.modCrane c (fun r => { r with pos := some z })).modCrane c (fun r => { r with
    sensed := if load then .yes else .no, awaited := false })).wantAttempt

theorem located_crane : (s.located c z load).crane c =
    { s.crane c with pos := some z, sensed := if load then .yes else .no, awaited := false } := by
  refine (State.crane_modCrane_same (s.modCrane c (fun r => { r with pos := some z })) c (fun r => { r with
    sensed := if load then .yes else .no, awaited := false })).trans ?_
  rw [State.crane_modCrane_same]

theorem located_crane_of_ne {k : CraneId} (hk : k ≠ c) : (s.located c z load).crane k = s.crane k := by
  refine (State.crane_modCrane_of_ne (s.modCrane c (fun r => { r with pos := some z })) (fun r => { r with
    sensed := if load then .yes else .no, awaited := false }) hk).trans ?_
  rw [State.crane_modCrane_of_ne _ _ hk]

theorem craneAnswer_of_awaited (hcmd : h.cmd = .statusQuery) (hawaited : (s.crane c).awaited = true)
    (hmove : (s.crane c).move = none) :
    s.craneAnswer c h (.status (.crane z.val load)) = (s.located c z load).push [.craneResumed c] := by
  have hpos : s.setPosition c z = s.modCrane c (fun r => { r with pos := some z }) := by
    have hnone : ((s.modCrane c (fun r => { r with pos := some z })).crane c).move = none := by
      rw [State.crane_modCrane_same]
      exact hmove
    rw [State.setPosition, hnone]
    rfl
  rw [State.craneAnswer.eq_def, hcmd]
  dsimp only [FieldCmd.kind]
  rw [dif_pos z.isLt, if_pos hawaited, hpos]
  rfl

theorem runAnswered_of_cranes (hsender : h.sender = .cranes) (a : Answer) :
    runAnswered (craneUnit c) h a s = s.craneAnswer c h a := by
  unfold runAnswered
  rw [hsender, ownerOf_craneUnit]

/-- The state in which a crane without a move goes on. -/
def State.atRest (s : State) (c : CraneId) : State := s.modCrane c (fun r => { r with state := .idle, cause := none })

theorem runCraneResumed_of_free (hhand : s.host.hand = .waiting (.craneResume c)) (hmove : (s.crane c).move = none) :
    runCraneResumed c s = (s.atRest c).accept (.crane .idle (s.crane c).pos none) := by
  have hnone : s.craneMove c = none := craneMove_of_none hmove
  have hrest : (s.atRest c).crane c = { s.crane c with state := .idle, cause := none } :=
    State.crane_modCrane_same s c (fun r => { r with state := .idle, cause := none })
  rw [runCraneResumed, if_pos hhand, hnone]
  have hmatch : (match (s.crane c).cause, (none : Option MoveRec) with
      | some .stop, some m =>
        match m.state with
        | .stopped =>
          ((s.modCrane c (fun r => { r with state := .busy, cause := none })).modMove m.id
            (fun m => { m with state := .dispatched })).push [.enterPhase m.id (m.phase.getD .holdWait)]
        | .weightHold => s.modCrane c (fun r => { r with state := .busy, cause := none })
        | _ => s.atRest c
      | _, _ => s.atRest c) = s.atRest c := by
    cases (s.crane c).cause with
    | none => rfl
    | some k => cases k <;> rfl
  refine (congrArg (fun t : State => t.accept (.crane (t.crane c).state (t.crane c).pos (t.crane c).move)) hmatch).trans ?_
  rw [hrest, hmove]

/-- The state in which the crane that CRANE_RESUME waits for goes on, without a move. -/
def State.goneOn (s : State) (c : CraneId) (z : Zone) (load : Bool) : State :=
  ((s.located c z load).atRest c).accept (.crane .idle (some z) none)

theorem goneOn_frame (s : State) (c : CraneId) (z : Zone) (load : Bool) : ∃ ms : MoveCtl, s.goneOn c z load = { s with
    moves := ms, host := { s.host with hand := .ready (.accept (.crane .idle (some z) none)) } }
    ∧ ms.queue = s.moves.queue ∧ ms.attempts = s.moves.attempts + 1 := ⟨_, rfl, rfl, rfl⟩

theorem goneOn_crane : (s.goneOn c z load).crane c = { s.crane c with
    pos := some z, sensed := if load then .yes else .no, awaited := false, state := .idle, cause := none } := by
  refine (State.crane_modCrane_same (s.located c z load) c (fun r => { r with state := .idle, cause := none })).trans ?_
  rw [located_crane]

theorem goneOn_crane_of_ne {k : CraneId} (hk : k ≠ c) : (s.goneOn c z load).crane k = s.crane k :=
  (State.crane_modCrane_of_ne (s.located c z load) (fun r => { r with state := .idle, cause := none }) hk).trans
    (located_crane_of_ne hk)

/-- What the STATUS that CRANE_RESUME waits for comes to, for a crane without a move. -/
theorem settle_goneOn (hwork : s.work = []) (hclean : s.stock.changed = false) (hcmd : h.cmd = .statusQuery)
    (hsender : h.sender = .cranes) (hhand : s.host.hand = .waiting (.craneResume c)) (hawaited : (s.crane c).awaited = true)
    (hmove : (s.crane c).move = none) (z : Zone) (load : Bool) :
    (s.push [.answered (craneUnit c) h (.status (.crane z.val load))]).settle = (s.goneOn c z load).followBeacons
      ∧ (s.goneOn c z load).crane c = { s.crane c with
          pos := some z, sensed := if load then .yes else .no, awaited := false, state := .idle, cause := none }
      ∧ (∀ k, k ≠ c → (s.goneOn c z load).crane k = s.crane k) := by
  refine ⟨?_, goneOn_crane, fun k hk => goneOn_crane_of_ne hk⟩
  have hat : (s.located c z load).crane c
      = { s.crane c with pos := some z, sensed := if load then .yes else .no, awaited := false } := located_crane
  have hanswered : (s.push [.answered (craneUnit c) h (.status (.crane z.val load))]).comesTo 1
      ((s.located c z load).push [.craneResumed c]) :=
    comesTo_push _ [] ((runAnswered_of_cranes hsender _).trans (craneAnswer_of_awaited hcmd hawaited hmove))
  have hresumed : ((s.located c z load).push [.craneResumed c]).comesTo 1 (s.goneOn c z load) := by
    refine comesTo_push (s := s.located c z load) _ [] ?_
    refine (runCraneResumed_of_free (s := s.located c z load) hhand (by rw [hat]; exact hmove)).trans ?_
    rw [hat]
    rfl
  exact settle_of_comesTo_clean (hanswered.trans hresumed) (by decide) hwork hclean

end Resumed

/-- Settles O56. -/
theorem craneResumeAsksTheCrane : Obligations.CraneResumeAsksTheCrane := by
  intro s n hset
  refine ⟨fun htakes => ?_, fun c o e z load hrun hhand hawaited hmove hwindow hout hwaiting hcmd hsender => ?_⟩
  · have hexec := exec_craneResume_of_takes htakes
    refine ⟨fun hmode => ?_, fun hmode hrange => ?_, fun c hmode hn => ?_⟩
    · rw [hexec, notInSetup_of_setup hmode, settle_refuse s hset]
    · rw [hexec, notInSetup_of_running hmode, withCrane_of_range hrange, settle_refuse s hset]
    · subst hn
      rw [notInSetup_of_running hmode] at hexec
      refine ⟨fun habsent => ?_, fun hfit hother => ?_, fun hhalted hstop => ?_, fun hhalted hstop honline hout => ?_⟩
      · rw [hexec, withCrane_of_absent habsent, settle_refuse s hset]
      · rw [hexec, withCrane_of_fitted hfit, if_pos hother, settle_refuse s hset]
      · rw [hexec, withCrane_of_fitted (by rw [hhalted]; exact (fun h => nomatch h)), if_neg (Classical.not_not.2 hhalted), if_pos hstop,
          settle_refuse s hset]
      · have hhanded := handTo_crane (s := s.modCrane c (fun r => { r with awaited := true })) .statusQuery honline hout
        rw [withCrane_of_fitted (by rw [hhalted]; exact (fun h => nomatch h)), if_neg (Classical.not_not.2 hhalted),
          if_neg (by rw [hstop]; exact Bool.false_ne_true), hhanded] at hexec
        exact ⟨s.resuming c, hexec.trans (congrArg Host.Outcome.next ((quiet_resuming s c).settle hset)), rfl, resuming_crane,
          fun k hk => resuming_crane_of_ne hk, resuming_unit, rfl, rfl, rfl, rfl⟩
  · obtain ⟨hend, hcrane, hcranes⟩ := settle_goneOn (s := s.answeredLine (craneUnit c)) hset.1 hset.2.1 hcmd hsender hhand
      hawaited hmove z load
    obtain ⟨ms, hframe, hqueue, hattempts⟩ := goneOn_frame (s.answeredLine (craneUnit c)) c z load
    rw [hframe] at hend hcrane hcranes
    exact ⟨_, (exec_status_of_crane hrun hwindow hout hcmd z load).trans (congrArg Host.Outcome.next
      ((congrArg State.settle (goodAnswer_of_alone hwaiting _)).trans hend)), hcrane, hcranes, rfl,
      answeredLine_unit s (craneUnit c), rfl, hattempts, hqueue, rfl, rfl, rfl⟩

end Sys2Proof.Machine

/-! Part marking (chapter 6): frames, serials, the exchange with the marker head, and the end of a mark (R115 to R127). -/

namespace Sys2Proof.Machine

/-! ## Frames and serials (R116, R126) -/

section Frames

variable (token : Nat) (str : List Nat) (n : Nat)

theorem flatMap_frames (k : Nat) :
    (List.range k).flatMap (fun n => (markFrameOf token str n).chars) = str.take (6 * k) := by
  induction k with
  | zero => rfl
  | succ k ih =>
    rw [List.range_succ, List.flatMap_append, ih, Nat.mul_succ, List.take_add]
    simp [markFrameOf, frameChars]

theorem frames_joined : (List.range (frameCount str)).flatMap (fun n => (markFrameOf token str n).chars) = str := by
  rw [flatMap_frames]
  exact List.take_of_length_le (by unfold frameCount; omega)

theorem frame_count (h : n < frameCount str) : 1 ≤ (markFrameOf token str n).count ∧ (markFrameOf token str n).count ≤ 6
    ∧ (n + 1 < frameCount str → (markFrameOf token str n).count = 6) := by
  have hcount : (markFrameOf token str n).count = min 6 (str.length - 6 * n) := by
    simp [markFrameOf, frameChars]
  rw [hcount]
  unfold frameCount at *
  omega

theorem frame_check : (markFrameOf token str n).check
    = ((markFrameOf token str n).chars.sum + n + (markFrameOf token str n).count) % 16 := by
  simp [markFrameOf, checkNibble]

end Frames

section Serials

variable {m : MarkRec} {a b c d : Nat}

theorem increase_of_some {a' b' c' d' : Nat} (hserial : m.serial = some [a, b, c, d])
    (h : incDigits [d, c, b, a] = some [d', c', b', a']) : m.increase = { m with serial := some [a', b', c', d'] } := by
  rw [MarkRec.increase, hserial]
  show (match incDigits [d, c, b, a] with
    | some r => _
    | none => _) = _
  rw [h]
  rfl

theorem increase_of_last (hserial : m.serial = some [9, 9, 9, 9]) : m.increase = { m with spent := true } := by
  rw [MarkRec.increase, hserial]
  rfl

/-- The carry goes as far as the digits are 9 from the lowest on. -/
theorem increase_of_digits (hserial : m.serial = some [a, b, c, d]) (ha : a ≤ 9) (hb : b ≤ 9) (hc : c ≤ 9) (hd : d ≤ 9)
    (hlow : 1000 * a + 100 * b + 10 * c + d < 9999) :
    ∃ a' b' c' d' : Nat, m.increase = { m with serial := some [a', b', c', d'] }
      ∧ a' ≤ 9 ∧ b' ≤ 9 ∧ c' ≤ 9 ∧ d' ≤ 9
      ∧ 1000 * a' + 100 * b' + 10 * c' + d' = 1000 * a + 100 * b + 10 * c + d + 1 := by
  by_cases hd9 : d = 9
  · by_cases hc9 : c = 9
    · by_cases hb9 : b = 9
      · exact ⟨a + 1, 0, 0, 0, increase_of_some hserial (by simp [incDigits, hd9, hc9, hb9, show a ≠ 9 by omega]), by omega,
          by omega, by omega, by omega, by omega⟩
      · exact ⟨a, b + 1, 0, 0, increase_of_some hserial (by simp [incDigits, hd9, hc9, hb9]), by omega, by omega, by omega,
          by omega, by omega⟩
    · exact ⟨a, b, c + 1, 0, increase_of_some hserial (by simp [incDigits, hd9, hc9]), by omega, by omega, by omega, by omega,
        by omega⟩
  · exact ⟨a, b, c, d + 1, increase_of_some hserial (by simp [incDigits, hd9]), by omega, by omega, by omega, by omega,
      by omega⟩

end Serials

theorem framesAndSerials : (∀ (token : Nat) (str : List Nat),
    (List.range (frameCount str)).flatMap (fun n => (markFrameOf token str n).chars) = str
    ∧ (∀ n, n < frameCount str → let f := markFrameOf token str n
        f.token = token ∧ f.frame = n ∧ f.count = f.chars.length ∧ 1 ≤ f.count ∧ f.count ≤ 6
        ∧ (n + 1 < frameCount str → f.count = 6) ∧ f.check = (f.chars.sum + n + f.count) % 16))
  ∧ (∀ (m : MarkRec) (a b c d : Nat), m.serial = some [a, b, c, d] → a ≤ 9 → b ≤ 9 → c ≤ 9 → d ≤ 9 →
    let v := 1000 * a + 100 * b + 10 * c + d
    (v = 9999 → m.increase = { m with spent := true })
    ∧ (v < 9999 → ∃ a' b' c' d' : Nat, m.increase = { m with serial := some [a', b', c', d'] }
        ∧ a' ≤ 9 ∧ b' ≤ 9 ∧ c' ≤ 9 ∧ d' ≤ 9 ∧ 1000 * a' + 100 * b' + 10 * c' + d' = v + 1))
  ∧ (∀ m : MarkRec, m.serial = none → m.increase = m) := by
  refine ⟨fun token str => ⟨frames_joined token str, fun n hn => ?_⟩, fun m a b c d hserial ha hb hc hd => ?_,
    fun m hnone => by rw [MarkRec.increase, hnone]⟩
  · obtain ⟨hpos, hmax, hfull⟩ := frame_count token str n hn
    exact ⟨rfl, rfl, rfl, hpos, hmax, hfull, frame_check token str n⟩
  · refine ⟨fun hlast => ?_, increase_of_digits hserial ha hb hc hd⟩
    obtain ⟨rfl, rfl, rfl, rfl⟩ : a = 9 ∧ b = 9 ∧ c = 9 ∧ d = 9 := by omega
    exact increase_of_last hserial

end Sys2Proof.Machine

/-! The exchange of a mark with the marker head (R121 to R124). -/

namespace Sys2Proof.Machine

theorem exec_frameEcho (n : Nat) (marker : Bool) (token frame count : Nat) (chars : List Nat) (s : State) :
    exec (.frameEcho n marker token frame count chars) s = execFrameEcho n marker token frame count chars s := by rfl

theorem exec_frameReject (n : Nat) (marker : Bool) (token frame : Nat) (s : State) :
    exec (.frameReject n marker token frame) s = execFrameReject n marker token frame s := by rfl

theorem exec_echoTimerExpiry (s : State) : exec .echoTimerExpiry s = execEchoTimerExpiry s := by rfl

section Reports

variable {s : State} {t : TableId} {e : Nat} (hrun : s.hall.inReset = false)
include hrun

theorem exec_frameEcho_of_offer (hwindow : s.line.window = some { unit := tableUnit t, kind := .offer, expiry := e })
    (token frame count : Nat) (chars : List Nat) : exec (.frameEcho (t.val + 1) true token frame count chars) s
      = .next (s.closeWindow.takeEcho t token frame count chars).settle := by
  have hunit : t.val + 1 = (tableUnit t).val + 1 := rfl
  have howner : ownerOf (tableUnit t) = .table t := ownerOf_tableUnit t
  rw [exec_frameEcho, execFrameEcho, handled_of_running _ s hrun, hunit, receive_of_offer _ _ hwindow]
  simp [State.receiveReport, FieldMsg.isReport, State.deliver, howner]

theorem exec_frameReject_of_offer (hwindow : s.line.window = some { unit := tableUnit t, kind := .offer, expiry := e })
    (token frame : Nat) : exec (.frameReject (t.val + 1) true token frame) s
      = .next (s.closeWindow.takeReject t token frame).settle := by
  have hunit : t.val + 1 = (tableUnit t).val + 1 := rfl
  have howner : ownerOf (tableUnit t) = .table t := ownerOf_tableUnit t
  rw [exec_frameReject, execFrameReject, handled_of_running _ s hrun, hunit, receive_of_offer _ _ hwindow]
  simp [State.receiveReport, FieldMsg.isReport, State.deliver, howner]

theorem exec_echoTimerExpiry_of_due {c : MarkCtx} {x : Nat} (hctx : s.composer.ctx = some c)
    (hstate : s.composer.state = .echoWait) (htimer : c.timer = some x) (hdue : x ≤ s.now) :
    exec .echoTimerExpiry s = .next (s.rejectFrame c).settle := by
  rw [exec_echoTimerExpiry, execEchoTimerExpiry, handled_of_running _ s hrun, hctx]
  dsimp only
  rw [if_pos ⟨hstate, by rw [htimer]; exact decide_eq_true hdue⟩]

end Reports

section Awaits

variable {s : State} {t : TableId} {c : MarkCtx} (hctx : s.composer.ctx = some c)
include hctx

theorem markAwaits_of_frame (htable : c.entry.table = t) (hstate : s.composer.state = .sending ∨ s.composer.state = .echoWait) :
    s.markAwaits t c.token c.frame = some c := by
  rw [State.markAwaits, hctx]
  exact if_pos ⟨hstate, htable, rfl, rfl⟩

theorem markAwaits_of_other {token frame : Nat} (h : token ≠ c.token ∨ frame ≠ c.frame) :
    s.markAwaits t token frame = none := by
  rw [State.markAwaits, hctx]
  exact if_neg (fun ⟨_, _, htoken, hframe⟩ => h.elim (fun h => h htoken.symm) (fun h => h hframe.symm))

end Awaits

/-- The state in which the frame in hand of a mark has been handed to its table's unit. -/
def State.frameSent (s : State) (k : MarkCtx) : State :=
  (s.setComposer { s.composer with
    state := .sending, ctx := some { k with timer := none, hand := s.line.nextHand } }).countHand.modUnit
      (tableUnit k.entry.table) (fun r => { r with
        out := some { cmd := { cmd := .markFrame (markFrameOf k.token k.str k.frame), sender := .composer,
                               hand := s.line.nextHand }, attempt := 1, inFlight := false } })

section Sent

variable {s : State} {t : TableId} {k : MarkCtx}

theorem sendFrame_of_online (honline : (s.unit (tableUnit k.entry.table)).link = .online)
    (hout : (s.unit (tableUnit k.entry.table)).out = none) : s.sendFrame k = s.frameSent k :=
  handTo_of_free (UnitRec.takes_of_online honline _) hout

theorem quiet_frameSent (s : State) (k : MarkCtx) : Quiet s (s.frameSent k) := by
  rw [State.frameSent, quiet_modUnit]
  exact (quiet_line (t := s.setComposer { s.composer with
    state := .sending, ctx := some { k with timer := none, hand := s.line.nextHand } }) _).2
      ((quiet_setComposer _).2 (Quiet.refl s))

theorem frameSent_unit : ((s.frameSent k).unit (tableUnit k.entry.table)).out = some
    { cmd := { cmd := .markFrame (markFrameOf k.token k.str k.frame), sender := .composer, hand := s.line.nextHand },
      attempt := 1, inFlight := false } :=
  congrArg UnitRec.out (State.unit_modUnit_same (s.setComposer { s.composer with
    state := .sending, ctx := some { k with timer := none, hand := s.line.nextHand } }).countHand
      (tableUnit k.entry.table) _)

/-- What a frame handed to the marker head leaves of a state, the mark then standing at `k`. -/
def FrameLeft (s u : State) (t : TableId) (c k : MarkCtx) : Prop :=
  u.composer = { s.composer with state := .sending, ctx := some { k with timer := none, hand := s.line.nextHand } }
  ∧ (u.unit (tableUnit t)).out = some
      { cmd := { cmd := .markFrame (markFrameOf c.token c.str k.frame), sender := .composer, hand := s.line.nextHand },
        attempt := 1, inFlight := false }
  ∧ u.tables = s.tables ∧ u.host = s.host ∧ u.stock = s.stock ∧ u.moves = s.moves ∧ u.guards = s.guards
  ∧ u.flags = s.flags ∧ u.hall = s.hall

theorem frameLeft_of_sent {c : MarkCtx} (htoken : k.token = c.token) (hstr : k.str = c.str) :
    FrameLeft s (s.frameSent k) k.entry.table c k := by
  refine ⟨rfl, ?_, rfl, rfl, rfl, rfl, rfl, rfl, rfl⟩
  rw [frameSent_unit, htoken, hstr]

theorem settle_frameSent (hset : s.settled) : (s.frameSent k).settle = s.frameSent k := (quiet_frameSent s k).settle hset

theorem settled_closeWindow (hset : s.settled) : s.closeWindow.settled := (quiet_closeWindow.2 (Quiet.refl s)).settled hset

end Sent

/-- Whether the echo of the frame in hand keeps the match mark of a mark (R122). -/
def MarkCtx.matched (c : MarkCtx) (count : Nat) (chars : List Nat) : Bool :=
  c.sticky && decide (count = (frameChars c.str c.frame).length ∧ chars.take count = frameChars c.str c.frame)

theorem matched_eq (c : MarkCtx) (count : Nat) (chars : List Nat) :
    (c.sticky && echoMatches (frameChars c.str c.frame) count chars) = c.matched count chars := by
  rw [MarkCtx.matched, echoMatches, Bool.decide_and]

section Exchange

variable {s : State} {t : TableId} {c : MarkCtx}

/-- The echo of a frame that is not the last. -/
theorem takeEcho_of_next (hctx : s.composer.ctx = some c) (htable : c.entry.table = t)
    (hstate : s.composer.state = .sending ∨ s.composer.state = .echoWait) (count : Nat) (chars : List Nat)
    (hnext : c.frame + 1 < frameCount c.str) : s.takeEcho t c.token c.frame count chars = s.sendFrame { c with
      timer := none, sticky := c.matched count chars, frame := c.frame + 1, resend := 0 } := by
  rw [State.takeEcho, markAwaits_of_frame hctx htable hstate]
  dsimp only
  rw [if_pos hnext, matched_eq]

theorem takeReject_of_frame (hctx : s.composer.ctx = some c) (htable : c.entry.table = t)
    (hstate : s.composer.state = .sending ∨ s.composer.state = .echoWait) :
    s.takeReject t c.token c.frame = s.rejectFrame c := by
  rw [State.takeReject, markAwaits_of_frame hctx htable hstate]

theorem rejectFrame_of_first (hfirst : c.resend = 0) :
    s.rejectFrame c = s.sendFrame { c with timer := none, resend := 1, resends := c.resends + 1 } := if_pos hfirst

section Moves

variable {e : Nat} (hrun : s.hall.inReset = false) (hset : s.settled) (hctx : s.composer.ctx = some c)
  (htable : c.entry.table = t) (hwindow : s.line.window = some { unit := tableUnit t, kind := .offer, expiry := e })
include hrun hset hctx

/-- An echo or rejection of another token or frame is stray. -/
theorem mark_strays (hwindow : s.line.window = some { unit := tableUnit t, kind := .offer, expiry := e }) (count : Nat)
    (chars : List Nat) (token frame : Nat) (hother : token ≠ c.token ∨ frame ≠ c.frame) (i : Instr)
    (hi : i ∈ [Instr.frameEcho (t.val + 1) true token frame count chars, .frameReject (t.val + 1) true token frame]) :
    exec i s = .next (s.closeWindow.stray (tableUnit t)) := by
  have hnone : s.closeWindow.markAwaits t token frame = none := markAwaits_of_other (s := s.closeWindow) hctx hother
  have hstray := settle_strayReport hset (tableUnit t)
  simp only [List.mem_cons, List.not_mem_nil, or_false] at hi
  obtain rfl | rfl := hi
  · rw [exec_frameEcho_of_offer hrun hwindow, State.takeEcho, hnone]
    exact congrArg Host.Outcome.next hstray
  · rw [exec_frameReject_of_offer hrun hwindow, State.takeReject, hnone]
    exact congrArg Host.Outcome.next hstray

variable (honline : (s.unit (tableUnit t)).link = .online) (hout : (s.unit (tableUnit t)).out = none)
include htable honline hout

omit hrun hctx in
theorem settle_sendFrame {k : MarkCtx} (hk : k.entry = c.entry) :
    (s.closeWindow.sendFrame k).settle = s.closeWindow.frameSent k := by
  subst htable
  rw [sendFrame_of_online (s := s.closeWindow) (by rw [hk]; exact honline) (by rw [hk]; exact hout)]
  exact settle_frameSent (settled_closeWindow hset)

include hwindow in
/-- The echo of a frame that is not the last sends the next one. -/
theorem frameEcho_sends_next (count : Nat) (chars : List Nat)
    (hstate : s.composer.state = .sending ∨ s.composer.state = .echoWait) (hnext : c.frame + 1 < frameCount c.str) :
    ∃ u : State, exec (.frameEcho (t.val + 1) true c.token c.frame count chars) s = .next u
      ∧ FrameLeft s u t c { c with frame := c.frame + 1, resend := 0, sticky := c.matched count chars } := by
  refine ⟨_, (exec_frameEcho_of_offer hrun hwindow _ _ count chars).trans (congrArg Host.Outcome.next
    ((congrArg State.settle (takeEcho_of_next (s := s.closeWindow) hctx htable hstate count chars hnext)).trans
      (settle_sendFrame hset htable honline hout rfl))), ?_⟩
  subst htable
  exact frameLeft_of_sent (s := s.closeWindow) rfl rfl

include hwindow in
/-- The first rejection of a frame sends it again. -/
theorem frameReject_sends_again (hstate : s.composer.state = .sending ∨ s.composer.state = .echoWait) (hfirst : c.resend = 0) :
    ∃ u : State, exec (.frameReject (t.val + 1) true c.token c.frame) s = .next u
      ∧ FrameLeft s u t c { c with resend := 1, resends := c.resends + 1 } := by
  refine ⟨_, (exec_frameReject_of_offer hrun hwindow _ _).trans (congrArg Host.Outcome.next
    ((congrArg State.settle ((takeReject_of_frame (s := s.closeWindow) hctx htable hstate).trans (rejectFrame_of_first hfirst))).trans
      (settle_sendFrame hset htable honline hout rfl))), ?_⟩
  subst htable
  exact frameLeft_of_sent (s := s.closeWindow) rfl rfl

/-- So does the expiry of the echo timer. -/
theorem echoTimer_sends_again {x : Nat} (hstate : s.composer.state = .echoWait) (htimer : c.timer = some x) (hdue : x ≤ s.now)
    (hfirst : c.resend = 0) : ∃ u : State, exec .echoTimerExpiry s = .next u
      ∧ FrameLeft s u t c { c with resend := 1, resends := c.resends + 1 } := by
  subst htable
  exact ⟨_, (exec_echoTimerExpiry_of_due hrun hctx hstate htimer hdue).trans (congrArg Host.Outcome.next
    ((congrArg State.settle ((rejectFrame_of_first hfirst).trans (sendFrame_of_online honline hout))).trans
      (settle_frameSent hset))), frameLeft_of_sent rfl rfl⟩

end Moves

end Exchange

end Sys2Proof.Machine

/-! The end of a mark (R125 to R127): the result to the table, the composer IDLE, and the head of an empty queue. -/

namespace Sys2Proof.Machine

/-! ## A halt, and the report of it (R69, R211) -/

/-- A halt with a fault: the capture writes an empty record, and raises nothing where the record keeps what it holds. -/
theorem runHalt_outcome (s : State) (t : TableId) {cause : HaltCause} {cls : FaultClass} {code : FaultCode}
    (hcause : cause.fault = some (cls, code)) : ∃ f h, runHalt t cause s =
      { s.modTab t (fun r => { r with state := .halted, cause := some cause })
        with hall := { s.hall with fault := f }, host := h }
      ∧ (s.hall.fault.held = none → f.held = some
        { cls := cls, src := .table t, code := code, clock := s.hall.clock, index := (s.tab t).active.map Active.index })
      ∧ (∀ g, s.hall.fault.held = some g → cls.rank ≤ g.cls.rank → h = s.host.report
        (.tableState t .halted ((s.tab t).active.map Active.index) (some cause) ((s.tab t).active.bind Active.loaded))) := by
  let s1 : State := s.modTab t (fun r => { r with state := .halted, cause := some cause })
  have htab : s1.tab t = { s.tab t with state := .halted, cause := some cause } :=
    State.tab_modTab_same s t (fun r => { r with state := .halted, cause := some cause })
  have hreport : s1.tableReport t = .tableState t .halted ((s.tab t).active.map Active.index) (some cause)
      ((s.tab t).active.bind Active.loaded) := tableReport_of_tab htab
  have hindex : (((s1.raise (s1.tableReport t)).tab t).active.map Active.index) = (s.tab t).active.map Active.index := by
    rw [State.raise_tab, htab]
  obtain ⟨f, h, hcapture, hnone, hkept⟩ := capture_outcome (s1.raise (s1.tableReport t)) cls (.table t) code
    ((s.tab t).active.map Active.index)
  refine ⟨f, h, ?_, hnone, fun g hg hrank => (hkept g hg hrank).trans ?_⟩
  · unfold runHalt
    rw [hcause]
    dsimp only
    rw [hindex]
    exact hcapture
  · rw [hreport]
    rfl

/-! ## The result of a mark at its table (R78) -/

section Result

variable {s : State} {t : TableId} {o : MarkOutcome} {a : Active} {id x y : Nat} {onMis : OnMismark}
  (hstate : (s.tab t).state = .marking ∨ (s.tab t).state = .markWait) (ho : o ≠ .aborted)
  (hactive : (s.tab t).active = some a) (hstep : a.steps[a.index]? = some (.mark id x y onMis))
include hstate ho hactive hstep

theorem comesTo_markResult_end (hnone : markHalt o onMis = none) (ts : List Task) :
    (s.push (.markResult t o :: ts)).comesTo 1 (s.push (.stepEnd t :: ts)) := by
  refine comesTo_push _ ts ?_
  have hstep' : ((s.push ts).tab t).step = some (.mark id x y onMis) := (TableRec.step_of_active hactive).trans hstep
  show runMarkResult t o (s.push ts) = _
  rw [runMarkResult, if_pos ⟨hstate, ho⟩, hstep']
  dsimp only
  rw [hnone]
  rfl

theorem comesTo_markResult_halt {cause : HaltCause} (hsome : markHalt o onMis = some cause) (ts : List Task) :
    (s.push (.markResult t o :: ts)).comesTo 1 (s.push (.halt t cause :: ts)) := by
  refine comesTo_push _ ts ?_
  have hstep' : ((s.push ts).tab t).step = some (.mark id x y onMis) := (TableRec.step_of_active hactive).trans hstep
  show runMarkResult t o (s.push ts) = _
  rw [runMarkResult, if_pos ⟨hstate, ho⟩, hstep']
  dsimp only
  rw [hsome]
  rfl

end Result

/-- The composer takes no table from an empty queue. -/
theorem comesTo_serveHead_of_empty {s : State} (hqueue : s.composer.queue = []) (ts : List Task) :
    (s.push (.serveHead :: ts)).comesTo 1 (s.push ts) := by
  refine comesTo_push _ ts ?_
  have hqueue' : (s.push ts).composer.queue = [] := hqueue
  show runServeHead (s.push ts) = _
  rw [runServeHead, hqueue']
  split <;> rfl

/-- The close of a mark, with nobody left in the queue. -/
theorem comesTo_close {s : State} (hqueue : s.composer.queue = []) :
    (s.push [.markClose, .serveHead]).comesTo 2 (runMarkClose s) := by
  have hclose : (s.push [.markClose, .serveHead]).comesTo 1 ((runMarkClose s).push [.serveHead]) :=
    comesTo_push _ [.serveHead] rfl
  have hserve := comesTo_serveHead_of_empty (s := runMarkClose s) hqueue []
  rw [State.push_nil] at hserve
  exact hclose.trans hserve

section Ended

variable {s : State} {t : TableId} {o : MarkOutcome} {a : Active} {id x y : Nat} {onMis : OnMismark}
  (hwork : s.work = []) (hclean : s.stock.changed = false) (hqueue : s.composer.queue = [])
  (hstate : (s.tab t).state = .marking) (ho : o ≠ .aborted)
  (hactive : (s.tab t).active = some a) (hstep : a.steps[a.index]? = some (.mark id x y onMis))
include hwork hclean hqueue hstate ho hactive hstep

/-- A mark whose result ends the table's step, in front of a WAIT_FLAG step on a CLEAR flag. -/
theorem settle_markEnd_next (hnone : markHalt o onMis = none) {f : FlagId}
    (hnext : a.steps[a.index + 1]? = some (.waitFlag f.val)) (hclear : (s.flag f).value = false) :
    (s.push [.markResult t o, .markClose, .serveHead]).settle
      = ((runMarkClose s).midway f t { s.flag f with waiters := (s.flag f).waiters ++ [t] }
          { s.tab t with active := some { a with index := a.index + 1 }, state := .flagWait, cause := none } s.stock s.alloc
          (s.host.report (.tableState t .flagWait (some (a.index + 1)) none a.loaded))).followBeacons := by
  have hresult := comesTo_markResult_end (.inl hstate) ho hactive hstep hnone [.markClose, .serveHead]
  have hmid : s = s.midway f t (s.flag f) (s.tab t) s.stock s.alloc s.host := by
    rw [midway_of_tab, State.modTab_self]
    rfl
  have hended := midway_stepEnd (s := s) (f := f) (t := t) (q := s.flag f) (r := s.tab t) (stock := s.stock)
    (alloc := s.alloc) (host := s.host) hactive [.markClose, .serveHead]
  rw [← hmid] at hended
  have hwaits := midway_stepStart_enter (s := s) (f := f) (t := t) (q := s.flag f)
    (r := { s.tab t with active := some { a with index := a.index + 1 } }) (stock := s.stock) (alloc := s.alloc)
    (host := s.host) rfl hnext hclear (fun h => nomatch hstate.symm.trans h) [.markClose, .serveHead]
  have hclosed := comesTo_close (s := s.midway f t { s.flag f with waiters := (s.flag f).waiters ++ [t] }
    { s.tab t with active := some { a with index := a.index + 1 }, state := .flagWait, cause := none } s.stock s.alloc
    (s.host.report (.tableState t .flagWait (some (a.index + 1)) none a.loaded))) hqueue
  exact settle_of_comesTo_clean (((hresult.trans hended).trans hwaits).trans hclosed) (by decide) hwork hclean

/-- A mark whose result halts the table. -/
theorem settle_markEnd_halt {cause : HaltCause} (hsome : markHalt o onMis = some cause) {cls : FaultClass} {code : FaultCode}
    (hcause : cause.fault = some (cls, code)) : ∃ f h,
    (s.push [.markResult t o, .markClose, .serveHead]).settle
      = ({ (runMarkClose s).modTab t (fun r => { r with state := .halted, cause := some cause })
          with hall := { s.hall with fault := f }, host := h } : State).followBeacons
      ∧ (s.hall.fault.held = none → f.held = some
        { cls := cls, src := .table t, code := code, clock := s.hall.clock, index := some a.index })
      ∧ (∀ g, s.hall.fault.held = some g → cls.rank ≤ g.cls.rank → h = s.host.report
        (.tableState t .halted (some a.index) (some cause) a.loaded)) := by
  obtain ⟨f, h, hhalt, hnone, hkept⟩ := runHalt_outcome (s.push [.markClose, .serveHead]) t hcause
  have hactive' : ((s.push [.markClose, .serveHead]).tab t).active = some a := hactive
  rw [hactive'] at hnone hkept
  have hresult := comesTo_markResult_halt (.inl hstate) ho hactive hstep hsome [.markClose, .serveHead]
  let s2 : State := { s.modTab t (fun r => { r with state := .halted, cause := some cause })
    with hall := { s.hall with fault := f }, host := h }
  have hhalted : (s.push [.halt t cause, .markClose, .serveHead]).comesTo 1 (s2.push [.markClose, .serveHead]) :=
    comesTo_push _ [.markClose, .serveHead] hhalt
  have hclosed := comesTo_close (s := s2) hqueue
  exact ⟨f, h, settle_of_comesTo_clean ((hresult.trans hhalted).trans hclosed) (by decide) hwork hclean, hnone, hkept⟩

end Ended

end Sys2Proof.Machine

/-! Echoes and rejections that end a mark, and the service of the mark queue at the release of the hall stop (R119 to R127). -/

namespace Sys2Proof.Machine

/-! ## The end of a mark -/

/-- The mark records after a mark that ends with an outcome (R126). -/
def State.marksAfter (s : State) (c : MarkCtx) (o : MarkOutcome) : List MarkRec :=
  if o = .success ∧ c.used.isSome then
    s.composer.marks.map (fun m => if m.id = c.entry.id then m.increase else m)
  else s.composer.marks

/-- MARK_RESULT of a mark (R127). -/
def markReport (c : MarkCtx) (o : MarkOutcome) (marks : List MarkRec) : Report := .markResult
  { table := c.entry.table, id := c.entry.id, outcome := o, used := c.used,
    after := (marks.find? (fun m => m.id = c.entry.id)).bind MarkRec.serial, noHeat := c.noHeat, frames := frameCount c.str,
    frame := c.frame, resends := c.resends }

/-- The state in which the end of a mark has been reported. -/
def State.markReported (s : State) (c : MarkCtx) (o : MarkOutcome) : State :=
  { s with composer := { s.composer with marks := s.marksAfter c o }
           host := s.host.report (markReport c o (s.marksAfter c o)) }

theorem endMark_eq (s : State) (c : MarkCtx) (o : MarkOutcome) :
    s.endMark c o = (s.markReported c o).push [.markResult c.entry.table o, .markClose, .serveHead] := by
  rw [State.endMark, State.markReported, State.marksAfter]
  by_cases h : o = .success ∧ c.used.isSome
  · rw [if_pos h, if_pos h]
    rfl
  · rw [if_neg h, if_neg h]
    rfl

section MarkEnds

variable {s : State} {t : TableId} {c : MarkCtx} {a : Active} {id x y : Nat} {onMis : OnMismark} {o : MarkOutcome}

/-- What the end of a mark leaves of the blocks but the table's own part, the flags and the hall. -/
def MarkLeft (s u : State) (t : TableId) (marks : List MarkRec) : Prop :=
  ((∀ k, k ≠ t → u.tab k = s.tab k) ∧ u.stock = s.stock ∧ u.moves = s.moves
    ∧ u.guards = s.guards ∧ u.alloc = s.alloc ∧ u.line = s.line)
  ∧ u.composer = { s.composer with marks := marks, state := .idle, ctx := none }

/-- What the end of a mark raises: MARK_RESULT with the serial as it then stands. -/
theorem markReport_of_left {u : State} {marks : List MarkRec} (hleft : MarkLeft s u t marks) (htable : c.entry.table = t)
    (o : MarkOutcome) : markReport c o marks = .markResult
      { table := t, id := c.entry.id, outcome := o, used := c.used, after := (u.mark c.entry.id).bind MarkRec.serial,
        noHeat := c.noHeat, frames := frameCount c.str, frame := c.frame, resends := c.resends } := by
  rw [State.mark, hleft.2, ← htable]
  rfl

variable (hwork : s.work = []) (hclean : s.stock.changed = false) (hqueue : s.composer.queue = [])
  (htable : c.entry.table = t) (hstate : (s.tab t).state = .marking) (ho : o ≠ .aborted)
  (hactive : (s.tab t).active = some a) (hstep : a.steps[a.index]? = some (.mark id x y onMis))
include hwork hclean hqueue htable hstate ho hactive hstep

theorem settle_endMark_next (hnone : markHalt o onMis = none) {f : FlagId}
    (hnext : a.steps[a.index + 1]? = some (.waitFlag f.val)) (hclear : (s.flag f).value = false) :
    ∃ u, (s.endMark c o).settle = u ∧ MarkLeft s u t (s.marksAfter c o)
      ∧ u.tab t = { s.tab t with state := .flagWait, cause := none, active := some { a with index := a.index + 1 } }
      ∧ u.flag f = { s.flag f with waiters := (s.flag f).waiters ++ [t] } ∧ (∀ g, g ≠ f → u.flag g = s.flag g)
      ∧ u.host = (s.host.report (markReport c o (s.marksAfter c o))).report
          (.tableState t .flagWait (some (a.index + 1)) none a.loaded) := by
  have hend := settle_markEnd_next (s := s.markReported c o) hwork hclean hqueue hstate ho hactive hstep hnone hnext hclear
  let s1 : State := runMarkClose (s.markReported c o)
  let q : FlagRec := { s.flag f with waiters := (s.flag f).waiters ++ [t] }
  let r : TableRec := { s.tab t with active := some { a with index := a.index + 1 }, state := .flagWait, cause := none }
  let h : HostLine := (s.host.report (markReport c o (s.marksAfter c o))).report
    (.tableState t .flagWait (some (a.index + 1)) none a.loaded)
  obtain ⟨htabs, hflags, hguards, hmoves, hcomposer, hline, -, -⟩ := midway_framed (s := s1) (f := f) (t := t) (q := q) (r := r)
    (stock := s.stock) (alloc := s.alloc) (host := h) s.hall.fault
  rw [endMark_eq, htable, hend]
  exact ⟨_, rfl, ⟨⟨htabs, rfl, hmoves, hguards, rfl, hline⟩, hcomposer⟩, midway_tab s1 f t q r s.stock s.alloc h,
    midway_flag s1 f t q r s.stock s.alloc h, hflags, rfl⟩

theorem settle_endMark_halt {cause : HaltCause} (hsome : markHalt o onMis = some cause) {cls : FaultClass} {code : FaultCode}
    (hcause : cause.fault = some (cls, code)) :
    ∃ u, (s.endMark c o).settle = u ∧ MarkLeft s u t (s.marksAfter c o)
      ∧ u.tab t = { s.tab t with state := .halted, cause := some cause } ∧ u.flags = s.flags
      ∧ (s.hall.fault.held = none → u.hall.fault.held = some
        { cls := cls, src := .table t, code := code, clock := s.hall.clock, index := some a.index })
      ∧ (∀ g, s.hall.fault.held = some g → cls.rank ≤ g.cls.rank →
        u.host = (s.host.report (markReport c o (s.marksAfter c o))).report
          (.tableState t .halted (some a.index) (some cause) a.loaded)) := by
  obtain ⟨f, h, hend, hnone, hkept⟩ := settle_markEnd_halt (s := s.markReported c o) hwork hclean hqueue hstate ho hactive hstep
    hsome hcause
  rw [endMark_eq, htable, hend]
  exact ⟨_, rfl, ⟨⟨fun k hk => State.tab_modTab_of_ne (runMarkClose (s.markReported c o))
    (fun r => { r with state := .halted, cause := some cause }) hk, rfl, rfl, rfl, rfl, rfl⟩, rfl⟩,
    State.tab_modTab_same (runMarkClose (s.markReported c o)) t (fun r => { r with state := .halted, cause := some cause }),
    rfl, hnone, hkept⟩

end MarkEnds

/-! ## The frames that end a mark -/

section LastFrames

variable {s : State} {t : TableId} {c : MarkCtx}

/-- The outcome that the echo of the last frame gives a mark (R122). -/
def echoOutcome (ok : Bool) : MarkOutcome := if ok then .success else .mismarked

theorem takeEcho_of_last (hctx : s.composer.ctx = some c) (htable : c.entry.table = t)
    (hstate : s.composer.state = .sending ∨ s.composer.state = .echoWait) (count : Nat) (chars : List Nat)
    (hlast : frameCount c.str ≤ c.frame + 1) : s.takeEcho t c.token c.frame count chars
      = (s.setCtx { c with timer := none, sticky := c.matched count chars }).endMark
          { c with timer := none, sticky := c.matched count chars } (echoOutcome (c.matched count chars)) := by
  rw [State.takeEcho, markAwaits_of_frame hctx htable hstate]
  dsimp only
  rw [if_neg (Nat.not_lt.2 hlast), matched_eq]
  rfl

theorem rejectFrame_of_second (hsecond : c.resend ≠ 0) :
    s.rejectFrame c = (s.setCtx { c with timer := none }).endMark { c with timer := none } .fault := if_neg hsecond

theorem marksAfter_echo (s : State) (c : MarkCtx) (ok : Bool) : s.marksAfter c (echoOutcome ok)
    = if ok = true ∧ c.used ≠ none then
        s.composer.marks.map (fun m => if m.id = c.entry.id then m.increase else m)
      else s.composer.marks := by
  have h : (echoOutcome ok = .success ∧ c.used.isSome = true) ↔ (ok = true ∧ c.used ≠ none) := by
    rw [Option.isSome_iff_ne_none]
    cases ok <;> simp [echoOutcome]
  exact ite_congr (propext h) (fun _ => rfl) (fun _ => rfl)

theorem markHalt_of_goes {ok : Bool} {onMis : OnMismark} (h : ok = true ∨ onMis = .go) : markHalt (echoOutcome ok) onMis = none := by
  obtain rfl | rfl := h
  · rfl
  · cases ok <;> rfl

theorem echoOutcome_ne_aborted (ok : Bool) : echoOutcome ok ≠ .aborted := by cases ok <;> exact (fun h => nomatch h)

variable {a : Active} {id x y e : Nat} {onMis : OnMismark} (hrun : s.hall.inReset = false) (hset : s.settled)
  (hctx : s.composer.ctx = some c) (htable : c.entry.table = t) (hqueue : s.composer.queue = [])
  (hmarking : (s.tab t).state = .marking) (hactive : (s.tab t).active = some a)
  (hstep : a.steps[a.index]? = some (.mark id x y onMis))
include hrun hset hctx htable hqueue hmarking hactive hstep

section Echo

variable (hwindow : s.line.window = some { unit := tableUnit t, kind := .offer, expiry := e }) {count : Nat} {chars : List Nat}
  (hstate : s.composer.state = .sending ∨ s.composer.state = .echoWait) (hlast : frameCount c.str ≤ c.frame + 1)
include hwindow hstate hlast

/-- The echo of the last frame of a mark that ends its table's step. -/
theorem lastEcho_ends_step (hgoes : c.matched count chars = true ∨ onMis = .go) {f : FlagId}
    (hnext : a.steps[a.index + 1]? = some (.waitFlag f.val)) (hclear : (s.flag f).value = false) :
    ∃ u, exec (.frameEcho (t.val + 1) true c.token c.frame count chars) s = .next u
      ∧ MarkLeft s.closeWindow u t (s.marksAfter c (echoOutcome (c.matched count chars)))
      ∧ u.tab t = { s.tab t with state := .flagWait, cause := none, active := some { a with index := a.index + 1 } }
      ∧ u.flag f = { s.flag f with waiters := (s.flag f).waiters ++ [t] } ∧ (∀ g, g ≠ f → u.flag g = s.flag g)
      ∧ u.host = (s.host.report (markReport c (echoOutcome (c.matched count chars))
          (s.marksAfter c (echoOutcome (c.matched count chars))))).report
            (.tableState t .flagWait (some (a.index + 1)) none a.loaded) := by
  let k : MarkCtx := { c with timer := none, sticky := c.matched count chars }
  obtain ⟨u, hu, hleft, htab, hflag, hflags, hhost⟩ := settle_endMark_next (s := s.closeWindow.setCtx k) (c := k) hset.1 hset.2.1
    hqueue htable hmarking (echoOutcome_ne_aborted _) hactive hstep (markHalt_of_goes hgoes) hnext hclear
  exact ⟨u, (exec_frameEcho_of_offer hrun hwindow _ _ count chars).trans (congrArg Host.Outcome.next
    ((congrArg State.settle (takeEcho_of_last (s := s.closeWindow) hctx htable hstate count chars hlast)).trans hu)),
    hleft, htab, hflag, hflags, hhost⟩

/-- The echo of the last frame of a MISMARKED mark that halts its table. -/
theorem lastEcho_halts (hbad : c.matched count chars = false) (hhalt : onMis = .halt) :
    ∃ u, exec (.frameEcho (t.val + 1) true c.token c.frame count chars) s = .next u
      ∧ MarkLeft s.closeWindow u t (s.marksAfter c (echoOutcome (c.matched count chars)))
      ∧ u.tab t = { s.tab t with state := .halted, cause := some .mismark } ∧ u.flags = s.flags
      ∧ (s.hall.fault.held = none → u.hall.fault.held = some
        { cls := .note, src := .table t, code := .mismark, clock := s.hall.clock, index := some a.index })
      ∧ (s.hall.fault.held ≠ none → u.host = (s.host.report (markReport c .mismarked
          (s.marksAfter c (echoOutcome (c.matched count chars))))).report
            (.tableState t .halted (some a.index) (some .mismark) a.loaded)) := by
  let k : MarkCtx := { c with timer := none, sticky := c.matched count chars }
  have houtcome : echoOutcome (c.matched count chars) = .mismarked := by rw [hbad]; rfl
  obtain ⟨u, hu, hleft, htab, hflags, hnone, hkept⟩ := settle_endMark_halt (s := s.closeWindow.setCtx k) (c := k)
    (o := echoOutcome (c.matched count chars)) hset.1 hset.2.1 hqueue htable hmarking (echoOutcome_ne_aborted _) hactive hstep
    (cause := .mismark) (by rw [houtcome, hhalt]; rfl) rfl
  refine ⟨u, (exec_frameEcho_of_offer hrun hwindow _ _ count chars).trans (congrArg Host.Outcome.next
    ((congrArg State.settle (takeEcho_of_last (s := s.closeWindow) hctx htable hstate count chars hlast)).trans hu)),
    hleft, htab, hflags, hnone, fun hsome => ?_⟩
  obtain ⟨g, hg⟩ := Option.ne_none_iff_exists'.1 hsome
  have hhost := hkept g hg (by cases g.cls <;> decide)
  rw [houtcome] at hhost ⊢
  exact hhost

end Echo

omit hrun hctx in
/-- The second rejection of a frame ends the mark with FAULT, from a state whose window may be closed. -/
theorem settle_secondReject (hsecond : c.resend ≠ 0) :
    ∃ u, (s.rejectFrame c).settle = u ∧ MarkLeft s u t s.composer.marks
      ∧ u.tab t = { s.tab t with state := .halted, cause := some .markFault } ∧ u.flags = s.flags
      ∧ (s.hall.fault.held = none → u.hall.fault.held = some
        { cls := .unit, src := .table t, code := .markFault, clock := s.hall.clock, index := some a.index })
      ∧ (∀ g, s.hall.fault.held = some g → 2 ≤ g.cls.rank → u.host = (s.host.report (markReport c .fault s.composer.marks)).report
          (.tableState t .halted (some a.index) (some .markFault) a.loaded)) := by
  let k : MarkCtx := { c with timer := none }
  obtain ⟨u, hu, hleft, htab, hflags, hnone, hkept⟩ := settle_endMark_halt (s := s.setCtx k) (c := k) (o := .fault) hset.1
    hset.2.1 hqueue htable hmarking (fun h => nomatch h) hactive hstep (cause := .markFault) rfl rfl
  exact ⟨u, (congrArg State.settle (rejectFrame_of_second hsecond)).trans hu, hleft, htab, hflags, hnone, hkept⟩

end LastFrames

end Sys2Proof.Machine

/-! The release of the hall stop, the service of the mark queue, and the exchange of marks (O46; R115, R119, R120). -/

namespace Sys2Proof.Machine

section Released

variable {s : State} {ms : Nat}

/-- The state in which the release of the hall stop has been told. -/
def State.stopReleased (s : State) : State :=
  if s.hall.mode = .setup then { s with hall := { s.hall with stop := false } }
  else ({ s with hall := { s.hall with stop := false } } : State).raise (.hallMode s.hall.mode false .stopReleased s.hall.clock)

theorem stopReleased_frame (s : State) : ∃ h, s.stopReleased = { s with hall := { s.hall with stop := false }, host := h } := by
  unfold State.stopReleased
  split
  · exact ⟨s.host, rfl⟩
  · exact ⟨_, rfl⟩

theorem exec_hallStopReleased_of_asserted (hrun : s.hall.inReset = false) (hms : 10 ≤ ms) (hstop : s.hall.stop = true) :
    exec (.hallStopReleased ms) s = .next (s.stopReleased.push [.serveHead]).settle := by
  rw [exec_hallStopReleased, execHallStopReleased, handled_of_running _ s hrun, if_neg (by simp [hstop, hms])]
  rfl

end Released

section Serve

variable {s : State} {e : MarkEntry} {rest : List MarkEntry} {m : MarkRec}

theorem enter_setComposer (s : State) (c : Composer) (t : TableId) (st : TableState) :
    (s.setComposer c).enter t st = (s.enter t st).setComposer c := by
  by_cases h : (s.tab t).state = st
  · rw [enter_of_same h, enter_of_same (s := s.setComposer c) h]
    rfl
  · rw [enter_of_other h, enter_of_other (s := s.setComposer c) h]
    rfl

theorem loadedHeat_enter (s : State) (t : TableId) (st : TableState) : (s.enter t st).loadedHeat t = s.loadedHeat t := by
  obtain ⟨h, henter⟩ := enter_frame s t st
  have htab : ((s.enter t st).tab t).active = (s.tab t).active := by
    rw [henter]
    exact (congrArg TableRec.active (State.tab_modTab_same s t (fun r => { r with state := st, cause := none }))).trans rfl
  rw [State.loadedHeat, htab, henter]
  rfl

/-- The context of a mark whose service starts (R115, R120). -/
def State.startingCtx (s : State) (e : MarkEntry) (m : MarkRec) : MarkCtx :=
  { entry := e, token := (s.composer.token + 1).toNat, str := composedString m (s.loadedHeat e.table), frame := 0, resend := 0,
    sticky := true, used := m.serial, noHeat := m.heat && (s.loadedHeat e.table).isNone, timer := none,
    hand := s.line.nextHand, resends := 0 }

/-- The state in which the composer has taken a table whose record is READY. -/
def State.started (s : State) (e : MarkEntry) (rest : List MarkEntry) (m : MarkRec) : State :=
  ((s.enter e.table .marking).setComposer { s.composer with
    state := .starting, token := s.composer.token + 1, queue := rest, ctx := some (s.startingCtx e m) }).countHand.modUnit
      (tableUnit e.table) (fun r => { r with
        out := some { cmd := { cmd := .markStart (s.startingCtx e m).token e.x e.y (s.startingCtx e m).str.length,
                               sender := .composer, hand := s.line.nextHand }, attempt := 1, inFlight := false } })

theorem runServeHead_of_ready (hidle : s.composer.state = .idle) (hstop : s.hall.stop = false)
    (hqueue : s.composer.queue = e :: rest) (hmark : s.mark e.id = some m) (hready : m.spent = false)
    (honline : (s.unit (tableUnit e.table)).link = .online) (hout : (s.unit (tableUnit e.table)).out = none) :
    runServeHead s = s.started e rest m := by
  have hmark' : (s.setComposer { s.composer with queue := rest }).mark e.id = some m := hmark
  rw [runServeHead, if_neg (by simp [hidle, hstop]), hqueue]
  dsimp only
  rw [hmark']
  dsimp only
  rw [hready, if_neg Bool.false_ne_true, enter_setComposer]
  have hheat : ((s.enter e.table .marking).setComposer { s.composer with queue := rest }).loadedHeat e.table
      = s.loadedHeat e.table := loadedHeat_enter s e.table .marking
  rw [hheat, State.started]
  obtain ⟨h, henter⟩ := enter_frame s e.table .marking
  rw [henter]
  exact handTo_of_free (s := ((s.modTab e.table (fun r => { r with state := .marking, cause := none })).setHost h).setComposer
    { s.composer with
      state := .starting, token := s.composer.token + 1, queue := rest, ctx := some (s.startingCtx e m) })
    (UnitRec.takes_of_online honline _) hout

theorem composedString_eq (m : MarkRec) (heat : Option (List Nat)) : composedString m heat = m.text ++ (match m.serial with
    | some ds => 36 :: ds
    | none => []) ++ (match m.heat, heat with
    | true, some h => 37 :: h
    | _, _ => []) := by
  rw [composedString.eq_def]
  cases m.heat with
  | false => rfl
  | true => cases heat <;> rfl

theorem started_frame (s : State) (e : MarkEntry) (rest : List MarkEntry) (m : MarkRec) : ∃ h, s.started e rest m =
    (((s.modTab e.table (fun r => { r with state := .marking, cause := none })).setHost h).setComposer { s.composer with
      state := .starting, token := s.composer.token + 1, queue := rest, ctx := some (s.startingCtx e m) }).countHand.modUnit
      (tableUnit e.table) (fun r => { r with
        out := some { cmd := { cmd := .markStart (s.startingCtx e m).token e.x e.y (s.startingCtx e m).str.length,
                               sender := .composer, hand := s.line.nextHand }, attempt := 1, inFlight := false } }) := by
  obtain ⟨h, henter⟩ := enter_frame s e.table .marking
  exact ⟨h, by rw [State.started, henter]⟩

theorem started_unit : ((s.started e rest m).unit (tableUnit e.table)).out = some
    { cmd := { cmd := .markStart (s.startingCtx e m).token e.x e.y (s.startingCtx e m).str.length, sender := .composer,
               hand := s.line.nextHand }, attempt := 1, inFlight := false } :=
  congrArg UnitRec.out (State.unit_modUnit_same ((s.enter e.table .marking).setComposer { s.composer with
    state := .starting, token := s.composer.token + 1, queue := rest, ctx := some (s.startingCtx e m) }).countHand
      (tableUnit e.table) _)

/-- The head of the queue is turned away where its record is undefined or SPENT, with the outcome and the serial that
MARK_RESULT then carries. -/
theorem runServeHead_of_unready (hidle : s.composer.state = .idle) (hstop : s.hall.stop = false)
    (hqueue : s.composer.queue = e :: rest) {o : MarkOutcome}
    (ho : (s.mark e.id = none ∧ o = .undefined) ∨ ∃ m, s.mark e.id = some m ∧ m.spent = true ∧ o = .spent) :
    ∃ h, runServeHead s = ((s.setComposer { s.composer with queue := rest }).setHost h).push
      [.markResult e.table o, .serveHead] := by
  rw [runServeHead, if_neg (by simp [hidle, hstop]), hqueue]
  dsimp only
  obtain ⟨hnone, rfl⟩ | ⟨m, hsome, hspent, rfl⟩ := ho
  · rw [show (s.setComposer { s.composer with queue := rest }).mark e.id = none from hnone]
    exact ⟨_, rfl⟩
  · rw [show (s.setComposer { s.composer with queue := rest }).mark e.id = some m from hsome]
    dsimp only
    rw [if_pos hspent]
    exact ⟨_, rfl⟩

/-- The table of a head that is turned away halts, with nobody left in the queue. -/
theorem settle_serveHead_unready (hwork : s.work = []) (hclean : s.stock.changed = false) (hidle : s.composer.state = .idle)
    (hstop : s.hall.stop = false) (hqueue : s.composer.queue = [e]) {o : MarkOutcome}
    (ho : (s.mark e.id = none ∧ o = .undefined) ∨ ∃ m, s.mark e.id = some m ∧ m.spent = true ∧ o = .spent)
    {a : Active} {id x y : Nat} {onMis : OnMismark} (hwait : (s.tab e.table).state = .markWait)
    (hactive : (s.tab e.table).active = some a) (hstep : a.steps[a.index]? = some (.mark id x y onMis)) {cause : HaltCause}
    (hcause : markHalt o onMis = some cause) (hnot : o ≠ .aborted) : ∃ fault h, (s.push [.serveHead]).settle =
      ({ (s.setComposer { s.composer with queue := [] }).modTab e.table
          (fun r => { r with state := .halted, cause := some cause })
        with hall := { s.hall with fault := fault }, host := h } : State).followBeacons := by
  obtain ⟨h, hserve⟩ := runServeHead_of_unready hidle hstop hqueue ho
  let s1 : State := (s.setComposer { s.composer with queue := [] }).setHost h
  have hserved : (s.push [.serveHead]).comesTo 1 (s1.push [.markResult e.table o, .serveHead]) := comesTo_push _ [] hserve
  have hresult := comesTo_markResult_halt (s := s1) (.inr hwait) hnot hactive hstep hcause [.serveHead]
  obtain ⟨fault, host, hhalt⟩ := runHalt_frame (s1.push [.serveHead]) e.table cause
  let s2 : State := { s1.modTab e.table (fun r => { r with state := .halted, cause := some cause })
    with hall := { s.hall with fault := fault }, host := host }
  have hhalted : (s1.push [.halt e.table cause, .serveHead]).comesTo 1 (s2.push [.serveHead]) :=
    comesTo_push _ [.serveHead] hhalt
  have hempty := comesTo_serveHead_of_empty (s := s2) rfl []
  rw [State.push_nil] at hempty
  exact ⟨fault, host, settle_of_comesTo_clean (((hserved.trans hresult).trans hhalted).trans hempty) (by decide) hwork hclean⟩

end Serve

section AtRelease

variable {s : State} {t : TableId} {ms id x y : Nat} {onMis : OnMismark} {rest : List MarkEntry} (hrun : s.hall.inReset = false)
  (hset : s.settled) (hms : 10 ≤ ms) (hstop : s.hall.stop = true) (hidle : s.composer.state = .idle)
  (hqueue : s.composer.queue = { table := t, id := id, x := x, y := y, onMis := onMis } :: rest)
include hrun hset hms hstop hidle hqueue

/-- The release of the hall stop starts the mark of the head of the queue. -/
theorem release_starts_mark {m : MarkRec} (hmark : s.mark id = some m) (hready : m.spent = false)
    (honline : (s.unit (tableUnit t)).link = .online) (hout : (s.unit (tableUnit t)).out = none) :
    ∃ u : State, exec (.hallStopReleased ms) s = .next u
      ∧ u.composer = { s.composer with
          state := .starting, token := s.composer.token + 1, queue := rest
          ctx := some (s.startingCtx { table := t, id := id, x := x, y := y, onMis := onMis } m) }
      ∧ u.tab t = { s.tab t with state := .marking, cause := none }
      ∧ (∀ k, k ≠ t → u.tab k = s.tab k)
      ∧ (u.unit (tableUnit t)).out = some
          { cmd := { cmd := .markStart (s.composer.token + 1).toNat x y (composedString m (s.loadedHeat t)).length,
                     sender := .composer, hand := s.line.nextHand }, attempt := 1, inFlight := false }
      ∧ u.stock = s.stock ∧ u.moves = s.moves ∧ u.guards = s.guards ∧ u.flags = s.flags ∧ u.alloc = s.alloc := by
  let e : MarkEntry := { table := t, id := id, x := x, y := y, onMis := onMis }
  obtain ⟨h, hframe⟩ := stopReleased_frame s
  let s1 : State := { s with hall := { s.hall with stop := false }, host := h }
  have hserve : (s1.push [.serveHead]).comesTo 1 (s1.started e rest m) :=
    comesTo_push _ [] (runServeHead_of_ready (s := s1) hidle rfl hqueue hmark hready honline hout)
  obtain ⟨h', hstarted⟩ := started_frame s1 e rest m
  have hunit := started_unit (s := s1) (e := e) (rest := rest) (m := m)
  rw [hstarted] at hserve hunit
  have hend := settle_of_comesTo_clean hserve (by decide) hset.1 hset.2.1
  have hexec := exec_hallStopReleased_of_asserted hrun hms hstop
  rw [hframe] at hexec
  refine ⟨_, hexec.trans (congrArg Host.Outcome.next hend), rfl, ?_, fun k hk => ?_, ?_, rfl, rfl, rfl, rfl, rfl⟩
  · exact State.tab_modTab_same s1 t (fun r => { r with state := .marking, cause := none })
  · exact State.tab_modTab_of_ne s1 (fun r => { r with state := .marking, cause := none }) hk
  · exact hunit

/-- A head whose record is undefined or SPENT halts its table at the release, with nobody left in the queue. -/
theorem release_halts_head (hlast : rest = []) (hwait : (s.tab t).state = .markWait) {a : Active} {cause : HaltCause}
    (hactive : (s.tab t).active = some a) (hstep : a.steps[a.index]? = some (.mark id x y onMis))
    (hunready : (s.mark id = none ∧ cause = .markUndefined) ∨ ∃ m, s.mark id = some m ∧ m.spent = true ∧ cause = .serialSpent) :
    ∃ u : State, exec (.hallStopReleased ms) s = .next u ∧ u.composer = { s.composer with queue := [] }
      ∧ u.tab t = { s.tab t with state := .halted, cause := some cause } ∧ (∀ k, k ≠ t → u.tab k = s.tab k)
      ∧ u.stock = s.stock ∧ u.moves = s.moves ∧ u.guards = s.guards ∧ u.flags = s.flags ∧ u.line = s.line := by
  subst hlast
  obtain ⟨h, hframe⟩ := stopReleased_frame s
  let s1 : State := { s with hall := { s.hall with stop := false }, host := h }
  have hout : ∃ o, markHalt o onMis = some cause ∧ o ≠ .aborted ∧
      ((s1.mark id = none ∧ o = .undefined) ∨ ∃ m, s1.mark id = some m ∧ m.spent = true ∧ o = .spent) := by
    obtain ⟨hnone, rfl⟩ | ⟨m, hsome, hspent, rfl⟩ := hunready
    · exact ⟨.undefined, rfl, (fun h => nomatch h), .inl ⟨hnone, rfl⟩⟩
    · exact ⟨.spent, rfl, (fun h => nomatch h), .inr ⟨m, hsome, hspent, rfl⟩⟩
  obtain ⟨o, hcause, hnot, ho⟩ := hout
  obtain ⟨fault, host, hend⟩ := settle_serveHead_unready (s := s1) hset.1 hset.2.1 hidle rfl hqueue ho hwait hactive hstep hcause
    hnot
  have hexec := exec_hallStopReleased_of_asserted hrun hms hstop
  rw [hframe] at hexec
  exact ⟨_, hexec.trans (congrArg Host.Outcome.next hend), rfl,
    State.tab_modTab_same (s1.setComposer { s1.composer with queue := [] }) t
      (fun r => { r with state := .halted, cause := some cause }),
    fun k hk => State.tab_modTab_of_ne (s1.setComposer { s1.composer with queue := [] })
      (fun r => { r with state := .halted, cause := some cause }) hk, rfl, rfl, rfl, rfl, rfl⟩

end AtRelease

/-- What the end of a mark by a frame in the window of its table's unit leaves, as O46 lists it. -/
theorem markLeft_of_window {s u : State} {t : TableId} {marks : List MarkRec} (h : MarkLeft s.closeWindow u t marks) :
    ((∀ k, k ≠ t → u.tab k = s.tab k) ∧ u.stock = s.stock ∧ u.moves = s.moves ∧ u.guards = s.guards ∧ u.alloc = s.alloc
      ∧ u.line = { s.line with window := u.line.window })
    ∧ u.composer = { s.composer with marks := marks, state := .idle, ctx := none } ∧ u.line.window = none := by
  obtain ⟨⟨htabs, hstock, hmoves, hguards, halloc, hline⟩, hcomposer⟩ := h
  refine ⟨⟨htabs, hstock, hmoves, hguards, halloc, ?_⟩, hcomposer, ?_⟩
  · rw [hline]
    rfl
  · rw [hline]
    rfl

/-- The end of a mark by the echo timer, whatever window is open. -/
theorem markLeft_of_timer {s u : State} {t : TableId} {marks : List MarkRec} (h : MarkLeft s u t marks) :
    ((∀ k, k ≠ t → u.tab k = s.tab k) ∧ u.stock = s.stock ∧ u.moves = s.moves ∧ u.guards = s.guards ∧ u.alloc = s.alloc
      ∧ u.line = { s.line with window := u.line.window })
    ∧ u.composer = { s.composer with marks := marks, state := .idle, ctx := none } := by
  obtain ⟨⟨htabs, hstock, hmoves, hguards, halloc, hline⟩, hcomposer⟩ := h
  refine ⟨⟨htabs, hstock, hmoves, hguards, halloc, ?_⟩, hcomposer⟩
  rw [hline]

/-- Settles O46: frames and serials, the exchange, its end, and the service of the queue. -/
theorem marksAreExchanged : Obligations.MarksAreExchanged := by
  refine ⟨framesAndSerials, fun s t c e hrun hset hctx htable honline hout => ?_, fun s t hrun hset =>
    ⟨fun c a id x y e onMis hctx htable hqueue hmarking hactive hstep => ?_,
      fun ms id x y onMis rest hms hstop hidle hqueue hwait => ?_⟩⟩
  · intro sent
    exact ⟨fun hwindow count chars => ⟨frameEcho_sends_next hrun hset hctx htable hwindow honline hout count chars,
      frameReject_sends_again hrun hset hctx htable hwindow honline hout,
      fun token frame hother i hi => mark_strays hrun hset hctx hwindow count chars token frame hother i hi⟩,
      fun x hstate htimer hdue hfirst => echoTimer_sends_again hrun hset hctx htable honline hout hstate htimer hdue hfirst⟩
  · intro window frame result idle
    refine ⟨fun count chars hwindow hstate hlast => ?_, fun i hsecond hi => ?_⟩
    · intro ok marks
      have hmarks : s.marksAfter c (echoOutcome (c.matched count chars)) = marks := marksAfter_echo s c ok
      refine ⟨fun hgoes f hnext hclear => ?_, fun hbad hhalt => ?_⟩
      · obtain ⟨u, hexec, hleft, htab, hflag, hflags, hhost⟩ := lastEcho_ends_step hrun hset hctx htable hqueue hmarking hactive
          hstep hwindow hstate hlast hgoes hnext hclear
        have hreport := markReport_of_left (c := c) hleft htable (echoOutcome (c.matched count chars))
        obtain ⟨hframe, hcomposer, hclosed⟩ := markLeft_of_window hleft
        refine ⟨u, hexec, hframe, hcomposer.trans ?_, htab, hflag, hflags, hhost.trans ?_, hclosed⟩
        · rw [hmarks]
        · exact congrArg (fun r => (s.host.report r).report (.tableState t .flagWait (some (a.index + 1)) none a.loaded)) hreport
      · obtain ⟨u, hexec, hleft, htab, hflags, hnone, hhost⟩ := lastEcho_halts hrun hset hctx htable hqueue hmarking hactive
          hstep hwindow hstate hlast hbad hhalt
        have hreport := markReport_of_left (c := c) hleft htable .mismarked
        obtain ⟨hframe, hcomposer, hclosed⟩ := markLeft_of_window hleft
        refine ⟨u, hexec, hframe, hcomposer.trans ?_, htab, hflags, hnone, fun hsome => (hhost hsome).trans ?_, hclosed⟩
        · rw [hmarks]
        · exact congrArg (fun r => (s.host.report r).report (.tableState t .halted (some a.index) (some .mismark) a.loaded)) hreport
    · obtain ⟨rfl, hwindow, hstate⟩ | ⟨rfl, hstate, n, htimer, hdue⟩ := hi
      · obtain ⟨u, hu, hleft, htab, hflags, hnone, hhost⟩ := settle_secondReject (s := s.closeWindow) (settled_closeWindow hset)
          htable hqueue hmarking hactive hstep hsecond
        have hreport := markReport_of_left (c := c) hleft htable .fault
        obtain ⟨hframe, hcomposer, -⟩ := markLeft_of_window hleft
        exact ⟨u, (exec_frameReject_of_offer hrun hwindow _ _).trans (congrArg Host.Outcome.next
          ((congrArg State.settle (takeReject_of_frame (s := s.closeWindow) hctx htable hstate)).trans hu)), hframe, hcomposer,
          htab, hflags, hnone, fun g hg hrank => (hhost g hg hrank).trans (congrArg (fun r => (s.host.report r).report
            (.tableState t .halted (some a.index) (some .markFault) a.loaded)) hreport)⟩
      · obtain ⟨u, hu, hleft, htab, hflags, hnone, hhost⟩ := settle_secondReject hset htable hqueue hmarking hactive hstep hsecond
        have hreport := markReport_of_left (c := c) hleft htable .fault
        obtain ⟨hframe, hcomposer⟩ := markLeft_of_timer hleft
        exact ⟨u, (exec_echoTimerExpiry_of_due hrun hctx hstate htimer hdue).trans (congrArg Host.Outcome.next hu), hframe,
          hcomposer, htab, hflags, hnone, fun g hg hrank => (hhost g hg hrank).trans (congrArg (fun r => (s.host.report r).report
            (.tableState t .halted (some a.index) (some .markFault) a.loaded)) hreport)⟩
  · refine ⟨fun m hmark hready honline hout => ?_, fun cause a hlast hactive hstep hunready =>
      release_halts_head hrun hset hms hstop hidle hqueue hlast hwait hactive hstep hunready⟩
    intro heat token str
    have hstr : composedString m (s.loadedHeat t) = str := composedString_eq m (s.loadedHeat t)
    have hstart := release_starts_mark hrun hset hms hstop hidle hqueue hmark hready honline hout
    rw [State.startingCtx, hstr] at hstart
    exact hstart

end Sys2Proof.Machine

/-! The frames of the requests, read back (O5; 12.6, Tables 12-5 and 12-7 to 12-10). -/

namespace Sys2Proof.Machine

/-! ## Numbers in bytes -/

theorem toNat_byteOf_of_fits {n : Nat} (h : fits1 n = true) : (byteOf n).toNat = n := by
  rw [byteOf_toNat, Nat.mod_eq_of_lt (of_decide_eq_true h)]

theorem num2_of_fits {n : Nat} (h : fits2 n = true) : num2 (byteOf (n / 256)) (byteOf n) = n :=
  num2_bytes (of_decide_eq_true h)

theorem map_toNat_byteOf {l : List Nat} (h : l.all fits1 = true) : (l.map byteOf).map BitVec.toNat = l := by
  rw [List.map_map]
  exact (List.map_congr_left fun n hn => toNat_byteOf_of_fits (List.all_eq_true.1 h n hn)).trans (List.map_id l)

/-! ## Shapes of bodies -/

section Shapes

variable {a b c d : Nat} (ha : fits1 a = true) (hb : fits1 b = true) (hc : fits1 c = true) (hd : fits1 d = true)
include ha

theorem body1_bytes (f : Nat → Instr) : body1 f [byteOf a] = some (f a) := by
  rw [body1, toNat_byteOf_of_fits ha]

include hb in
theorem body2_bytes (f : Nat → Nat → Instr) : body2 f [byteOf a, byteOf b] = some (f a b) := by
  rw [body2, toNat_byteOf_of_fits ha, toNat_byteOf_of_fits hb]

include hb hc hd in
theorem body4_bytes (f : Nat → Nat → Nat → Nat → Instr) :
    body4 f [byteOf a, byteOf b, byteOf c, byteOf d] = some (f a b c d) := by
  rw [body4, toNat_byteOf_of_fits ha, toNat_byteOf_of_fits hb, toNat_byteOf_of_fits hc, toNat_byteOf_of_fits hd]

end Shapes

theorem bodyId_bytes {id : Nat} (h : fits2 id = true) (f : Nat → Instr) : bodyId f (bytes2 id) = some (f id) := by
  rw [bytes2, bodyId, num2_of_fits h]

/-! ## Presence bits -/

theorem presenceOf_lt (ps : List (Option Nat)) : presenceOf ps < 2 ^ ps.length := by
  induction ps with
  | nil => exact Nat.one_pos
  | cons p ps ih =>
    rw [presenceOf, List.length_cons, Nat.pow_succ]
    split <;> omega

/-- Bit `i` says whether parameter `i` is present. -/
theorem presenceOf_bit {ps : List (Option Nat)} {i : Nat} {p : Option Nat} (h : ps[i]? = some p) :
    presenceOf ps / 2 ^ i % 2 = if p.isSome then 1 else 0 := by
  induction ps generalizing i with
  | nil => cases h
  | cons q ps ih =>
    rw [presenceOf]
    cases i with
    | zero =>
      obtain rfl : q = p := Option.some.inj h
      split <;> omega
    | succ i =>
      rw [Nat.pow_succ', ← Nat.div_div_eq_div_mul, ← ih h]
      congr 2
      split <;> omega

theorem present_of_param {ps : List (Option Nat)} {i : Nat} {p : Option Nat} (hlen : ps.length ≤ 8) (h : ps[i]? = some p)
    (hfits : optFits p = true) :
    present (byteOf (presenceOf ps)).toNat i (byteOf (p.getD 0 / 256)) (byteOf (p.getD 0)) = p := by
  have hlt : presenceOf ps < 256 := Nat.lt_of_lt_of_le (presenceOf_lt ps) (Nat.pow_le_pow_right (by decide) hlen)
  rw [present, byteOf_toNat, Nat.mod_eq_of_lt hlt, presenceOf_bit h]
  cases p with
  | none => rfl
  | some v => exact congrArg some (num2_of_fits hfits)

/-! ## Bodies of many fields -/

theorem halves_joinHalves : ∀ l : List Nat, l.length % 2 = 0 → l.all fitsHalf = true → halves (joinHalves l) = l
  | [], _, _ => rfl
  | [_], h, _ => nomatch h
  | a :: b :: rest, h, hall => by
    simp only [List.all_cons, Bool.and_eq_true] at hall
    obtain ⟨ha, hb, hrest⟩ := hall
    have ha' : a < 16 := of_decide_eq_true ha
    have hb' : b < 16 := of_decide_eq_true hb
    have hbyte : (byteOf (a * 16 + b)).toNat = a * 16 + b := by rw [byteOf_toNat]; omega
    rw [joinHalves, halves, hbyte, halves_joinHalves rest (by simp only [List.length_cons] at h; omega) hrest]
    congr
    · omega
    · omega

theorem pairsOf_bytes : ∀ es : List (Nat × Nat), es.all (fun e => fits1 e.1 && fits1 e.2) = true →
    pairsOf (es.flatMap (fun e => [byteOf e.1, byteOf e.2])) = es
  | [], _ => rfl
  | e :: es, h => by
    simp only [List.all_cons, Bool.and_eq_true] at h
    obtain ⟨⟨h1, h2⟩, hes⟩ := h
    show ((byteOf e.1).toNat, (byteOf e.2).toNat) :: pairsOf (es.flatMap (fun e => [byteOf e.1, byteOf e.2])) = _
    rw [pairsOf_bytes es hes, toNat_byteOf_of_fits h1, toNat_byteOf_of_fits h2]

theorem length_pairs (es : List (Nat × Nat)) : (es.flatMap (fun e => [byteOf e.1, byteOf e.2])).length = 2 * es.length := by
  induction es with
  | nil => rfl
  | cons e es ih => rw [List.flatMap_cons, List.length_append, ih, List.length_cons]; simp only [List.length_cons, List.length_nil]; omega

theorem stockBody_bytes {b : StockBody} (h : b.wf = true) : stockBody (bytes2 b.id ++ [byteOf b.kind, byteOf b.grade]
    ++ bytes2 b.thick ++ bytes2 b.len ++ bytes2 b.wid ++ [byteOf b.presence] ++ joinHalves b.heat ++ bytes2 b.parent
    ++ [byteOf b.gen, byteOf b.zone, byteOf b.slot]) = some (.stockRegister b) := by
  simp only [StockBody.wf, Bool.and_eq_true, decide_eq_true_eq] at h
  obtain ⟨⟨⟨⟨⟨⟨⟨⟨⟨⟨⟨⟨hid, hkind⟩, hgrade⟩, hthick⟩, hlen⟩, hwid⟩, hpresence⟩, height⟩, hheat⟩, hparent⟩, hgen⟩, hzone⟩, hslot⟩ := h
  have hjoin := halves_joinHalves b.heat (by rw [height]) hheat
  obtain ⟨a0, a1, a2, a3, a4, a5, a6, a7, heq⟩ : ∃ a0 a1 a2 a3 a4 a5 a6 a7, b.heat = [a0, a1, a2, a3, a4, a5, a6, a7] := by
    match hb : b.heat, height with
    | [a0, a1, a2, a3, a4, a5, a6, a7], _ => exact ⟨a0, a1, a2, a3, a4, a5, a6, a7, rfl⟩
  have hbytes : joinHalves b.heat = [byteOf (a0 * 16 + a1), byteOf (a2 * 16 + a3), byteOf (a4 * 16 + a5), byteOf (a6 * 16 + a7)] := by
    rw [heq]; rfl
  rw [hbytes] at hjoin ⊢
  simp only [bytes2, List.cons_append, List.nil_append, stockBody, num2_of_fits, toNat_byteOf_of_fits, hid, hkind, hgrade, hthick,
    hlen, hwid, hpresence, hparent, hgen, hzone, hslot]
  rw [hjoin]

theorem probeBody_bytes {r : ReqFields} (h : r.wf = true) : probeBody ([byteOf r.grade] ++ bytes2 r.thick ++ bytes2 r.len
    ++ bytes2 r.wid ++ [byteOf r.pref]) = some (.allocProbe r) := by
  simp only [ReqFields.wf, Bool.and_eq_true] at h
  obtain ⟨⟨⟨⟨hgrade, hthick⟩, hlen⟩, hwid⟩, hpref⟩ := h
  simp only [bytes2, List.cons_append, List.nil_append, probeBody, num2_of_fits, toNat_byteOf_of_fits, hgrade, hthick, hlen,
    hwid, hpref]

theorem stepsBody_bytes {t f c : Nat} {data : List Byte} (ht : fits1 t = true) (hf : fits1 f = true) (hc : fits1 c = true)
    (hdata : data.length = 10 * c) :
    stepsBody ([byteOf t, byteOf f, byteOf c] ++ data) = some (.progSteps t f c data) := by
  simp only [List.cons_append, List.nil_append, stepsBody, toNat_byteOf_of_fits, ht, hf, hc]
  exact if_pos hdata

theorem tableBody_bytes {t : Nat} {p : TableParams} (ht : fits1 t = true) (h : p.wf = true) : tableBody
    ([byteOf t, byteOf (presenceOf [p.kerf, p.trim, p.minLen, p.minArea, p.settle, p.contourLimit, p.wearLimit])]
      ++ paramBytes p.kerf ++ paramBytes p.trim ++ paramBytes p.minLen ++ paramBytes p.minArea
      ++ paramBytes p.settle ++ paramBytes p.contourLimit ++ paramBytes p.wearLimit) = some (.tableConfig t p) := by
  simp only [TableParams.wf, Bool.and_eq_true] at h
  obtain ⟨⟨⟨⟨⟨⟨hkerf, htrim⟩, hminLen⟩, hminArea⟩, hsettle⟩, hcontour⟩, hwear⟩ := h
  simp only [paramBytes, bytes2, List.cons_append, List.nil_append, tableBody, toNat_byteOf_of_fits ht]
  rw [present_of_param (by simp) rfl hkerf, present_of_param (by simp) rfl htrim, present_of_param (by simp) rfl hminLen,
    present_of_param (by simp) rfl hminArea, present_of_param (by simp) rfl hsettle, present_of_param (by simp) rfl hcontour,
    present_of_param (by simp) rfl hwear]

theorem craneBody_bytes {c : Nat} {p : CraneParams} (hc : fits1 c = true) (h : p.wf = true) : craneBody
    ([byteOf c, byteOf (presenceOf [p.base, p.perZone, p.handling])] ++ paramBytes p.base ++ paramBytes p.perZone
      ++ paramBytes p.handling) = some (.craneConfig c p) := by
  simp only [CraneParams.wf, Bool.and_eq_true] at h
  obtain ⟨⟨hbase, hper⟩, hhandling⟩ := h
  simp only [paramBytes, bytes2, List.cons_append, List.nil_append, craneBody, toNat_byteOf_of_fits hc]
  rw [present_of_param (by simp) rfl hbase, present_of_param (by simp) rfl hper, present_of_param (by simp) rfl hhandling]

theorem postBody_bytes {b : PostBody} (h : b.wf = true) : postBody ([byteOf b.load] ++ bytes2 b.ref
    ++ [byteOf b.srcZone, byteOf b.dstZone, byteOf b.dstSlot, byteOf b.priority, byteOf b.flag]) = some (.movePost b) := by
  simp only [PostBody.wf, Bool.and_eq_true] at h
  obtain ⟨⟨⟨⟨⟨⟨hload, href⟩, hsrc⟩, hdst⟩, hslot⟩, hpriority⟩, hflag⟩ := h
  simp only [bytes2, List.cons_append, List.nil_append, postBody, num2_of_fits, toNat_byteOf_of_fits, hload, href, hsrc, hdst,
    hslot, hpriority, hflag]

/-- The tail of MARK_DEFINE: a first digit of 255 stands for an absent serial. -/
theorem markTail_bytes {id count heat : Nat} {codes : List Nat} {serial : Option (List Nat)} (hheat : fits1 heat = true)
    (h : serial.all serialWf = true) :
    markTail id count codes ((serial.getD [255, 0, 0, 0]).map byteOf ++ [byteOf heat])
      = some (.markDefine { id := id, count := count, codes := codes, serial := serial, heat := heat }) := by
  match serial, h with
  | none, _ => simp [markTail, toNat_byteOf_of_fits hheat]
  | some [a, b, c, d], h =>
    simp only [Option.all_some, serialWf, Bool.and_eq_true, decide_eq_true_eq] at h
    obtain ⟨⟨⟨ha, hb⟩, hc⟩, hd⟩ := h
    have ha' : fits1 a = true := decide_eq_true (by omega)
    simp only [Option.getD_some, List.map_cons, List.map_nil, List.cons_append, List.nil_append, markTail, toNat_byteOf_of_fits,
      ha', hb, hc, hd, hheat, if_neg (Nat.ne_of_lt ha)]

theorem markBody_bytes {m : MarkBody} (h : m.wf = true) : markBody ([byteOf m.id, byteOf m.count] ++ m.codes.map byteOf
    ++ (m.serial.getD [255, 0, 0, 0]).map byteOf ++ [byteOf m.heat]) = some (.markDefine m) := by
  simp only [MarkBody.wf, Bool.and_eq_true, decide_eq_true_eq] at h
  obtain ⟨⟨⟨⟨⟨hid, hcount⟩, hlen⟩, hcodes⟩, hserial⟩, hheat⟩ := h
  have hlen' : (m.codes.map byteOf).length = m.count := by rw [List.length_map, hlen]
  simp only [List.cons_append, List.nil_append, List.append_assoc, markBody, toNat_byteOf_of_fits, hid, hcount]
  rw [List.take_left' hlen', List.drop_left' hlen', map_toNat_byteOf hcodes, markTail_bytes hheat hserial]

theorem serialBody_bytes {id : Nat} {ds : List Nat} (hid : fits1 id = true) (hlen : ds.length = 4) (h : ds.all fits1 = true) :
    serialBody (byteOf id :: ds.map byteOf) = some (.markSerialSet id ds) := by
  match ds, hlen with
  | [a, b, c, d], _ =>
    simp only [List.all_cons, List.all_nil, Bool.and_true, Bool.and_eq_true] at h
    obtain ⟨ha, hb, hc, hd⟩ := h
    simp only [List.map_cons, List.map_nil, serialBody, toNat_byteOf_of_fits, hid, ha, hb, hc, hd]

/-! ## Kinds -/

/-- The request is read back from the kind and body that spell it, if any does. -/
def ReadsBack (i : Instr) : Prop :=
  ∀ p, encodeBody i = some p → p.1 < 256 ∧ (bodyOf p.1).bind (fun d => d p.2) = some i

theorem readsBack_of_none {i : Instr} (h : encodeBody i = none) : ReadsBack i := fun _ hp => nomatch h.symm.trans hp

theorem readsBack_of_body {i : Instr} {n : Nat} {body : List Byte} {d : List Byte → Option Instr}
    (hencode : encodeBody i = some (n, body)) (hn : n < 256) (hkind : bodyOf n = some d) (hread : d body = some i) :
    ReadsBack i := by
  rintro p hp
  obtain rfl := Option.some.inj (hencode.symm.trans hp)
  exact ⟨hn, (congrArg (fun o => o.bind (fun d => d body)) hkind).trans hread⟩

theorem fits_three {a b c : Bool} (h : (a && b && c) = true) : (a = true ∧ b = true) ∧ c = true := by
  rwa [Bool.and_eq_true, Bool.and_eq_true] at h

theorem fits_four {a b c d : Bool} (h : (a && b && c && d) = true) : ((a = true ∧ b = true) ∧ c = true) ∧ d = true := by
  rwa [Bool.and_eq_true, Bool.and_eq_true, Bool.and_eq_true] at h

/-- Every well-formed command reads back from the body that spells it: by the shape of its body. -/
theorem readsBack_of_wellFormed {i : Instr} (h : wellFormed i = true) : ReadsBack i := by
  cases i with
  | hallMap es =>
    obtain ⟨hlen, hall⟩ := Bool.and_eq_true_iff.1 h
    refine readsBack_of_body rfl (by decide) rfl ?_
    rw [length_pairs, of_decide_eq_true hlen, if_pos rfl, pairsOf_bytes es hall]
  | stockRegister b => exact readsBack_of_body rfl (by decide) rfl (stockBody_bytes h)
  | stockList f a s =>
    obtain ⟨⟨hf, ha⟩, hs⟩ := fits_three h
    refine readsBack_of_body rfl (by decide) rfl ?_
    dsimp only
    rw [toNat_byteOf_of_fits hf, toNat_byteOf_of_fits ha, toNat_byteOf_of_fits hs]
  | allocProbe r => exact readsBack_of_body rfl (by decide) rfl (probeBody_bytes h)
  | progSteps t f c data =>
    obtain ⟨⟨⟨ht, hf⟩, hc⟩, hdata⟩ := fits_four h
    exact readsBack_of_body rfl (by decide) rfl (stepsBody_bytes ht hf hc (of_decide_eq_true hdata))
  | tableConfig t p =>
    obtain ⟨ht, hp⟩ := Bool.and_eq_true_iff.1 h
    exact readsBack_of_body rfl (by decide) rfl (tableBody_bytes ht hp)
  | markDefine m => exact readsBack_of_body rfl (by decide) rfl (markBody_bytes h)
  | markSerialSet id ds =>
    obtain ⟨⟨hid, hlen⟩, hall⟩ := fits_three h
    exact readsBack_of_body rfl (by decide) rfl (serialBody_bytes hid (of_decide_eq_true hlen) hall)
  | movePost b => exact readsBack_of_body rfl (by decide) rfl (postBody_bytes h)
  | craneConfig c p =>
    obtain ⟨hc, hp⟩ := Bool.and_eq_true_iff.1 h
    exact readsBack_of_body rfl (by decide) rfl (craneBody_bytes hc hp)
  | mapQuery => exact readsBack_of_body rfl (by decide) rfl rfl
  | allocQuery => exact readsBack_of_body rfl (by decide) rfl rfl
  | accountRead => exact readsBack_of_body rfl (by decide) rfl rfl
  | accountClear => exact readsBack_of_body rfl (by decide) rfl rfl
  | composerQuery => exact readsBack_of_body rfl (by decide) rfl rfl
  | hallRun => exact readsBack_of_body rfl (by decide) rfl rfl
  | hallContinue => exact readsBack_of_body rfl (by decide) rfl rfl
  | hallReset => exact readsBack_of_body rfl (by decide) rfl rfl
  | beaconQuery => exact readsBack_of_body rfl (by decide) rfl rfl
  | hallStatus => exact readsBack_of_body rfl (by decide) rfl rfl
  | reportStatus b => exact readsBack_of_body rfl (by decide) rfl rfl
  | reportMask b => exact readsBack_of_body rfl (by decide) rfl rfl
  | stockRemove id => exact readsBack_of_body rfl (by decide) rfl (bodyId_bytes h _)
  | stockQuarantine id => exact readsBack_of_body rfl (by decide) rfl (bodyId_bytes h _)
  | stockRelease id => exact readsBack_of_body rfl (by decide) rfl (bodyId_bytes h _)
  | stockQuery id => exact readsBack_of_body rfl (by decide) rfl (bodyId_bytes h _)
  | progCommit n => exact readsBack_of_body rfl (by decide) rfl (body1_bytes h _)
  | progDiscard n => exact readsBack_of_body rfl (by decide) rfl (body1_bytes h _)
  | progStart n => exact readsBack_of_body rfl (by decide) rfl (body1_bytes h _)
  | progAbort n => exact readsBack_of_body rfl (by decide) rfl (body1_bytes h _)
  | progQuery n => exact readsBack_of_body rfl (by decide) rfl (body1_bytes h _)
  | wearReset n => exact readsBack_of_body rfl (by decide) rfl (body1_bytes h _)
  | wearQuery n => exact readsBack_of_body rfl (by decide) rfl (body1_bytes h _)
  | markDelete n => exact readsBack_of_body rfl (by decide) rfl (body1_bytes h _)
  | markQuery n => exact readsBack_of_body rfl (by decide) rfl (body1_bytes h _)
  | flagSet n => exact readsBack_of_body rfl (by decide) rfl (body1_bytes h _)
  | flagClear n => exact readsBack_of_body rfl (by decide) rfl (body1_bytes h _)
  | flagQuery n => exact readsBack_of_body rfl (by decide) rfl (body1_bytes h _)
  | guardQuery n => exact readsBack_of_body rfl (by decide) rfl (body1_bytes h _)
  | craneResume n => exact readsBack_of_body rfl (by decide) rfl (body1_bytes h _)
  | moveAcceptWeight n => exact readsBack_of_body rfl (by decide) rfl (body1_bytes h _)
  | moveAbort n => exact readsBack_of_body rfl (by decide) rfl (body1_bytes h _)
  | moveRetry n => exact readsBack_of_body rfl (by decide) rfl (body1_bytes h _)
  | moveCancel n => exact readsBack_of_body rfl (by decide) rfl (body1_bytes h _)
  | moveQuery n => exact readsBack_of_body rfl (by decide) rfl (body1_bytes h _)
  | craneStatus n => exact readsBack_of_body rfl (by decide) rfl (body1_bytes h _)
  | unitRestore n => exact readsBack_of_body rfl (by decide) rfl (body1_bytes h _)
  | unitMaintain n => exact readsBack_of_body rfl (by decide) rfl (body1_bytes h _)
  | unitQuery n => exact readsBack_of_body rfl (by decide) rfl (body1_bytes h _)
  | faultRead n => exact readsBack_of_body rfl (by decide) rfl (body1_bytes h _)
  | reportForce n => exact readsBack_of_body rfl (by decide) rfl (body1_bytes h _)
  | slotQuery a b =>
    obtain ⟨ha, hb⟩ := Bool.and_eq_true_iff.1 h
    exact readsBack_of_body rfl (by decide) rfl (body2_bytes ha hb _)
  | progBegin a b =>
    obtain ⟨ha, hb⟩ := Bool.and_eq_true_iff.1 h
    exact readsBack_of_body rfl (by decide) rfl (body2_bytes ha hb _)
  | tableResume a b =>
    obtain ⟨ha, hb⟩ := Bool.and_eq_true_iff.1 h
    exact readsBack_of_body rfl (by decide) rfl (body2_bytes ha hb _)
  | progRead a b c d =>
    obtain ⟨⟨⟨ha, hb⟩, hc⟩, hd⟩ := fits_four h
    exact readsBack_of_body rfl (by decide) rfl (body4_bytes ha hb hc hd _)
  | moveRecover a b c d =>
    obtain ⟨⟨⟨ha, hb⟩, hc⟩, hd⟩ := fits_four h
    exact readsBack_of_body rfl (by decide) rfl (body4_bytes ha hb hc hd _)
  | beaconSet a b c d =>
    obtain ⟨⟨⟨ha, hb⟩, hc⟩, hd⟩ := fits_four h
    exact readsBack_of_body rfl (by decide) rfl (body4_bytes ha hb hc hd _)
  | _ => exact readsBack_of_none rfl

/-- Settles O5. -/
theorem requestsReadBack : Obligations.RequestsReadBack := by
  intro i tag f hwf hencode
  obtain ⟨⟨n, body⟩, hbody, rfl⟩ := Option.map_eq_some_iff.1 hencode
  obtain ⟨hn, hread⟩ := readsBack_of_wellFormed hwf (n, body) hbody
  refine ⟨rfl, rfl, ?_⟩
  have hkind : (byteOf n).toNat = n := by rw [byteOf_toNat, Nat.mod_eq_of_lt hn]
  rw [decodeFrame, if_neg (by simp), if_neg (by simp), hkind]
  have hread' : (bodyOf n).bind (fun d => d body) = some i := hread
  show ((bodyOf n).bind (fun d => d body)).getD _ = i
  rw [hread']
  rfl

end Sys2Proof.Machine

/-! What the hall's stop and reset share: a host line that takes reports, and commands that go to the head of a unit's waiting
list (R192, R218, R219). -/

namespace Sys2Proof.Machine

/-! ## A host line that takes reports -/

/-- A host line that has taken reports: its status bits stay set, and its queue keeps what it holds. -/
structure HostLine.Grows (h h' : HostLine) : Prop where
  hand : h'.hand = h.hand
  buffer : h'.buffer = h.buffer
  mask : h'.mask = h.mask
  reports : ∃ l, h'.reports = h.reports ++ l
  status : ∀ i, h.status.getLsbD i = true → h'.status.getLsbD i = true

theorem HostLine.Grows.refl (h : HostLine) : h.Grows h := ⟨rfl, rfl, rfl, ⟨[], (List.append_nil _).symm⟩, fun _ hi => hi⟩

theorem HostLine.Grows.trans {h h' h'' : HostLine} (h1 : h.Grows h') (h2 : h'.Grows h'') : h.Grows h'' := by
  obtain ⟨l, hl⟩ := h1.reports
  obtain ⟨l', hl'⟩ := h2.reports
  exact ⟨h2.hand.trans h1.hand, h2.buffer.trans h1.buffer, h2.mask.trans h1.mask,
    ⟨l ++ l', by rw [hl', hl, List.append_assoc]⟩, fun i hi => h2.status i (h1.status i hi)⟩

theorem HostLine.grows_report (h : HostLine) (r : Report) : h.Grows (h.report r) := by
  rw [HostLine.report_eq_of_bit]
  refine ⟨rfl, rfl, rfl, ?_, fun i hi => ?_⟩
  · dsimp only
    split
    · exact ⟨[r], rfl⟩
    · exact ⟨[], (List.append_nil _).symm⟩
  · show (h.status ||| _).getLsbD i = true
    rw [BitVec.getLsbD_or, hi, Bool.true_or]

/-- A report sets its status bit, and joins a queue of an unmasked class that has room. -/
theorem HostLine.report_tells (h : HostLine) (r : Report) : (h.report r).status.getLsbD r.cls.bit = true
    ∧ (h.mask.getLsbD r.cls.bit = false → h.reports.length < 48 → (h.report r).reports = h.reports ++ [r]) := by
  rw [HostLine.report_eq_of_bit]
  refine ⟨?_, fun hmask hroom => if_pos ⟨hmask, hroom⟩⟩
  show (h.status ||| _).getLsbD r.cls.bit = true
  rw [BitVec.getLsbD_or]
  simp [r.cls.bit_lt]

/-! ## ARC_KILL and STOP (R192) -/

/-- The command that the hall sends a unit to bring its owner to rest, and the block that hands it. -/
def haltCmd (v : UnitId) : FieldCmd :=
  match ownerOf v with
  | .table _ => .arcKill
  | .crane _ => .stop

def haltSender (v : UnitId) : Sender :=
  match ownerOf v with
  | .table _ => .sequencer
  | .crane _ => .cranes

@[simp] theorem haltCmd_tableUnit (t : TableId) : haltCmd (tableUnit t) = .arcKill := by rw [haltCmd, ownerOf_tableUnit]
@[simp] theorem haltCmd_craneUnit (c : CraneId) : haltCmd (craneUnit c) = .stop := by rw [haltCmd, ownerOf_craneUnit]
@[simp] theorem haltSender_tableUnit (t : TableId) : haltSender (tableUnit t) = .sequencer := by
  rw [haltSender, ownerOf_tableUnit]
@[simp] theorem haltSender_craneUnit (c : CraneId) : haltSender (craneUnit c) = .cranes := by rw [haltSender, ownerOf_craneUnit]

/-- A waiting command that neither ARC_KILL nor STOP removes. -/
def Handed.stays (w : Handed) : Bool := decide (w.cmd.kind ≠ .runContour) && !cmdMotion w.cmd.kind

/-- The halting command of a unit, with the number of its handing. -/
def haltHanded (v : UnitId) (n : Nat) : Handed := { cmd := haltCmd v, sender := haltSender v, hand := n }

/-- What a unit's record becomes where its halting command is sent, as `b` says: DUE on a unit with none outstanding, else at
the head of its waiting list, where there is room. -/
structure UnitRec.Sent (v : UnitId) (b : Prop) (r r' : UnitRec) : Prop where
  due : b → ∃ n, (r.out = none → r' = { r with out := some { cmd := haltHanded v n, attempt := 1, inFlight := false } })
    ∧ (r.out ≠ none → r.waiting.length < 4 → r' = { r with waiting := haltHanded v n :: r.waiting })
  kept : ¬ b → r' = r
  link : r'.link = r.link
  fails : r'.fails = r.fails
  strays : r'.strays = r.strays
  restoring : r'.restoring = r.restoring

theorem UnitRec.sent_of_not {v : UnitId} {b : Prop} (h : ¬ b) (r : UnitRec) : UnitRec.Sent v b r r :=
  ⟨fun hb => absurd hb h, fun _ => rfl, rfl, rfl, rfl, rfl⟩

/-- The halting command of a unit is taken, unless one is outstanding and four others wait. -/
theorem UnitRec.take_halt {v : UnitId} {r : UnitRec} (n : Nat) (hstays : ∀ w ∈ r.waiting, w.stays = true) :
    r.take (haltHanded v n) = match r.out with
      | none => some { r with out := some { cmd := haltHanded v n, attempt := 1, inFlight := false } }
      | some _ => if r.waiting.length < 4 then some { r with waiting := haltHanded v n :: r.waiting } else none := by
  have hcontours : r.waiting.filter (fun w => w.cmd.kind ≠ .runContour) = r.waiting :=
    List.filter_eq_self.2 fun w hw => (Bool.and_eq_true_iff.1 (hstays w hw)).1
  have hmotions : r.waiting.filter (fun w => !cmdMotion w.cmd.kind) = r.waiting :=
    List.filter_eq_self.2 fun w hw => (Bool.and_eq_true_iff.1 (hstays w hw)).2
  rw [UnitRec.take]
  cases r.out with
  | none => rfl
  | some o =>
    dsimp only
    cases howner : ownerOf v with
    | table t =>
      have hkind : (haltHanded v n).cmd.kind = .arcKill := by rw [haltHanded, haltCmd, howner]; rfl
      rw [hkind]
      dsimp only
      rw [hcontours]
    | crane c =>
      have hkind : (haltHanded v n).cmd.kind = .stop := by rw [haltHanded, haltCmd, howner]; rfl
      rw [hkind]
      dsimp only
      rw [hmotions]

/-- A step that sends unit `v` its halting command where `b` holds: the NAK of a full waiting list is the only work it sets
off. -/
structure Sends (s u : State) (v : UnitId) (b : Prop) : Prop where
  frame : ∃ l ws, u = { s with line := l, work := ws ++ s.work } ∧ ws.length ≤ 1
    ∧ (∀ w ∈ ws, b ∧ ∃ n, w = .answered v (haltHanded v n) .nak) ∧ ((s.unit v).waiting.length < 4 → ws = [])
  unit : UnitRec.Sent v b (s.unit v) (u.unit v)
  others : ∀ k, k ≠ v → u.unit k = s.unit k

theorem sends_of_not {v : UnitId} {b : Prop} (h : ¬ b) (s : State) : Sends s s v b :=
  ⟨⟨s.line, [], rfl, Nat.zero_le 1, (fun _ hw => nomatch hw), fun _ => rfl⟩, UnitRec.sent_of_not h _, fun _ _ => rfl⟩

theorem haltSender_ne_restore (v : UnitId) : haltSender v ≠ .restore := by
  rw [haltSender]
  split <;> exact (fun h => nomatch h)

/-- A command that a full waiting list does not take is answered NAK at once. -/
theorem handTo_of_full {s : State} {u : UnitId} {cmd : FieldCmd} {who : Sender} (h : (s.unit u).takes who = true)
    (hr : (s.unit u).take (s.handing cmd who) = none) :
    s.handTo u cmd who = s.countHand.push [.answered u (s.handing cmd who) .nak] := by
  have htake : (s.countHand.unit u).take { cmd := cmd, sender := who, hand := s.line.nextHand } = none := hr
  unfold State.handTo
  dsimp only
  refine (if_pos h).trans ?_
  change (match (s.countHand.unit u).take { cmd := cmd, sender := who, hand := s.line.nextHand } with
    | some r => s.countHand.modUnit u (fun _ => r)
    | none => s.countHand.push [.answered u { cmd := cmd, sender := who, hand := s.line.nextHand } .nak]) = _
  rw [htake]
  rfl

theorem sends_of_take {s : State} {v : UnitId} {b : Prop} {r : UnitRec} (htakes : (s.unit v).takes (haltSender v) = true)
    (htake : (s.unit v).take (haltHanded v s.line.nextHand) = some r) (hsent : UnitRec.Sent v b (s.unit v) r) :
    Sends s (s.handTo v (haltCmd v) (haltSender v)) v b := by
  rw [handTo_of_take htakes htake]
  refine ⟨⟨_, [], rfl, Nat.zero_le 1, (fun _ hw => nomatch hw), fun _ => rfl⟩, ?_, fun k hk =>
    State.unit_modUnit_of_ne s.countHand _ hk⟩
  rw [State.unit_modUnit_same]
  exact hsent

/-- The halting command is handed to a unit: discarded unless the unit is ONLINE. -/
theorem sends_handTo {s : State} {v : UnitId} (hstays : ∀ w ∈ (s.unit v).waiting, w.stays = true) :
    Sends s (s.handTo v (haltCmd v) (haltSender v)) v ((s.unit v).link = .online) := by
  have htakes : (s.unit v).takes (haltSender v) = decide ((s.unit v).link = .online) := by
    rw [UnitRec.takes, decide_eq_false (haltSender_ne_restore v), Bool.and_false, Bool.or_false]
  by_cases honline : (s.unit v).link = .online
  · have htaken : (s.unit v).takes (haltSender v) = true := htakes.trans (decide_eq_true honline)
    have htake := UnitRec.take_halt (v := v) s.line.nextHand hstays
    by_cases hout : (s.unit v).out = none
    · rw [hout] at htake
      exact sends_of_take htaken htake ⟨fun _ => ⟨_, fun _ => rfl, fun h => absurd hout h⟩, fun h => absurd honline h,
        rfl, rfl, rfl, rfl⟩
    · obtain ⟨o, ho⟩ := Option.ne_none_iff_exists'.1 hout
      by_cases hroom : (s.unit v).waiting.length < 4
      · rw [ho] at htake
        exact sends_of_take htaken (htake.trans (if_pos hroom)) ⟨fun _ => ⟨_, fun h => absurd h hout, fun _ _ => by rw [ho]⟩,
          fun h => absurd honline h, rfl, rfl, rfl, rfl⟩
      · rw [ho] at htake
        rw [handTo_of_full htaken (htake.trans (if_neg hroom))]
        exact ⟨⟨_, [_], rfl, Nat.le_refl 1, fun w hw => ⟨honline, _, List.mem_singleton.1 hw⟩, fun h => absurd h hroom⟩,
          ⟨fun _ => ⟨0, fun h => absurd h hout, fun _ h => absurd h hroom⟩, fun h => absurd honline h, rfl, rfl, rfl, rfl⟩,
          fun _ _ => rfl⟩
  · rw [handTo_of_not_takes (htakes.trans (decide_eq_false honline))]
    exact ⟨⟨_, [], rfl, Nat.zero_le 1, (fun _ hw => nomatch hw), fun _ => rfl⟩, UnitRec.sent_of_not honline _, fun _ _ => rfl⟩

end Sys2Proof.Machine

/-! HALL_RESET (R210), block by block. -/

namespace Sys2Proof.Machine

theorem exec_hallReset (s : State) : exec .hallReset s = execHallReset s := by rfl

/-! ## Tables and cranes at a reset (R66, R98, R189) -/

/-- A table's record after HALL_RESET. -/
def TableRec.afterReset (r : TableRec) : TableRec :=
  if r.state = .absent then r
  else
    { r.emptied with
      staged := .empty, killAwaited := false,
      state := if r.state = .offline ∨ r.state = .maintenance then r.state else .idle
      cause := if r.state = .offline ∨ r.state = .maintenance then r.cause else none }

/-- A crane's record after HALL_RESET. -/
def CraneRec.afterReset (r : CraneRec) : CraneRec :=
  { r with
    move := none, timer := none, hand := none, awaited := false, cause := none,
    state := if r.state = .busy ∨ r.state = .halted then .idle else r.state }

/-- Whether HALL_RESET sends the unit its ARC_KILL or STOP. -/
def State.resetSends (s : State) (v : UnitId) : Prop :=
  match ownerOf v with
  | .table k => (s.tab k).state ≠ .absent ∧ (s.unit v).link = .online ∧ (s.tab k).contour.any Contour.arcHeld = true
  | .crane c => (s.unit v).link = .online ∧ (s.craneMove c).any (fun m => m.state = .dispatched) = true

theorem resetSends_tableUnit (s : State) (k : TableId) : s.resetSends (tableUnit k) ↔ (s.tab k).state ≠ .absent
    ∧ (s.unit (tableUnit k)).link = .online ∧ (s.tab k).contour.any Contour.arcHeld = true := by
  rw [State.resetSends, ownerOf_tableUnit]

theorem resetSends_craneUnit (s : State) (c : CraneId) : s.resetSends (craneUnit c) ↔
    (s.unit (craneUnit c)).link = .online ∧ (s.craneMove c).any (fun m => m.state = .dispatched) = true := by
  rw [State.resetSends, ownerOf_craneUnit]

/-- How far the reset of the tables `ks` and the cranes `cs` has changed a state. -/
structure Resetting (s u : State) (ks : List TableId) (cs : List CraneId) : Prop where
  tabs : ∀ k, u.tab k = if k ∈ ks then (s.tab k).afterReset else s.tab k
  cranes : ∀ c, u.crane c = if c ∈ cs then (s.crane c).afterReset else s.crane c
  tableUnits : ∀ k, k ∈ ks → UnitRec.Sent (tableUnit k) (s.resetSends (tableUnit k)) (s.unit (tableUnit k)) (u.unit (tableUnit k))
  craneUnits : ∀ c, c ∈ cs → UnitRec.Sent (craneUnit c) (s.resetSends (craneUnit c)) (s.unit (craneUnit c)) (u.unit (craneUnit c))
  restTables : ∀ k, k ∉ ks → u.unit (tableUnit k) = s.unit (tableUnit k)
  restCranes : ∀ c, c ∉ cs → u.unit (craneUnit c) = s.unit (craneUnit c)
  host : s.host.Grows u.host
  work : ∃ ws, u.work = ws ++ s.work ∧ ws.length ≤ ks.length + cs.length
    ∧ ∀ w ∈ ws, (∃ k ∈ ks, ∃ n, (s.tab k).state ≠ .absent ∧ w = .answered (tableUnit k) (haltHanded (tableUnit k) n) .nak)
      ∨ (∃ c ∈ cs, ∃ n, w = .answered (craneUnit c) (haltHanded (craneUnit c) n) .nak)
  frame : ∃ ts cr ln h w, u = { s with tables := ts, moves := { s.moves with cranes := cr }, line := ln, host := h, work := w }

theorem resetting_refl (s : State) : Resetting s s [] [] where
  tabs _ := rfl
  cranes _ := rfl
  tableUnits _ h := nomatch h
  craneUnits _ h := nomatch h
  restTables _ _ := rfl
  restCranes _ _ := rfl
  host := .refl _
  work := ⟨[], rfl, Nat.le_refl 0, fun _ h => nomatch h⟩
  frame := ⟨_, _, _, _, _, rfl⟩

section Tables

variable {s : State} {k : TableId}

theorem enter_grows (s : State) (t : TableId) (st : TableState) : ∃ h, s.host.Grows h
    ∧ s.enter t st = (s.modTab t (fun r => { r with state := st, cause := none })).setHost h := by
  by_cases h : (s.tab t).state = st
  · exact ⟨s.host, .refl _, enter_of_same h⟩
  · exact ⟨_, s.host.grows_report _, enter_of_other h⟩

theorem Sends.congr {s u : State} {v : UnitId} {b b' : Prop} (hb : b ↔ b') (h : Sends s u v b) : Sends s u v b' := by
  rwa [← propext hb]

/-- A table's reset: ARC_KILL where it holds the arc, and its record emptied. -/
theorem resetTable_spec (hstays : ∀ w ∈ (s.unit (tableUnit k)).waiting, w.stays = true) : ∃ v h,
    Sends s v (tableUnit k) (s.resetSends (tableUnit k)) ∧ s.host.Grows h
      ∧ s.resetTable k = (v.modTab k (fun _ => (s.tab k).afterReset)).setHost h := by
  have hdue := resetSends_tableUnit s k
  by_cases habsent : (s.tab k).state = .absent
  · refine ⟨s, s.host, sends_of_not (fun h => (hdue.1 h).1 habsent) s, .refl _, ?_⟩
    rw [State.resetTable, if_pos habsent, TableRec.afterReset, if_pos habsent, State.modTab_self]
    rfl
  · let v : State := if (s.tab k).contour.any Contour.arcHeld = true ∧ (s.unit (tableUnit k)).link = .online then s.sendKill k
      else s
    have hsends : Sends s v (tableUnit k) (s.resetSends (tableUnit k)) := by
      by_cases hheld : (s.tab k).contour.any Contour.arcHeld = true ∧ (s.unit (tableUnit k)).link = .online
      · have hv : v = s.handTo (tableUnit k) (haltCmd (tableUnit k)) (haltSender (tableUnit k)) := by
          rw [haltCmd_tableUnit, haltSender_tableUnit]
          exact if_pos hheld
        rw [hv]
        exact (sends_handTo hstays).congr ⟨fun h => hdue.2 ⟨habsent, h, hheld.1⟩, fun h => (hdue.1 h).2.1⟩
      · have hv : v = s := if_neg hheld
        rw [hv]
        exact sends_of_not (fun h => hheld ⟨(hdue.1 h).2.2, (hdue.1 h).2.1⟩) s
    obtain ⟨l, ws, hframe, -⟩ := hsends.frame
    have htab : v.tab k = s.tab k := by rw [hframe]; rfl
    have hhost : v.host = s.host := by rw [hframe]
    have hafter : (s.tab k).afterReset = { (s.tab k).emptied with
        staged := .empty, killAwaited := false,
        state := if (s.tab k).state = .offline ∨ (s.tab k).state = .maintenance then (s.tab k).state else .idle
        cause := if (s.tab k).state = .offline ∨ (s.tab k).state = .maintenance then (s.tab k).cause else none } := if_neg habsent
    have hreset : s.resetTable k = if (s.tab k).state = .offline ∨ (s.tab k).state = .maintenance
        then v.modTab k (fun r => { r.emptied with staged := .empty, killAwaited := false })
        else (v.modTab k (fun r => { r.emptied with staged := .empty, killAwaited := false })).enter k .idle := by
      rw [State.resetTable]
      exact if_neg habsent
    by_cases hout : (s.tab k).state = .offline ∨ (s.tab k).state = .maintenance
    · refine ⟨v, s.host, hsends, .refl _, ?_⟩
      rw [hreset, if_pos hout, hafter, if_pos hout, if_pos hout, ← hhost]
      have hcongr : v.modTab k (fun r => { r.emptied with staged := .empty, killAwaited := false })
          = v.modTab k (fun _ => { (s.tab k).emptied with
            staged := .empty, killAwaited := false, state := (s.tab k).state, cause := (s.tab k).cause }) :=
        State.modTab_congr (by rw [htab]; rfl)
      exact hcongr
    · obtain ⟨h, hgrows, henter⟩ := enter_grows (v.modTab k (fun r => { r.emptied with staged := .empty, killAwaited := false }))
        k .idle
      refine ⟨v, h, hsends, hhost ▸ hgrows, ?_⟩
      rw [hreset, if_neg hout, henter, State.modTab_modTab, hafter, if_neg hout, if_neg hout]
      exact congrArg (fun u => State.setHost u h) (State.modTab_congr (by rw [htab]))

/-- The reset of one table more. -/
theorem Resetting.table {u : State} {ks : List TableId} (h : Resetting s u ks []) (hk : k ∉ ks)
    (hstays : ∀ w ∈ (s.unit (tableUnit k)).waiting, w.stays = true) : Resetting s (u.resetTable k) (k :: ks) [] := by
  have hunit : u.unit (tableUnit k) = s.unit (tableUnit k) := h.restTables k hk
  have htab : u.tab k = s.tab k := (h.tabs k).trans (if_neg hk)
  have hdue : u.resetSends (tableUnit k) ↔ s.resetSends (tableUnit k) := by
    rw [resetSends_tableUnit, resetSends_tableUnit, htab, hunit]
  obtain ⟨v, host, hsends, hgrows, hreset⟩ := resetTable_spec (s := u) (k := k) (by rw [hunit]; exact hstays)
  have hsent := hsends.unit
  rw [hunit] at hsent
  obtain ⟨l, ws, hframe, hlen, hws, -⟩ := hsends.frame
  obtain ⟨ws', hwork, hlen', hws'⟩ := h.work
  obtain ⟨ts, cr, ln, h0, w, hu⟩ := h.frame
  have hvtab : v.tab = u.tab := by rw [hframe]; rfl
  rw [htab] at hreset
  rw [hreset]
  refine { tabs := fun j => ?_, cranes := fun c => ?_, tableUnits := fun j hj => ?_, craneUnits := fun c hc => (nomatch hc),
           restTables := fun j hj => ?_, restCranes := fun c _ => ?_, host := h.host.trans hgrows, work := ?_, frame := ?_ }
  · show (v.modTab k (fun _ => (s.tab k).afterReset)).tab j = _
    by_cases hj : j = k
    · subst hj
      rw [State.tab_modTab_same, if_pos List.mem_cons_self]
    · rw [State.tab_modTab_of_ne _ _ hj, hvtab, h.tabs]
      exact ite_congr (by simp [hj]) (fun _ => rfl) (fun _ => rfl)
  · show v.crane c = _
    rw [hframe]
    exact h.cranes c
  · show UnitRec.Sent _ _ _ (v.unit (tableUnit j))
    by_cases hjk : j = k
    · subst hjk
      rwa [propext hdue] at hsent
    · rw [hsends.others _ (fun e => hjk (tableUnit_inj.1 e))]
      exact h.tableUnits j ((List.mem_cons.1 hj).resolve_left hjk)
  · show v.unit (tableUnit j) = _
    obtain ⟨hjk, hjks⟩ := not_or.1 (fun e => hj (List.mem_cons.2 e))
    rw [hsends.others _ (fun e => hjk (tableUnit_inj.1 e))]
    exact h.restTables j hjks
  · show v.unit (craneUnit c) = _
    rw [hsends.others _ (craneUnit_ne_tableUnit c k).symm]
    exact h.restCranes c (List.not_mem_nil)
  · refine ⟨ws ++ ws', ?_, ?_, fun x hx => ?_⟩
    · show v.work = _
      rw [hframe, List.append_assoc, ← hwork]
    · rw [List.length_append, List.length_cons]
      omega
    · obtain hx | hx := List.mem_append.1 hx
      · obtain ⟨hb, n, rfl⟩ := hws x hx
        rw [resetSends_tableUnit, htab] at hb
        exact .inl ⟨k, List.mem_cons_self, n, hb.1, rfl⟩
      · obtain ⟨j, hj, n, habsent, rfl⟩ | ⟨c, hc, -⟩ := hws' x hx
        · exact .inl ⟨j, List.mem_cons_of_mem _ hj, n, habsent, rfl⟩
        · exact nomatch hc
  · rw [hframe, hu]
    exact ⟨_, _, _, _, _, rfl⟩

end Tables

section Cranes

variable {s : State} {c : CraneId}

/-- A crane's reset: STOP where its move is DISPATCHED, and its record without a move. -/
theorem resetCrane_spec (hstays : ∀ w ∈ (s.unit (craneUnit c)).waiting, w.stays = true) : ∃ v,
    Sends s v (craneUnit c) (s.resetSends (craneUnit c))
      ∧ s.resetCrane c = v.modCrane c (fun _ => (s.crane c).afterReset) := by
  have hdue := resetSends_craneUnit s c
  let v : State := if (s.unit (craneUnit c)).link = .online ∧ (s.craneMove c).any (fun m => m.state = .dispatched) = true
    then s.handTo (craneUnit c) .stop .cranes else s
  have hsends : Sends s v (craneUnit c) (s.resetSends (craneUnit c)) := by
    by_cases hstop : (s.unit (craneUnit c)).link = .online ∧ (s.craneMove c).any (fun m => m.state = .dispatched) = true
    · have hv : v = s.handTo (craneUnit c) (haltCmd (craneUnit c)) (haltSender (craneUnit c)) := by
        rw [haltCmd_craneUnit, haltSender_craneUnit]
        exact if_pos hstop
      rw [hv]
      exact (sends_handTo hstays).congr ⟨fun h => hdue.2 ⟨h, hstop.2⟩, fun h => (hdue.1 h).1⟩
    · have hv : v = s := if_neg hstop
      rw [hv]
      exact sends_of_not (fun h => hstop (hdue.1 h)) s
  obtain ⟨l, ws, hframe, -⟩ := hsends.frame
  have hcrane : v.crane c = s.crane c := by rw [hframe]; rfl
  refine ⟨v, hsends, ?_⟩
  have hcongr : v.modCrane c (fun k => { k with
      move := none, timer := none, hand := none, awaited := false, cause := none,
      state := if (s.crane c).state = .busy ∨ (s.crane c).state = .halted then .idle else (s.crane c).state })
      = v.modCrane c (fun _ => (s.crane c).afterReset) := State.modCrane_congr (by rw [hcrane]; rfl)
  exact hcongr

/-- The reset of one crane more. -/
theorem Resetting.crane {u : State} {ks : List TableId} {cs : List CraneId} (h : Resetting s u ks cs) (hc : c ∉ cs)
    (hstays : ∀ w ∈ (s.unit (craneUnit c)).waiting, w.stays = true) : Resetting s (u.resetCrane c) ks (c :: cs) := by
  have hunit : u.unit (craneUnit c) = s.unit (craneUnit c) := h.restCranes c hc
  have hcrane : u.crane c = s.crane c := (h.cranes c).trans (if_neg hc)
  obtain ⟨ts, cr, ln, h0, w, hu⟩ := h.frame
  have hmove : u.craneMove c = s.craneMove c := by
    rw [State.craneMove, State.craneMove, hcrane, hu]
    rfl
  have hdue : u.resetSends (craneUnit c) ↔ s.resetSends (craneUnit c) := by
    rw [resetSends_craneUnit, resetSends_craneUnit, hmove, hunit]
  obtain ⟨v, hsends, hreset⟩ := resetCrane_spec (s := u) (c := c) (by rw [hunit]; exact hstays)
  have hsent := hsends.unit
  rw [hunit] at hsent
  obtain ⟨l, ws, hframe, hlen, hws, -⟩ := hsends.frame
  obtain ⟨ws', hwork, hlen', hws'⟩ := h.work
  have hvcrane : v.crane = u.crane := by rw [hframe]; rfl
  rw [hcrane] at hreset
  rw [hreset]
  refine { tabs := fun j => ?_, cranes := fun d => ?_, tableUnits := fun j hj => ?_, craneUnits := fun d hd => ?_,
           restTables := fun j hj => ?_, restCranes := fun d hd => ?_, host := ?_, work := ?_, frame := ?_ }
  · show v.tab j = _
    rw [hframe]
    exact h.tabs j
  · by_cases hd : d = c
    · subst hd
      rw [State.crane_modCrane_same, if_pos List.mem_cons_self]
    · rw [State.crane_modCrane_of_ne _ _ hd, hvcrane, h.cranes]
      exact ite_congr (by simp [hd]) (fun _ => rfl) (fun _ => rfl)
  · show UnitRec.Sent _ _ _ (v.unit (tableUnit j))
    rw [hsends.others _ (craneUnit_ne_tableUnit c j)]
    exact h.tableUnits j hj
  · show UnitRec.Sent _ _ _ (v.unit (craneUnit d))
    by_cases hdc : d = c
    · subst hdc
      rwa [propext hdue] at hsent
    · rw [hsends.others _ (fun e => hdc (craneUnit_inj.1 e))]
      exact h.craneUnits d ((List.mem_cons.1 hd).resolve_left hdc)
  · show v.unit (tableUnit j) = _
    rw [hsends.others _ (craneUnit_ne_tableUnit c j)]
    exact h.restTables j hj
  · show v.unit (craneUnit d) = _
    obtain ⟨hdc, hdcs⟩ := not_or.1 (fun e => hd (List.mem_cons.2 e))
    rw [hsends.others _ (fun e => hdc (craneUnit_inj.1 e))]
    exact h.restCranes d hdcs
  · show s.host.Grows v.host
    rw [hframe]
    exact h.host
  · refine ⟨ws ++ ws', ?_, ?_, fun x hx => ?_⟩
    · show v.work = _
      rw [hframe, List.append_assoc, ← hwork]
    · rw [List.length_append, List.length_cons]
      omega
    · obtain hx | hx := List.mem_append.1 hx
      · obtain ⟨-, n, rfl⟩ := hws x hx
        exact .inr ⟨c, List.mem_cons_self, n, rfl⟩
      · obtain htask | ⟨d, hd, n, rfl⟩ := hws' x hx
        · exact .inl htask
        · exact .inr ⟨d, List.mem_cons_of_mem _ hd, n, rfl⟩
  · rw [hframe, hu]
    exact ⟨_, _, _, _, _, rfl⟩

end Cranes

/-- The tables and cranes of a hall at HALL_RESET. -/
def State.resetOwners (s : State) : State :=
  (((((s.resetTable 0).resetTable 1).resetTable 2).resetTable 3).resetCrane 0).resetCrane 1

theorem resetting_resetOwners {s : State} (hstays : ∀ v, ∀ w ∈ (s.unit v).waiting, w.stays = true) :
    Resetting s s.resetOwners [3, 2, 1, 0] [1, 0] :=
  ((((((resetting_refl s).table (k := 0) (by decide) (hstays _)).table (k := 1) (by decide) (hstays _)).table (k := 2) (by decide)
    (hstays _)).table (k := 3) (by decide) (hstays _)).crane (c := 0) (by decide) (hstays _)).crane (c := 1) (by decide) (hstays _)

/-- The tables and cranes after HALL_RESET, whatever the order of their resets. -/
structure OwnersReset (s u : State) : Prop where
  tabs : ∀ k, u.tab k = (s.tab k).afterReset
  cranes : ∀ c, u.crane c = (s.crane c).afterReset
  tableUnits : ∀ k, UnitRec.Sent (tableUnit k) (s.resetSends (tableUnit k)) (s.unit (tableUnit k)) (u.unit (tableUnit k))
  craneUnits : ∀ c, UnitRec.Sent (craneUnit c) (s.resetSends (craneUnit c)) (s.unit (craneUnit c)) (u.unit (craneUnit c))
  host : s.host.Grows u.host
  work : ∃ ws, u.work = ws ++ s.work ∧ ws.length ≤ 6
    ∧ ∀ w ∈ ws, (∃ k n, (s.tab k).state ≠ .absent ∧ w = .answered (tableUnit k) (haltHanded (tableUnit k) n) .nak)
      ∨ (∃ c n, w = .answered (craneUnit c) (haltHanded (craneUnit c) n) .nak)
  frame : ∃ ts cr ln h w, u = { s with tables := ts, moves := { s.moves with cranes := cr }, line := ln, host := h, work := w }

theorem ownersReset {s : State} (hstays : ∀ v, ∀ w ∈ (s.unit v).waiting, w.stays = true) : OwnersReset s s.resetOwners := by
  have h := resetting_resetOwners hstays
  have hk : ∀ k : TableId, k ∈ [3, 2, 1, 0] := by decide
  have hc : ∀ c : CraneId, c ∈ [1, 0] := by decide
  obtain ⟨ws, hwork, hlen, hws⟩ := h.work
  refine ⟨fun k => (h.tabs k).trans (if_pos (hk k)), fun c => (h.cranes c).trans (if_pos (hc c)),
    fun k => h.tableUnits k (hk k), fun c => h.craneUnits c (hc c), h.host, ⟨ws, hwork, hlen, fun w hw => ?_⟩, h.frame⟩
  obtain ⟨k, -, n, habsent, rfl⟩ | ⟨c, -, n, rfl⟩ := hws w hw
  · exact .inl ⟨k, n, habsent, rfl⟩
  · exact .inr ⟨c, n, rfl⟩

/-! ## The NAKs of full waiting lists -/

/-- Work that has nothing to do. -/
theorem comesTo_of_idle {s : State} {ws : List Task} (h : ∀ w ∈ ws, ∀ ts, runTask w (s.push ts) = s.push ts) :
    (s.push ws).comesTo ws.length s := by
  induction ws with
  | nil => exact State.comesTo_refl s
  | cons w ws ih =>
    have hfirst : (s.push (w :: ws)).comesTo 1 (s.push ws) := comesTo_push w ws (h w List.mem_cons_self ws)
    exact hfirst.trans (ih fun w hw => h w (List.mem_cons_of_mem _ hw))

/-- The NAK of an ARC_KILL that no table awaits has no effect. -/
theorem runAnswered_kill_idle {s : State} {k : TableId} (h : (s.tab k).killAwaited = false) (n : Nat) :
    runAnswered (tableUnit k) (haltHanded (tableUnit k) n) .nak s = s := by
  have hhanded : haltHanded (tableUnit k) n = { cmd := .arcKill, sender := .sequencer, hand := n } := by
    rw [haltHanded, haltCmd_tableUnit, haltSender_tableUnit]
  rw [hhanded, runAnswered_of_sequencer rfl, State.sequencerAnswer.eq_def]
  dsimp only [FieldCmd.kind]
  rw [h]
  exact if_neg Bool.false_ne_true

/-- The NAK of a STOP has no effect on a crane that awaits no answer. -/
theorem runAnswered_stop_idle {s : State} {c : CraneId} (h : (s.crane c).hand = none) (n : Nat) :
    runAnswered (craneUnit c) (haltHanded (craneUnit c) n) .nak s = s := by
  have hhanded : haltHanded (craneUnit c) n = { cmd := .stop, sender := .cranes, hand := n } := by
    rw [haltHanded, haltCmd_craneUnit, haltSender_craneUnit]
  rw [hhanded, runAnswered_of_cranes rfl, State.craneAnswer.eq_def]
  dsimp only [FieldCmd.kind]
  rw [h]
  exact if_neg (fun h => nomatch h)

/-! ## The reset -/

/-- The commands that a unit keeps waiting at HALL_RESET (R202). -/
def UnitRec.kept (r : UnitRec) : List Handed :=
  r.waiting.filter (fun h => h.cmd = .arcKill || h.cmd = .stop || h.cmd = .statusQuery)

theorem resetLine_unit (s : State) (v : UnitId) : s.resetLine.unit v = { s.unit v with waiting := (s.unit v).kept } := by
  have hkind : ∀ h : Handed, (decide (h.cmd.kind = CmdKind.arcKill) || decide (h.cmd.kind = .stop) || decide (h.cmd.kind = .statusQuery))
      = (decide (h.cmd = .arcKill) || decide (h.cmd = .stop) || decide (h.cmd = .statusQuery)) := fun h => by
    cases h.cmd <;> rfl
  have hkeeps : (fun r : UnitRec => { r with waiting := r.waiting.filter (fun h =>
      decide (h.cmd.kind = CmdKind.arcKill) || decide (h.cmd.kind = CmdKind.stop) || decide (h.cmd.kind = CmdKind.statusQuery)) })
      = fun r => { r with waiting := r.kept } := by
    simp only [hkind]
    rfl
  refine (Vector.getElem_map _ (xs := s.line.units) (i := v.val) v.isLt).trans ?_
  exact congrFun hkeeps (s.unit v)

theorem kept_stays (r : UnitRec) : ∀ w ∈ r.kept, w.stays = true := fun w hw => by
  have hkept := (List.mem_filter.1 hw).2
  simp only [Bool.or_eq_true, decide_eq_true_eq] at hkept
  obtain (hcmd | hcmd) | hcmd := hkept <;> rw [Handed.stays, hcmd] <;> rfl

/-- The state of the hall after HALL_RESET, its stock, jobs and queue emptied. -/
def State.hallCleared (s : State) : State := (((s.setQueue []).resetStock.resetJobs).setSpaceWaits []).accept .none

/-- The state in which the mode of HALL_RESET has been reported and the line has discarded what waits. -/
def State.resetBegun (s : State) : State :=
  (({ s with hall := { s.hall with mode := .setup } } : State).raise (.hallMode .setup s.hall.stop .hallReset s.hall.clock)).resetLine

theorem exec_hallReset_of_empty {s : State} (htakes : s.takes .hallReset) (hmode : s.hall.mode ≠ .setup)
    (hempty : ∀ c, (s.crane c).hook = .empty) : exec .hallReset s = .next (s.resetBegun.resetOwners.hallCleared).settle := by
  rw [exec_hallReset, execHallReset, request_of_takes _ _ _ htakes, if_neg hmode,
    if_neg (not_or.2 ⟨Classical.not_not.2 (hempty 0), Classical.not_not.2 (hempty 1)⟩)]
  rfl

theorem afterReset_killAwaited {r : TableRec} (h : r.state ≠ .absent) : r.afterReset.killAwaited = false := by
  rw [TableRec.afterReset, if_neg h]

/-- What is left to do when the blocks are reset: the NAKs of full waiting lists have nobody who awaits them. -/
theorem settle_hallCleared {s u : State} (h : OwnersReset s u) (hwork : s.work = []) :
    u.hallCleared.settle = ({ u with work := [] } : State).hallCleared.followBeacons := by
  obtain ⟨ws, hws, hlen, hidle⟩ := h.work
  rw [hwork, List.append_nil] at hws
  let v : State := { u with work := [] }
  have hpush : u = v.push ws := by
    show u = { u with work := ws ++ [] }
    rw [List.append_nil, ← hws]
  have hnothing : ∀ w ∈ ws, ∀ ts, runTask w (v.hallCleared.push ts) = v.hallCleared.push ts := fun w hw ts => by
    obtain ⟨k, n, habsent, rfl⟩ | ⟨c, n, rfl⟩ := hidle w hw
    · refine runAnswered_kill_idle (s := v.hallCleared.push ts) ?_ n
      show (u.tab k).killAwaited = false
      rw [h.tabs]
      exact afterReset_killAwaited habsent
    · refine runAnswered_stop_idle (s := v.hallCleared.push ts) ?_ n
      show (u.crane c).hand = none
      rw [h.cranes]
      rfl
  have hend := settle_of_comesTo_clean (comesTo_of_idle hnothing) (Nat.le_trans hlen (by decide)) rfl rfl
  exact (congrArg (fun u : State => u.hallCleared.settle) hpush).trans hend

/-- The host line when HALL_RESET has been told. -/
theorem resetBegun_unit (s : State) (v : UnitId) : s.resetBegun.unit v = { s.unit v with waiting := (s.unit v).kept } :=
  resetLine_unit (({ s with hall := { s.hall with mode := .setup } } : State).raise
    (.hallMode .setup s.hall.stop .hallReset s.hall.clock)) v

/-- What HALL_RESET comes to. -/
theorem hallReset_comesTo {s : State} (hset : s.settled) (htakes : s.takes .hallReset) (hmode : s.hall.mode ≠ .setup)
    (hempty : ∀ c, (s.crane c).hook = .empty) : ∃ u, OwnersReset s.resetBegun u
    ∧ exec .hallReset s = .next ({ u with work := [] } : State).hallCleared.followBeacons := by
  have howners := ownersReset (s := s.resetBegun) (fun v w hw => by
    rw [resetBegun_unit] at hw
    exact kept_stays _ w hw)
  exact ⟨_, howners, (exec_hallReset_of_empty htakes hmode hempty).trans
    (congrArg Host.Outcome.next (settle_hallCleared howners hset.1))⟩

end Sys2Proof.Machine

/-! HALL_RESET settled (O25). -/

namespace Sys2Proof.Machine

/-- Every unit belongs to a table or to a crane. -/
theorem unit_table_or_crane (v : UnitId) : (∃ k, v = tableUnit k) ∨ ∃ c, v = craneUnit c := by
  revert v
  decide

section Reset

variable {s u : State} (h : OwnersReset s.resetBegun u)
include h

theorem reset_grows : (s.host.report (.hallMode .setup s.hall.stop .hallReset s.hall.clock)).Grows u.host := h.host

theorem reset_reports : (s.host.mask.getLsbD 7 = false → s.host.reports.length < 48 →
      ∃ l, u.host.reports = s.host.reports ++ .hallMode .setup s.hall.stop .hallReset s.hall.clock :: l)
    ∧ u.host.status.getLsbD 7 = true ∧ u.host.buffer = s.host.buffer ∧ u.host.mask = s.host.mask := by
  have hgrows := reset_grows h
  have hfirst := s.host.grows_report (.hallMode .setup s.hall.stop .hallReset s.hall.clock)
  obtain ⟨hstatus, hqueued⟩ := s.host.report_tells (.hallMode .setup s.hall.stop .hallReset s.hall.clock)
  obtain ⟨l, hl⟩ := hgrows.reports
  refine ⟨fun hmask hroom => ⟨l, ?_⟩, hgrows.status 7 hstatus,
    hgrows.buffer.trans hfirst.buffer, hgrows.mask.trans hfirst.mask⟩
  rw [hl, hqueued hmask hroom, List.append_assoc]
  rfl

omit h in
theorem reset_sends_table (k : TableId) : s.resetBegun.resetSends (tableUnit k) ↔ (s.tab k).state ≠ .absent
    ∧ (s.unit (tableUnit k)).link = .online ∧ ∃ c, (s.tab k).contour = some c ∧ c.arcHeld = true := by
  rw [resetSends_tableUnit, resetBegun_unit, Option.any_eq_true]
  exact Iff.rfl

omit h in
theorem reset_sends_crane (c : CraneId) : s.resetBegun.resetSends (craneUnit c) ↔ (s.unit (craneUnit c)).link = .online
    ∧ ∃ m, (s.crane c).move.bind s.move = some m ∧ m.state = .dispatched := by
  rw [resetSends_craneUnit, resetBegun_unit, Option.any_eq_true]
  exact and_congr Iff.rfl (exists_congr fun m => and_congr Iff.rfl decide_eq_true_iff)

end Reset

/-- A record after HALL_RESET, where a MOVING one holds the state it had before (R24). -/
theorem afterReset_of_before {x : StockRec} (hbefore : x.state = .moving → x.before ≠ none) :
    x.afterReset = match x.state, x.before with
      | .reserved, _ => { x with state := .available, table := none }
      | .moving, some .reserved => { x with state := .available, before := none, move := none }
      | .moving, some st => { x with state := st, before := none, move := none }
      | _, _ => x := by
  rw [StockRec.afterReset]
  cases hstate : x.state with
  | moving =>
    obtain ⟨st, hst⟩ := Option.ne_none_iff_exists'.1 (hbefore hstate)
    cases st <;> rw [hst] <;> rfl
  | _ => rfl

section Units

variable {s : State} {r : UnitRec} {v : UnitId} {b : Prop}

/-- The unit's record after HALL_RESET, against its record before: the sending follows the discarding. -/
theorem reset_unit_sent (h : UnitRec.Sent v b (s.resetBegun.unit v) r) (hb : b) : ∃ n,
    ((s.unit v).out = none → r = { s.unit v with
      out := some { cmd := haltHanded v n, attempt := 1, inFlight := false }, waiting := (s.unit v).kept })
    ∧ ((s.unit v).out ≠ none → (s.unit v).kept.length < 4 →
      r = { s.unit v with waiting := haltHanded v n :: (s.unit v).kept }) := by
  obtain ⟨n, hdue⟩ := h.due hb
  rw [resetBegun_unit] at hdue
  exact ⟨n, hdue⟩

theorem reset_unit_kept (h : UnitRec.Sent v b (s.resetBegun.unit v) r) (hb : ¬ b) :
    r = { s.unit v with waiting := (s.unit v).kept } :=
  (h.kept hb).trans (resetBegun_unit s v)

theorem reset_unit_line (h : UnitRec.Sent v b (s.resetBegun.unit v) r) : r.link = (s.unit v).link
    ∧ r.fails = (s.unit v).fails ∧ r.strays = (s.unit v).strays
    ∧ r.restoring = (s.unit v).restoring := by
  obtain ⟨-, -, hlink, hfails, hstrays, hrestoring⟩ := h
  rw [resetBegun_unit] at hlink hfails hstrays hrestoring
  exact ⟨hlink, hfails, hstrays, hrestoring⟩

end Units

theorem afterReset_of_fitted {r r' : TableRec} (h : r.state ≠ .absent) (hafter : r' = r.afterReset) :
    r'.state = (if r.state = .offline then .offline else if r.state = .maintenance then .maintenance else .idle)
    ∧ r'.claim = .none ∧ r'.contour = none ∧ r'.timer = none ∧ r'.killAwaited = false ∧ r'.active = none
    ∧ r'.staged = .empty ∧ r'.swap = false ∧ r'.cfg = r.cfg ∧ r'.wear = r.wear := by
  rw [hafter, TableRec.afterReset, if_neg h]
  refine ⟨?_, rfl, rfl, rfl, rfl, rfl, rfl, rfl, rfl, rfl⟩
  dsimp only
  cases r.state <;> rfl

theorem follow_setting (b : Beacon) (now : Nat) (holds : Bool) :
    (b.follow now holds).source = b.source ∧ (b.follow now holds).pattern = b.pattern := by
  rw [Beacon.follow]
  cases holds
  · exact ⟨rfl, rfl⟩
  · cases b.running <;> exact ⟨rfl, rfl⟩

theorem hallReset_refused {s : State} (hset : s.settled) (htakes : s.takes .hallReset) :
    (s.hall.mode = .setup → exec .hallReset s = .next (s.refuse .badState))
    ∧ (s.hall.mode ≠ .setup → (∃ c, (s.crane c).hook ≠ .empty) → exec .hallReset s = .next (s.refuse .loadOnHook)) := by
  refine ⟨fun hmode => ?_, fun hmode ⟨c, hc⟩ => ?_⟩
  · rw [exec_hallReset, execHallReset, request_of_takes _ _ _ htakes, if_pos hmode, settle_refuse s hset]
  · have hhook : (s.crane 0).hook ≠ .empty ∨ (s.crane 1).hook ≠ .empty := by
      match c with
      | 0 => exact .inl hc
      | 1 => exact .inr hc
    rw [exec_hallReset, execHallReset, request_of_takes _ _ _ htakes, if_neg hmode, if_pos hhook, settle_refuse s hset]

/-- Settles O25: the reset of the owners is a relation to the state before, and the rest of the hall is written outright. -/
theorem hallResetClearsTheWork : Obligations.HallResetClearsTheWork := by
  intro s htakes hset
  obtain ⟨hsetup, hhook⟩ := hallReset_refused hset htakes
  refine ⟨hsetup, hhook, fun hmode hempty => ?_⟩
  obtain ⟨u, howners, hexec⟩ := hallReset_comesTo hset htakes hmode hempty
  obtain ⟨hreports, hstatus, hbuffer, hmask⟩ := reset_reports howners
  obtain ⟨ts, cr, ln, ho, w, rfl⟩ := howners.frame
  refine ⟨_, hexec, rfl, hbuffer, hmask, rfl, rfl, rfl, rfl, rfl, fun n => ?_, rfl, rfl, rfl, rfl,
    fun hbefore => ?_, ⟨fun k hk => ?_, fun k hk => ?_, fun c hc => ?_, fun c hc => ?_⟩, hreports, hstatus,
    fun r => ?_, ?_, fun k hk => ?_, ?_, fun f => ?_, fun z => ?_, rfl, rfl, rfl, fun c => ?_, fun v => ?_⟩
  · rw [beacon_followBeacons]
    exact follow_setting _ _ _
  · exact List.map_congr_left fun x hx => afterReset_of_before (hbefore x hx)
  · have hsent := reset_unit_sent (howners.tableUnits k) ((reset_sends_table k).2 hk)
    simp only [haltHanded, haltCmd_tableUnit, haltSender_tableUnit] at hsent
    exact hsent
  · exact reset_unit_kept (howners.tableUnits k) (fun h => hk ((reset_sends_table k).1 h))
  · have hsent := reset_unit_sent (howners.craneUnits c) ((reset_sends_crane c).2 hc)
    simp only [haltHanded, haltCmd_craneUnit, haltSender_craneUnit] at hsent
    exact hsent
  · exact reset_unit_kept (howners.craneUnits c) (fun h => hc ((reset_sends_crane c).1 h))
  · rw [followBeacons_lock]
    exact (congrArg (Vector.get · r.slot) (Vector.getElem_replicate r.zone.isLt)).trans (Vector.getElem_replicate r.slot.isLt)
  · rfl
  · exact afterReset_of_fitted hk (howners.tabs k)
  · rfl
  · exact Vector.getElem_replicate f.isLt
  · exact Vector.getElem_replicate z.isLt
  · exact howners.cranes c
  · obtain ⟨k, rfl⟩ | ⟨c, rfl⟩ := unit_table_or_crane v
    · exact reset_unit_line (howners.tableUnits k)
    · exact reset_unit_line (howners.craneUnits c)

end Sys2Proof.Machine

/-! The hall stop's effect on the tables (R92): what a table waits on, its arc, its reservation and its halt. -/

namespace Sys2Proof.Machine

/-- What a hall stop may touch besides units and table records: everything else of the state is kept. -/
def State.Touched (s u : State) : Prop := ∃ recs changed waits tables mark queue ctx flags guards space line host work,
  s.host.Grows host ∧ u = { s with
    stock := { s.stock with recs := recs, changed := changed }
    alloc := { s.alloc with waits := waits }
    tables := tables
    composer := { s.composer with state := mark, queue := queue, ctx := ctx }
    flags := flags
    guards := guards
    moves := { s.moves with spaceWaits := space }
    line := line
    host := host
    work := work }

theorem State.Touched.refl (s : State) : s.Touched s := ⟨_, _, _, _, _, _, _, _, _, _, _, _, _, .refl _, rfl⟩

theorem State.Touched.trans {s u v : State} (h1 : s.Touched u) (h2 : u.Touched v) : s.Touched v := by
  obtain ⟨_, _, _, _, _, _, _, _, _, _, _, _, _, hgrows, rfl⟩ := h1
  obtain ⟨_, _, _, _, _, _, _, _, _, _, _, _, _, hgrows', rfl⟩ := h2
  exact ⟨_, _, _, _, _, _, _, _, _, _, _, _, _, hgrows.trans hgrows', rfl⟩

theorem State.Touched.of_work {s u : State} {ts : List Task} (h : State.Touched { s with work := ts } u) : s.Touched u := by
  obtain ⟨_, _, _, _, _, _, _, _, _, _, _, _, _, hgrows, rfl⟩ := h
  exact ⟨_, _, _, _, _, _, _, _, _, _, _, _, _, hgrows, rfl⟩

theorem State.Touched.hall {s u : State} (h : s.Touched u) : u.hall = s.hall := by
  obtain ⟨_, _, _, _, _, _, _, _, _, _, _, _, _, -, rfl⟩ := h
  rfl

/-- A part of the stop of table `k`: its record becomes `r`, its unit is sent ARC_KILL as `b` says, and no other table or unit is
touched. -/
structure StopsTable (s u : State) (k : TableId) (b : Prop) (r : TableRec) : Prop where
  frame : s.Touched u
  tab : u.tab k = r
  others : ∀ j, j ≠ k → u.tab j = s.tab j
  unit : UnitRec.Sent (tableUnit k) b (s.unit (tableUnit k)) (u.unit (tableUnit k))
  units : ∀ v, v ≠ tableUnit k → u.unit v = s.unit v

section Parts

variable {s u v : State} {k : TableId} {b : Prop} {r : TableRec}

theorem StopsTable.refl (s : State) (k : TableId) : StopsTable s s k False (s.tab k) :=
  ⟨.refl s, rfl, fun _ _ => rfl, UnitRec.sent_of_not not_false _, fun _ _ => rfl⟩

theorem StopsTable.congr {b' : Prop} (hb : b ↔ b') (h : StopsTable s u k b r) : StopsTable s u k b' r := by
  rwa [← propext hb]

/-- A step that leaves tables and units alone. -/
theorem StopsTable.still (h : StopsTable s u k b r) (hframe : u.Touched v) (htab : v.tab = u.tab) (hunit : v.unit = u.unit) :
    StopsTable s v k b r := by
  refine ⟨h.frame.trans hframe, ?_, fun j hj => ?_, ?_, fun w hw => ?_⟩
  · rw [htab]
    exact h.tab
  · rw [htab]
    exact h.others j hj
  · rw [hunit]
    exact h.unit
  · rw [hunit]
    exact h.units w hw

/-- A change of the table's record. -/
theorem StopsTable.modTab (h : StopsTable s u k b r) (f : TableRec → TableRec) : StopsTable s (u.modTab k f) k b (f r) where
  frame := h.frame.trans ⟨_, _, _, _, _, _, _, _, _, _, _, _, _, .refl _, rfl⟩
  tab := by rw [State.tab_modTab_same, h.tab]
  others j hj := by rw [State.tab_modTab_of_ne _ _ hj, h.others j hj]
  unit := h.unit
  units := h.units

/-- The work of a state is no part of the stop's effect. -/
theorem StopsTable.of_work {ts : List Task} (h : StopsTable { s with work := ts } u k b r) : StopsTable s u k b r where
  frame := h.frame.of_work
  tab := h.tab
  others := h.others
  unit := h.unit
  units := h.units

/-- ARC_KILL to a unit with no command waiting. -/
theorem StopsTable.kill (h : StopsTable s u k False r) (hwaiting : (u.unit (tableUnit k)).waiting = []) :
    StopsTable s (u.sendKill k) k ((u.unit (tableUnit k)).link = .online) r ∧ (u.sendKill k).work = u.work := by
  have hsends : Sends u (u.handTo (tableUnit k) (haltCmd (tableUnit k)) (haltSender (tableUnit k))) (tableUnit k) _ :=
    sends_handTo (by simp [hwaiting])
  rw [haltCmd_tableUnit, haltSender_tableUnit] at hsends
  obtain ⟨l, ws, hframe, -, -, hnone⟩ := hsends.frame
  obtain rfl := hnone (by rw [hwaiting]; decide)
  have hkept := h.unit.kept not_false
  have hsent := hsends.unit
  rw [hkept] at hsent
  rw [hkept]
  refine ⟨⟨h.frame.trans ?_, ?_, fun j hj => ?_, hsent, fun v hv => (hsends.others v hv).trans (h.units v hv)⟩, ?_⟩
  · exact ⟨_, _, _, _, _, _, _, _, _, _, _, _, _, .refl _, hframe⟩
  · rw [State.sendKill, hframe]
    exact h.tab
  · rw [State.sendKill, hframe]
    exact h.others j hj
  · rw [State.sendKill, hframe]
    rfl

end Parts

/-! ## What the table waits on (R90, R92) -/

/-- Under an asserted stop a mark in progress is dropped and no other one begins (R128, R129). -/
theorem markDrop_comesTo {s : State} (hstop : s.hall.stop = true) : ∃ n ≤ 1, ∃ st h, s.host.Grows h
    ∧ (runMarkDrop .aborted s).comesTo n { s with composer := { s.composer with state := st, ctx := none }, host := h } := by
  cases hctx : s.composer.ctx with
  | none =>
    refine ⟨0, Nat.zero_le 1, s.composer.state, s.host, .refl _, ?_⟩
    have hdrop : runMarkDrop .aborted s = s := by rw [runMarkDrop, hctx]
    have hsame : ({ s with
        composer := { s.composer with state := s.composer.state, ctx := none }, host := s.host } : State) = s := by
      rw [← hctx]
    rw [hdrop, hsame]
    exact State.comesTo_refl s
  | some c =>
    have hdrop : runMarkDrop .aborted s = (runMarkClose (s.reportMark c .aborted)).push [.serveHead] := by rw [runMarkDrop, hctx]
    refine ⟨1, Nat.le_refl 1, .idle, (s.reportMark c .aborted).host, s.host.grows_report _, ?_⟩
    rw [hdrop]
    refine comesTo_push .serveHead [] ?_
    show runServeHead (runMarkClose (s.reportMark c .aborted)) = _
    rw [runServeHead, if_pos (.inr hstop)]
    rfl

/-- The guard that the arc release settles, where the settle time is above 0. -/
theorem arcRelease_frame {s : State} {t : TableId} (hsettle : 0 < (s.tab t).cfg.settle) :
    ∃ guards, runArcRelease t s = { s with guards := guards } := by
  rw [runArcRelease]
  cases s.tableZone t with
  | none => exact ⟨_, rfl⟩
  | some z =>
    dsimp only
    rw [if_neg (Nat.ne_of_gt hsettle)]
    split
    · exact ⟨_, rfl⟩
    · exact ⟨_, rfl⟩

theorem dropArcWaiter_frame (s : State) (t : TableId) : ∃ guards, s.dropArcWaiter t = { s with guards := guards } := by
  rw [State.dropArcWaiter]
  split <;> exact ⟨_, rfl⟩

/-- Whether the stop of a table sends its unit ARC_KILL. -/
def killsArc (r : TableRec) (v : UnitRec) : Prop :=
  (r.state = .pierceWait ∨ r.state = .cutting) ∧ v.link = .online ∧ r.contour.any Contour.arcHeld = true

/-- The record of a table whose contour is cleared. -/
def TableRec.contourless (r : TableRec) : TableRec := { r with contour := none, timer := none }

section TakeOff

variable {s : State} {k : TableId}

theorem stopsTable_clearContour (s : State) (k : TableId) :
    StopsTable s (s.clearContour k) k False (s.tab k).contourless :=
  (StopsTable.refl s k).modTab TableRec.contourless

/-- ARC_KILL and the release of the arc hold. -/
theorem killRelease_comesTo (hsettle : 0 < (s.tab k).cfg.settle) (hwaiting : (s.unit (tableUnit k)).waiting = []) :
    ∃ u, (((s.clearContour k).sendKill k).push [.arcRelease k]).comesTo 1 u ∧ u.work = s.work
      ∧ StopsTable s u k ((s.unit (tableUnit k)).link = .online) (s.tab k).contourless := by
  obtain ⟨hkill, hwork⟩ := (stopsTable_clearContour s k).kill (by exact hwaiting)
  obtain ⟨guards, hrelease⟩ := arcRelease_frame (s := (s.clearContour k).sendKill k) (t := k)
    (by rw [hkill.tab]; exact hsettle)
  exact ⟨_, comesTo_push (.arcRelease k) [] hrelease, hwork,
    hkill.still ⟨_, _, _, _, _, _, _, _, _, _, _, _, _, .refl _, rfl⟩ rfl rfl⟩

/-- A state whose work takes table `k` off what it waits on. -/
def TakesOff (k : TableId) (s v : State) : Prop := ∃ n ≤ 2, ∃ u, v.comesTo n u ∧ u.work = s.work
  ∧ StopsTable s u k (killsArc (s.tab k) (s.unit (tableUnit k))) (s.tab k).contourless

theorem takesOff_of_still {v : State} (hidle : ¬ killsArc (s.tab k) (s.unit (tableUnit k)))
    (hframe : (s.clearContour k).Touched v) (htab : v.tab = (s.clearContour k).tab) (hunit : v.unit = (s.clearContour k).unit)
    (hwork : v.work = s.work) : TakesOff k s v :=
  ⟨0, Nat.zero_le 2, v, State.comesTo_refl v, hwork,
    ((stopsTable_clearContour s k).still hframe htab hunit).congr (iff_of_false not_false hidle)⟩

theorem takesOff_kill (hsettle : 0 < (s.tab k).cfg.settle) (hwaiting : (s.unit (tableUnit k)).waiting = [])
    (hkills : (s.tab k).state = .pierceWait ∨ (s.tab k).state = .cutting)
    (hheld : (s.tab k).contour.any Contour.arcHeld = true) :
    TakesOff k s (((s.clearContour k).sendKill k).push [.arcRelease k]) := by
  obtain ⟨u, hu, hwork, hstops⟩ := killRelease_comesTo hsettle hwaiting
  exact ⟨1, by decide, u, hu, hwork, hstops.congr ⟨fun h => ⟨hkills, h, hheld⟩, fun h => h.2.1⟩⟩

theorem takesOff_markDrop (hstop : s.hall.stop = true) (hidle : ¬ killsArc (s.tab k) (s.unit (tableUnit k))) :
    TakesOff k s ((s.clearContour k).push [.markDrop .aborted]) := by
  obtain ⟨n, hn, st, h, hgrows, hdrop⟩ := markDrop_comesTo (s := s.clearContour k) hstop
  refine ⟨n + 1, Nat.succ_le_succ hn, _, (comesTo_push (.markDrop .aborted) [] rfl).trans hdrop, rfl, ?_⟩
  refine StopsTable.congr (iff_of_false not_false hidle) ((stopsTable_clearContour s k).still ?_ rfl rfl)
  exact ⟨_, _, _, _, _, _, _, _, _, _, _, _, _, hgrows, rfl⟩

theorem takesOff_runTakeOff (hstop : s.hall.stop = true) (hsettle : 0 < (s.tab k).cfg.settle)
    (hwaiting : (s.unit (tableUnit k)).waiting = []) : TakesOff k s (runTakeOff k s) := by
  have hsame : (s.clearContour k).Touched (s.clearContour k) := .refl _
  have hrest {st : TableState} (hstate : (s.tab k).state = st) (hpierce : st ≠ .pierceWait) (hcut : st ≠ .cutting) :
      ¬ killsArc (s.tab k) (s.unit (tableUnit k)) := fun h => by
    rw [killsArc, hstate] at h
    exact h.1.elim hpierce hcut
  have hunheld (hheld : ¬ (s.tab k).contour.any Contour.arcHeld = true) :
      ¬ killsArc (s.tab k) (s.unit (tableUnit k)) := fun h => hheld h.2.2
  rw [runTakeOff]
  cases hstate : (s.tab k).state
  case pierceWait =>
    dsimp only
    by_cases hheld : (s.tab k).contour.any Contour.arcHeld = true
    · rw [if_pos hheld]
      exact takesOff_kill hsettle hwaiting (.inl hstate) hheld
    · rw [if_neg hheld]
      obtain ⟨guards, hdrop⟩ := dropArcWaiter_frame (s.clearContour k) k
      rw [hdrop]
      exact takesOff_of_still (hunheld hheld) ⟨_, _, _, _, _, _, _, _, _, _, _, _, _, .refl _, rfl⟩ rfl rfl rfl
  case cutting =>
    dsimp only
    by_cases hheld : (s.tab k).contour.any Contour.arcHeld = true
    · rw [if_pos hheld]
      exact takesOff_kill hsettle hwaiting (.inr hstate) hheld
    · rw [if_neg hheld]
      exact takesOff_of_still (hunheld hheld) hsame rfl rfl rfl
  case marking =>
    dsimp only
    have hidle := hrest hstate (fun h => nomatch h) (fun h => nomatch h)
    split
    · exact takesOff_markDrop hstop hidle
    · exact takesOff_of_still hidle hsame rfl rfl rfl
  all_goals
    exact takesOff_of_still (hrest hstate (fun h => nomatch h) (fun h => nomatch h))
      ⟨_, _, _, _, _, _, _, _, _, _, _, _, _, .refl _, rfl⟩ rfl rfl rfl

/-! ## The halt (R69, R91, R92) -/

/-- The record of a table that the hall stop has halted. -/
structure TableRec.StopHalted (r r' : TableRec) : Prop where
  state : r'.state = .halted
  cause : r'.cause = some .hallStop
  active : r'.active = r.active
  swap : r'.swap = r.swap
  contour : r'.contour = r.contour

/-- The halt of the hall stop: a reservation without a move goes back first. -/
theorem stopsTable_stopHalt {u : State} {b : Prop} {r : TableRec} (h : StopsTable s u k b r) :
    ∃ r', StopsTable s (runStopHalt k u) k b r' ∧ (runStopHalt k u).work = u.work ∧ r.StopHalted r' := by
  have hreturn : ∃ r0, StopsTable s (u.returnReservation k) k b r0 ∧ (u.returnReservation k).work = u.work
      ∧ r0.active = r.active ∧ r0.swap = r.swap ∧ r0.contour = r.contour := by
    rw [State.returnReservation]
    split
    · next id _ =>
      have havailable : StopsTable s (u.makeAvailable id) k b r :=
        h.still ⟨_, _, _, _, _, _, _, _, _, _, _, _, _, .refl _, rfl⟩ rfl rfl
      exact ⟨_, havailable.modTab (fun r => { r with claim := .none }), rfl, rfl, rfl, rfl⟩
    · exact ⟨r, h, rfl, rfl, rfl, rfl⟩
  obtain ⟨r0, hstops, hwork, hactive, hswap, hcontour⟩ := hreturn
  have hhalt := hstops.modTab (fun r => { r with state := .halted, cause := some .hallStop })
  refine ⟨_, hhalt.still (v := runStopHalt k u) ?_ rfl rfl, hwork, rfl, rfl, hactive, hswap, hcontour⟩
  exact ⟨_, _, _, _, _, _, _, _, _, _, _, _, _, HostLine.grows_report _ _, rfl⟩

/-! ## The tables one after another -/

/-- The hall stop has reached the tables `ks`. -/
structure TablesStopped (s u : State) (ks : List TableId) : Prop where
  frame : s.Touched u
  halted : ∀ k ∈ ks, (s.tab k).state.runs = true → (s.tab k).contourless.StopHalted (u.tab k)
  idle : ∀ k ∈ ks, (s.tab k).state.runs = false → u.tab k = s.tab k
  others : ∀ k, k ∉ ks → u.tab k = s.tab k
  sent : ∀ k ∈ ks, UnitRec.Sent (tableUnit k) (killsArc (s.tab k) (s.unit (tableUnit k))) (s.unit (tableUnit k))
    (u.unit (tableUnit k))
  units : ∀ v, (∀ k ∈ ks, v ≠ tableUnit k) → u.unit v = s.unit v

theorem not_killsArc_of_not_runs (h : (s.tab k).state.runs = false) (v : UnitRec) : ¬ killsArc (s.tab k) v := fun hkills => by
  obtain hstate | hstate := hkills.1 <;> rw [hstate] at h <;> exact nomatch h

theorem tableStop_comesTo (hstop : s.hall.stop = true) (hsettle : 0 < (s.tab k).cfg.settle)
    (hwaiting : (s.unit (tableUnit k)).waiting = []) : ∃ n ≤ 4, ∃ u, (runTableStop k s).comesTo n u ∧ u.work = s.work
      ∧ TablesStopped s u [k] := by
  have hone : ∀ j ∈ [k], j = k := fun j hj => List.mem_singleton.1 hj
  cases hruns : (s.tab k).state.runs with
  | false =>
    have hrun : runTableStop k s = s := by rw [runTableStop, hruns]; rfl
    refine ⟨0, Nat.zero_le 4, s, hrun.symm ▸ State.comesTo_refl s, rfl, .refl s, ?_, fun _ _ _ => rfl, fun _ _ => rfl, ?_,
      fun _ _ => rfl⟩
    · intro j hj hruns'
      rw [hone j hj, hruns] at hruns'
      exact nomatch hruns'
    · intro j hj
      rw [hone j hj]
      exact UnitRec.sent_of_not (not_killsArc_of_not_runs hruns _) _
  | true =>
    have hrun : runTableStop k s = s.push [.takeOff k, .stopHalt k] := by rw [runTableStop, hruns]; rfl
    obtain ⟨n, hn, u, hu, hwork, hstops⟩ := takesOff_runTakeOff (s := s.push [.stopHalt k]) (k := k) hstop hsettle hwaiting
    have hfirst : (runTableStop k s).comesTo (n + 1) u := by
      rw [hrun]
      exact (comesTo_push (.takeOff k) [.stopHalt k] rfl).trans hu
    have hstops' : StopsTable s { u with work := s.work } k _ _ := hstops.of_work.still
      ⟨_, _, _, _, _, _, _, _, _, _, _, _, _, .refl _, rfl⟩ rfl rfl
    obtain ⟨r, hhalt, hdone, hhalted⟩ := stopsTable_stopHalt hstops'
    refine ⟨1 + (n + 1), by omega, _, hfirst.trans (comesTo_of_task hwork rfl), hdone, hhalt.frame,
      fun j hj _ => ?_, fun j hj hidle => ?_, fun j hj => hhalt.others j (fun h => hj (List.mem_singleton.2 h)),
      fun j hj => ?_, fun v hv => hhalt.units v (hv k (List.mem_singleton.2 rfl))⟩
    · rw [hone j hj]
      rw [← hhalt.tab] at hhalted
      exact hhalted
    · rw [hone j hj, hruns] at hidle
      exact nomatch hidle
    · rw [hone j hj]
      exact hhalt.unit

theorem TablesStopped.of_work {u : State} {ks : List TableId} {ts : List Task}
    (h : TablesStopped { s with work := ts } u ks) : TablesStopped s u ks :=
  ⟨h.frame.of_work, h.halted, h.idle, h.others, h.sent, h.units⟩

/-- The stop of one table more. -/
theorem TablesStopped.cons {u v : State} {ks : List TableId} (hfirst : TablesStopped s u [k]) (hk : k ∉ ks)
    (hrest : TablesStopped u v ks) : TablesStopped s v (k :: ks) := by
  have hkmem : k ∈ [k] := List.mem_singleton.2 rfl
  have hne {j : TableId} (hj : j ∈ ks) : j ≠ k := fun h => hk (h ▸ hj)
  have htab {j : TableId} (hj : j ∈ ks) : u.tab j = s.tab j := hfirst.others j (fun h => hne hj (List.mem_singleton.1 h))
  have hunit {j : TableId} (hj : j ∈ ks) : u.unit (tableUnit j) = s.unit (tableUnit j) := hfirst.units _ fun i hi h => by
    rw [List.mem_singleton.1 hi] at h
    exact hne hj (tableUnit_inj.1 h)
  have hkunit : v.unit (tableUnit k) = u.unit (tableUnit k) := hrest.units _ fun j hj h => hne hj (tableUnit_inj.1 h).symm
  refine ⟨hfirst.frame.trans hrest.frame, fun j hj => ?_, fun j hj => ?_, fun j hj => ?_, fun j hj => ?_, fun w hw => ?_⟩
  · obtain rfl | hj := List.mem_cons.1 hj
    · rw [hrest.others j hk]
      exact hfirst.halted j hkmem
    · rw [← htab hj]
      exact hrest.halted j hj
  · obtain rfl | hj := List.mem_cons.1 hj
    · rw [hrest.others j hk]
      exact hfirst.idle j hkmem
    · rw [← htab hj]
      exact hrest.idle j hj
  · obtain ⟨hjk, hjks⟩ := not_or.1 (fun h => hj (List.mem_cons.2 h))
    exact (hrest.others j hjks).trans (hfirst.others j (fun h => hjk (List.mem_singleton.1 h)))
  · obtain rfl | hj := List.mem_cons.1 hj
    · rw [hkunit]
      exact hfirst.sent j hkmem
    · rw [← htab hj, ← hunit hj]
      exact hrest.sent j hj
  · have hks := hrest.units w (fun j hj => hw j (List.mem_cons_of_mem _ hj))
    exact hks.trans (hfirst.units w (fun j hj => hw j (List.mem_cons.2 (.inl (List.mem_singleton.1 hj)))))

end TakeOff

/-- The stop of tables in a row. -/
theorem tablesStop_comesTo (ks : List TableId) (hnodup : ks.Nodup) (ts : List Task) (s : State) (hstop : s.hall.stop = true)
    (hsettle : ∀ k, k ∈ ks → 0 < (s.tab k).cfg.settle) (hwaiting : ∀ k, k ∈ ks → (s.unit (tableUnit k)).waiting = [])
    (hwork : s.work = ks.map Task.tableStop ++ ts) :
    ∃ n ≤ 5 * ks.length, ∃ u, s.comesTo n u ∧ u.work = ts ∧ TablesStopped s u ks := by
  induction ks generalizing s with
  | nil => exact ⟨0, Nat.zero_le _, s, State.comesTo_refl s, hwork, .refl s, (fun _ h => nomatch h), (fun _ h => nomatch h),
      fun _ _ => rfl, (fun _ h => nomatch h), fun _ _ => rfl⟩
  | cons k ks ih =>
    obtain ⟨hk, hnodup⟩ := List.nodup_cons.1 hnodup
    obtain ⟨n, hn, u, hu, huwork, hfirst⟩ := tableStop_comesTo
      (s := { s with work := ks.map Task.tableStop ++ ts }) (k := k) hstop (hsettle k List.mem_cons_self) (hwaiting k List.mem_cons_self)
    have hfirst := hfirst.of_work
    have htab {j : TableId} (hj : j ∈ ks) : u.tab j = s.tab j := hfirst.others j fun h => hk (List.mem_singleton.1 h ▸ hj)
    have hunit {j : TableId} (hj : j ∈ ks) : u.unit (tableUnit j) = s.unit (tableUnit j) := hfirst.units _ fun i hi h => by
      rw [List.mem_singleton.1 hi] at h
      exact hk (tableUnit_inj.1 h ▸ hj)
    obtain ⟨m, hm, v, hv, hvwork, hrest⟩ := ih hnodup u (by rw [hfirst.frame.hall]; exact hstop)
      (fun j hj => by rw [htab hj]; exact hsettle j (List.mem_cons_of_mem _ hj))
      (fun j hj => by rw [hunit hj]; exact hwaiting j (List.mem_cons_of_mem _ hj)) huwork
    refine ⟨m + (n + 1), ?_, v, ((comesTo_of_task hwork rfl).trans hu).trans hv, hvwork, hfirst.cons hk hrest⟩
    rw [List.length_cons]
    omega

end Sys2Proof.Machine

/-! The hall stop's effect on the cranes and their moves (R178). -/

namespace Sys2Proof.Machine

/-- A crane that the hall stop sends a STOP. -/
def CraneRec.works (r : CraneRec) : Prop := r.state = .idle ∨ r.state = .busy ∨ r.state = .halted

/-- A move after the stop of a crane: a DISPATCHED one of a working crane is STOPPED. -/
def MoveRec.stoppedBy (m : MoveRec) (r : CraneRec) : MoveRec :=
  if (r.state = .idle ∨ r.state = .busy ∨ r.state = .halted) ∧ r.move = some m.id ∧ m.state = .dispatched
  then { m with state := .stopped } else m

/-- The hall stop has reached crane `c`. -/
structure CraneStopped (s u : State) (c : CraneId) : Prop where
  frame : ∃ queue cranes line, u = { s with moves := { s.moves with queue := queue, cranes := cranes }, line := line }
  halted : (s.crane c).state = .idle ∨ (s.crane c).state = .busy → (u.crane c).state = .halted
    ∧ (u.crane c).cause = some .stop ∧ (u.crane c).hook = (s.crane c).hook ∧ (u.crane c).move = (s.crane c).move
  rest : ¬ (s.crane c).works → u.crane c = s.crane c
  others : ∀ d, d ≠ c → u.crane d = s.crane d
  ids : u.moves.queue.map MoveRec.id = s.moves.queue.map MoveRec.id
  moves : ∀ k m, s.move k = some m → u.move k = some (m.stoppedBy (s.crane c))
  sent : UnitRec.Sent (craneUnit c) ((s.unit (craneUnit c)).link = .online ∧ (s.crane c).works) (s.unit (craneUnit c))
    (u.unit (craneUnit c))
  units : ∀ v, v ≠ craneUnit c → u.unit v = s.unit v

theorem stoppedBy_of_not {m : MoveRec} {r : CraneRec} (h : ¬ (r.works ∧ r.move = some m.id ∧ m.state = .dispatched)) :
    m.stoppedBy r = m := if_neg h

theorem modMove_ids (s : State) (id : Nat) (f : MoveRec → MoveRec) (hid : ∀ m, (f m).id = m.id) :
    (s.modMove id f).moves.queue.map MoveRec.id = s.moves.queue.map MoveRec.id := by
  show (s.moves.queue.map _).map MoveRec.id = _
  rw [List.map_map]
  refine List.map_congr_left fun m _ => ?_
  show (if m.id = id then f m else m).id = m.id
  split
  · exact hid m
  · rfl

section Crane

variable {s : State} {c : CraneId}

/-- The move of a crane that is looked up is the one that carries its id. -/
theorem craneMove_of_move {k : Nat} {m : MoveRec} (hmove : s.move k = some m) (hcrane : (s.crane c).move = some m.id) :
    s.craneMove c = some m := by
  rw [State.craneMove, hcrane, State.move_id hmove, Option.bind_some, hmove]

/-- The moves after the stop of a working crane. -/
theorem stopMoves (hworks : (s.crane c).works) {u : State} (hqueue : u.moves.queue = s.moves.queue) :
    ∃ v, (match s.craneMove c with
        | some m => if m.state = .dispatched then (u.stopTimer c).modMove m.id (fun m => { m with state := .stopped }) else u
        | none => u) = v
      ∧ (∃ queue cranes, v = { u with moves := { u.moves with queue := queue, cranes := cranes } })
      ∧ (v.crane c = u.crane c ∨ v.crane c = { u.crane c with timer := none, hand := none })
      ∧ (∀ d, d ≠ c → v.crane d = u.crane d)
      ∧ v.moves.queue.map MoveRec.id = s.moves.queue.map MoveRec.id
      ∧ (∀ k m, s.move k = some m → v.move k = some (m.stoppedBy (s.crane c))) := by
  have hmoves (k : Nat) : u.move k = s.move k := by rw [State.move, State.move, hqueue]
  cases hmove : s.craneMove c with
  | none =>
    refine ⟨u, rfl, ⟨_, _, rfl⟩, .inl rfl, fun _ _ => rfl, by rw [hqueue], fun k m hm => ?_⟩
    rw [hmoves, hm, stoppedBy_of_not]
    rintro ⟨-, hcrane, -⟩
    rw [craneMove_of_move hm hcrane] at hmove
    exact nomatch hmove
  | some m0 =>
    by_cases hstate : m0.state = .dispatched
    · obtain ⟨id, hid, hm0⟩ := Option.bind_eq_some_iff.1 hmove
      have hm0id := State.move_id hm0
      refine ⟨_, if_pos hstate, ⟨_, _, rfl⟩, .inr ?_, fun d hd => ?_, ?_, fun k m hm => ?_⟩
      · rw [State.modMove_crane, State.stopTimer, State.crane_modCrane_same]
      · rw [State.modMove_crane, State.stopTimer, State.crane_modCrane_of_ne _ _ hd]
      · refine (modMove_ids (u.stopTimer c) _ (fun m => { m with state := .stopped }) (fun _ => rfl)).trans ?_
        exact congrArg (List.map MoveRec.id) hqueue
      · rw [State.move_modMove _ _ _ (fun m => { m with state := .stopped }) (fun _ => rfl),
          show (u.stopTimer c).move k = u.move k from rfl, hmoves, hm, Option.map_some]
        by_cases hkm : m.id = m0.id
        · have hk : k = id := (State.move_id hm).symm.trans (hkm.trans hm0id)
          have hmm : m = m0 := by
            rw [hk, hm0] at hm
            exact (Option.some.inj hm).symm
          rw [if_pos hkm, MoveRec.stoppedBy, if_pos ⟨hworks, by rw [hid, hkm, hm0id], hmm ▸ hstate⟩]
        · rw [if_neg hkm, stoppedBy_of_not]
          rintro ⟨-, hcrane, -⟩
          rw [hid] at hcrane
          exact hkm ((Option.some.inj hcrane).symm.trans hm0id.symm)
    · refine ⟨u, if_neg hstate, ⟨_, _, rfl⟩, .inl rfl, fun _ _ => rfl, by rw [hqueue], fun k m hm => ?_⟩
      rw [hmoves, hm, stoppedBy_of_not]
      rintro ⟨-, hcrane, hdispatched⟩
      rw [craneMove_of_move hm hcrane] at hmove
      exact hstate (Option.some.inj hmove ▸ hdispatched)

/-- A working crane that has been sent STOP and is halted, its move not yet stopped. -/
def State.craneHalted (s : State) (c : CraneId) : State :=
  let handed := s.handTo (craneUnit c) .stop .cranes
  if (s.crane c).state = .halted then handed
  else handed.modCrane c (fun r => { r with state := .halted, cause := some .stop })

theorem craneHalted_spec (hwaiting : (s.unit (craneUnit c)).waiting = []) :
    (∃ cranes line, s.craneHalted c = { s with moves := { s.moves with cranes := cranes }, line := line })
    ∧ (s.craneHalted c).crane c = (if (s.crane c).state = .halted then s.crane c
      else { s.crane c with state := .halted, cause := some .stop })
    ∧ (∀ d, d ≠ c → (s.craneHalted c).crane d = s.crane d)
    ∧ UnitRec.Sent (craneUnit c) ((s.unit (craneUnit c)).link = .online) (s.unit (craneUnit c))
      ((s.craneHalted c).unit (craneUnit c))
    ∧ ∀ v, v ≠ craneUnit c → (s.craneHalted c).unit v = s.unit v := by
  have hsends : Sends s (s.handTo (craneUnit c) (haltCmd (craneUnit c)) (haltSender (craneUnit c))) (craneUnit c) _ :=
    sends_handTo (by simp [hwaiting])
  rw [haltCmd_craneUnit, haltSender_craneUnit] at hsends
  obtain ⟨line, ws, hframe, -, -, hnone⟩ := hsends.frame
  obtain rfl := hnone (by rw [hwaiting]; decide)
  have hcranes : (s.handTo (craneUnit c) .stop .cranes).crane = s.crane := by rw [hframe]; rfl
  have hsent := hsends.unit
  have hothers := hsends.others
  rw [State.craneHalted]
  split
  · exact ⟨⟨_, _, hframe⟩, by rw [hcranes], fun d _ => by rw [hcranes], hsent, hothers⟩
  · refine ⟨?_, ?_, fun d hd => ?_, hsent, hothers⟩
    · rw [hframe]
      exact ⟨_, line, rfl⟩
    · rw [State.crane_modCrane_same, hcranes]
    · rw [State.crane_modCrane_of_ne _ _ hd, hcranes]

theorem craneStopped_stopCrane (hwaiting : (s.unit (craneUnit c)).waiting = []) : CraneStopped s (s.stopCrane c) c := by
  by_cases hworks : (s.crane c).state = .idle ∨ (s.crane c).state = .busy ∨ (s.crane c).state = .halted
  · obtain ⟨⟨cranes, line, hframe⟩, hcrane, hothers, hsent, hunits⟩ := craneHalted_spec hwaiting
    have hqueue : (s.craneHalted c).moves.queue = s.moves.queue := by rw [hframe]
    have hmove : (s.craneHalted c).craneMove c = s.craneMove c := by
      have hid : ((s.craneHalted c).crane c).move = (s.crane c).move := by
        rw [hcrane]
        split <;> rfl
      have hfind : (s.craneHalted c).move = s.move := by
        funext k
        rw [State.move, State.move, hqueue]
      rw [State.craneMove, State.craneMove, hid, hfind]
    obtain ⟨v, hv, ⟨queue, cranes', hvframe⟩, hvcrane, hvothers, hids, hmoves⟩ :=
      stopMoves (u := s.craneHalted c) hworks hqueue
    have hstop : s.stopCrane c = v := by
      rw [← hmove] at hv
      rw [← hv]
      exact if_pos hworks
    have hunit : v.unit = (s.craneHalted c).unit := by rw [hvframe]; rfl
    rw [hstop]
    refine ⟨⟨queue, cranes', line, by rw [hvframe, hframe]⟩, fun hmoving => ?_, fun h => absurd hworks h,
      fun d hd => (hvothers d hd).trans (hothers d hd), hids, hmoves, ?_, fun w hw => by rw [hunit, hunits w hw]⟩
    · have hrunning : (s.crane c).state ≠ .halted := fun h => by
        rw [h] at hmoving
        exact hmoving.elim (fun h => nomatch h) (fun h => nomatch h)
      rw [if_neg hrunning] at hcrane
      obtain hvcrane | hvcrane := hvcrane <;> rw [hvcrane, hcrane] <;> exact ⟨rfl, rfl, rfl, rfl⟩
    · rw [hunit]
      rwa [propext (and_iff_left hworks : _ ∧ (s.crane c).works ↔ _)]
  · have hstop : s.stopCrane c = s := if_neg hworks
    rw [hstop]
    refine ⟨⟨_, _, _, rfl⟩, fun h => absurd (h.imp_right .inl) hworks, fun _ => rfl, fun _ _ => rfl, rfl, fun k m hm => ?_,
      UnitRec.sent_of_not (fun h => hworks h.2) _, fun _ _ => rfl⟩
    rw [hm, stoppedBy_of_not (fun h => hworks h.1)]

end Crane

/-- The hall stop has reached both cranes. -/
structure CranesStopped (s u : State) : Prop where
  frame : ∃ queue cranes line, u = { s with moves := { s.moves with queue := queue, cranes := cranes }, line := line }
  halted : ∀ c, (s.crane c).state = .idle ∨ (s.crane c).state = .busy → (u.crane c).state = .halted
    ∧ (u.crane c).cause = some .stop ∧ (u.crane c).hook = (s.crane c).hook ∧ (u.crane c).move = (s.crane c).move
  rest : ∀ c, ¬ (s.crane c).works → u.crane c = s.crane c
  ids : u.moves.queue.map MoveRec.id = s.moves.queue.map MoveRec.id
  moves : ∀ k m, s.move k = some m → u.move k = some ((m.stoppedBy (s.crane 0)).stoppedBy (s.crane 1))
  sent : ∀ c, UnitRec.Sent (craneUnit c) ((s.unit (craneUnit c)).link = .online ∧ (s.crane c).works) (s.unit (craneUnit c))
    (u.unit (craneUnit c))
  units : ∀ k, u.unit (tableUnit k) = s.unit (tableUnit k)

theorem cranesStopped_runCraneStop {s : State} (hwaiting : ∀ c, (s.unit (craneUnit c)).waiting = []) :
    CranesStopped s (runCraneStop s) := by
  have hfirst := craneStopped_stopCrane (hwaiting 0)
  have hunit : (s.stopCrane 0).unit (craneUnit 1) = s.unit (craneUnit 1) :=
    hfirst.units _ (fun h => absurd (craneUnit_inj.1 h) (by decide))
  have hsecond := craneStopped_stopCrane (s := s.stopCrane 0) (c := 1) (by rw [hunit]; exact hwaiting 1)
  have hcrane : (s.stopCrane 0).crane 1 = s.crane 1 := hfirst.others 1 (by decide)
  have hcrane' : (runCraneStop s).crane 0 = (s.stopCrane 0).crane 0 := hsecond.others 0 (by decide)
  have hunit' : (runCraneStop s).unit (craneUnit 0) = (s.stopCrane 0).unit (craneUnit 0) :=
    hsecond.units _ (fun h => absurd (craneUnit_inj.1 h) (by decide))
  have hhalted := hsecond.halted
  have hrest := hsecond.rest
  have hmoves := hsecond.moves
  have hsent := hsecond.sent
  rw [hcrane] at hhalted hrest hmoves hsent
  rw [hunit] at hsent
  refine ⟨?_, fun c => ?_, fun c => ?_, hsecond.ids.trans hfirst.ids,
    fun k m hm => hmoves k _ (hfirst.moves k m hm), fun c => ?_,
    fun k => (hsecond.units _ (craneUnit_ne_tableUnit 1 k)).trans (hfirst.units _ (craneUnit_ne_tableUnit 0 k))⟩
  · obtain ⟨_, _, _, hframe⟩ := hfirst.frame
    obtain ⟨_, _, _, hframe'⟩ := hsecond.frame
    exact ⟨_, _, _, hframe'.trans (by rw [hframe])⟩
  · match c with
    | 0 =>
      rw [hcrane']
      exact hfirst.halted
    | 1 => exact hhalted
  · match c with
    | 0 =>
      rw [hcrane']
      exact hfirst.rest
    | 1 => exact hrest
  · match c with
    | 0 =>
      rw [hunit']
      exact hfirst.sent
    | 1 => exact hsent

end Sys2Proof.Machine

/-! The assertion of the hall stop (R206), settled (O22). -/

namespace Sys2Proof.Machine

/-! ## The capture and the report -/

/-- HALL is the highest class (R211). -/
theorem FaultClass.eq_hall_of_rank {cls : FaultClass} (h : ¬ cls.rank < FaultClass.hall.rank) : cls = .hall := by
  revert h
  cases cls <;> decide

/-- A capture of the highest class leaves a fault of that class, and raises at most one report. -/
theorem capture_hall (s : State) (src : FaultSource) (code : FaultCode) (index : Option Nat) :
    ∃ f h, s.capture .hall src code index = { s with hall := { s.hall with fault := f }, host := h }
      ∧ (∃ g, f.held = some g ∧ g.cls = .hall)
      ∧ (s.hall.fault.held = none → ∃ g, f.held = some g ∧ g.src = src ∧ g.code = code ∧ g.index = index)
      ∧ (h = s.host ∨ ∃ r, h = s.host.report r) := by
  let fault : HallFault := { cls := .hall, src := src, code := code, clock := s.hall.clock, index := index }
  cases hheld : s.hall.fault.held with
  | none =>
    refine ⟨{ held := some fault, later := s.hall.fault.later }, s.host.report (.faultCaptured fault none), ?_,
      ⟨fault, rfl, rfl⟩, fun _ => ⟨fault, rfl, rfl, rfl, rfl⟩, .inr ⟨_, rfl⟩⟩
    rw [State.capture, hheld]
    rfl
  | some g =>
    by_cases hrank : g.cls.rank < FaultClass.hall.rank
    · refine ⟨{ held := some fault, later := s.hall.fault.later }, s.host.report (.faultCaptured fault (some g.cls)), ?_,
        ⟨fault, rfl, rfl⟩, (fun h => nomatch h), .inr ⟨_, rfl⟩⟩
      rw [State.capture, hheld]
      exact if_pos hrank
    · refine ⟨{ held := some g, later := min (s.hall.fault.later + 1) Config.lastLater }, s.host, ?_, ⟨g, rfl, ?_⟩,
        (fun h => nomatch h), .inl rfl⟩
      · rw [State.capture, hheld]
        exact if_neg hrank
      · exact FaultClass.eq_hall_of_rank hrank

theorem HostLine.Grows.mem {h h' : HostLine} (hgrows : h.Grows h') {r : Report} (hr : r ∈ h.reports) : r ∈ h'.reports := by
  obtain ⟨l, hl⟩ := hgrows.reports
  rw [hl]
  exact List.mem_append_left l hr

/-- One report before another: the second is queued where two have room. -/
theorem report_behind_one {h h0 : HostLine} {r : Report} (h0eq : h = h0 ∨ ∃ r0, h = h0.report r0)
    (hmask : h0.mask.getLsbD r.cls.bit = false) (hroom : h0.reports.length < 47) : r ∈ (h.report r).reports := by
  have hfit : h.reports.length < 48 ∧ h.mask = h0.mask := by
    obtain rfl | ⟨r0, rfl⟩ := h0eq
    · exact ⟨Nat.lt_succ_of_lt hroom, rfl⟩
    · rw [HostLine.report_eq_of_bit]
      refine ⟨?_, rfl⟩
      dsimp only
      split
      · rw [List.length_append]
        exact Nat.succ_lt_succ hroom
      · exact Nat.lt_succ_of_lt hroom
  obtain ⟨-, hqueued⟩ := h.report_tells r
  rw [hqueued (by rw [hfit.2]; exact hmask) hfit.1]
  exact List.mem_append_right _ (List.mem_singleton.2 rfl)

/-! ## The four blocks -/

theorem TablesStopped.setWork {s u : State} {ks : List TableId} (h : TablesStopped s u ks) (ts : List Task) :
    TablesStopped s { u with work := ts } ks where
  frame := h.frame.trans ⟨_, _, _, _, _, _, _, _, _, _, _, _, _, .refl _, rfl⟩
  halted := h.halted
  idle := h.idle
  others := h.others
  sent := h.sent
  units := h.units

/-- The hall stop has reached every block. -/
def BlocksStopped (s v : State) : Prop :=
  ∃ u w, TablesStopped s u [0, 1, 2, 3] ∧ CranesStopped u w ∧ ∃ st h, w.host.Grows h ∧ v = { w with
    composer := { w.composer with state := st, ctx := none }, host := h
    guards := w.guards.map (fun g => { g with waiter := none }), work := [] }

theorem stopBlocks_comesTo {s : State} (hstop : s.hall.stop = true) (hsettle : ∀ k, 0 < (s.tab k).cfg.settle)
    (hwaiting : ∀ v, (s.unit v).waiting = []) (hwork : s.work = []) :
    ∃ n ≤ Config.handlingBound, ∃ v, (s.push stopTasks).comesTo n v ∧ v.work = [] ∧ BlocksStopped s v := by
  obtain ⟨n, hn, u, hu, huwork, htables⟩ := tablesStop_comesTo [0, 1, 2, 3] (by decide) [.craneStop, .composerStop, .guardStop]
    (s.push stopTasks) hstop (fun k _ => hsettle k) (fun k _ => hwaiting _) (by rw [State.push, hwork]; rfl)
  have hcranes : CranesStopped { u with work := [.composerStop, .guardStop] }
      (runCraneStop { u with work := [.composerStop, .guardStop] }) := cranesStopped_runCraneStop fun c => by
    show (u.unit (craneUnit c)).waiting = []
    rw [htables.units _ (fun k _ => (craneUnit_ne_tableUnit c k).symm)]
    exact hwaiting _
  have hwwork : (runCraneStop { u with work := [.composerStop, .guardStop] }).work = [.composerStop, .guardStop] := by
    obtain ⟨_, _, _, hframe⟩ := hcranes.frame
    rw [hframe]
  have hwstop : (runCraneStop { u with work := [.composerStop, .guardStop] }).hall.stop = true := by
    obtain ⟨_, _, _, hframe⟩ := hcranes.frame
    rw [hframe]
    exact (congrArg HallControl.stop htables.frame.hall).trans hstop
  have hcraneStep := comesTo_of_task (t := runCraneStop { u with work := [.composerStop, .guardStop] }) huwork rfl
  generalize runCraneStop { u with work := [.composerStop, .guardStop] } = w at hcranes hwwork hwstop hcraneStep
  obtain ⟨m, hm, st, h, hgrows, hdrop⟩ := markDrop_comesTo (s := { w with work := [.guardStop] }) hwstop
  have hcomposer := (comesTo_of_task (ts := [.guardStop]) hwwork rfl).trans hdrop
  refine ⟨1 + (m + 1 + (1 + n)), ?_, _, ((hu.trans hcraneStep).trans hcomposer).trans (comesTo_of_task rfl rfl), rfl,
    _, w, htables.of_work.setWork _, hcranes, st, h, hgrows, rfl⟩
  rw [List.length_cons, List.length_cons, List.length_cons, List.length_cons, List.length_nil] at hn
  show _ ≤ 65536
  omega

/-! ## Moves and units of the stopped hall -/

theorem stoppedBy_of_not_dispatched {m : MoveRec} (h : m.state ≠ .dispatched) (r : CraneRec) : m.stoppedBy r = m :=
  stoppedBy_of_not (fun hr => h hr.2.2)

theorem stoppedBy_of_works {m : MoveRec} {r : CraneRec} (hworks : r.works) (hmove : r.move = some m.id)
    (hstate : m.state = .dispatched) : m.stoppedBy r = { m with state := .stopped } := if_pos ⟨hworks, hmove, hstate⟩

section Moves

variable {m : MoveRec} {crane : CraneId → CraneRec}

/-- A DISPATCHED move that a working crane carries is STOPPED, whichever crane is stopped first. -/
theorem stoppedBy_both (hstate : m.state = .dispatched) {c : CraneId} (hmove : (crane c).move = some m.id)
    (hworks : (crane c).works) : (m.stoppedBy (crane 0)).stoppedBy (crane 1) = { m with state := .stopped } := by
  have hstopped : ({ m with state := .stopped } : MoveRec).state ≠ .dispatched := fun h => nomatch h
  obtain rfl | rfl := crane_zero_or_one c
  · rw [stoppedBy_of_works hworks hmove hstate]
    exact stoppedBy_of_not_dispatched hstopped _
  · by_cases hfirst : (crane 0).works ∧ (crane 0).move = some m.id ∧ m.state = .dispatched
    · rw [stoppedBy_of_works hfirst.1 hfirst.2.1 hfirst.2.2]
      exact stoppedBy_of_not_dispatched hstopped _
    · rw [stoppedBy_of_not hfirst, stoppedBy_of_works hworks hmove hstate]

/-- A move that no working crane carries, or that is not DISPATCHED, is kept. -/
theorem stoppedBy_neither (h : ∀ c, ¬ ((crane c).works ∧ (crane c).move = some m.id ∧ m.state = .dispatched)) :
    (m.stoppedBy (crane 0)).stoppedBy (crane 1) = m := by
  rw [stoppedBy_of_not (h 0), stoppedBy_of_not (h 1)]

end Moves

theorem move_of_mem {s : State} {m : MoveRec} (hids : (s.moves.queue.map MoveRec.id).Nodup) (hm : m ∈ s.moves.queue) :
    s.move m.id = some m := by
  cases h : s.move m.id with
  | none => simpa using List.find?_eq_none.1 h m hm
  | some y => rw [eq_of_nodup_map hids (List.mem_of_find?_eq_some h) hm (State.move_id h)]

/-- The record of a unit with no command waiting that has been sent its halting command. -/
theorem sent_of_idle {v : UnitId} {b : Prop} {r r' : UnitRec} (h : UnitRec.Sent v b r r') (hb : b) (hwaiting : r.waiting = []) :
    ∃ n, (r.out = none → r' = { r with out := some { cmd := haltHanded v n, attempt := 1, inFlight := false } })
      ∧ (r.out ≠ none → r' = { r with waiting := [haltHanded v n] }) := by
  obtain ⟨n, hdue, hwaits⟩ := h.due hb
  rw [hwaiting] at hwaits
  exact ⟨n, hdue, fun hout => hwaits hout (by decide)⟩

theorem not_works_of_absent {r : CraneRec} (h : r.state = .offline ∨ r.state = .maintenance ∨ r.state = .absent) :
    ¬ r.works := by
  rw [CraneRec.works]
  obtain h | h | h := h <;> rw [h] <;> decide

theorem killsArc_iff (r : TableRec) (v : UnitRec) : killsArc r v ↔ (r.state = .pierceWait ∨ r.state = .cutting)
    ∧ v.link = .online ∧ ∃ c, r.contour = some c ∧ c.arcHeld = true := by
  rw [killsArc, Option.any_eq_true]

/-! ## The obligation -/

/-- The hall when the stop has been captured and reported. -/
theorem hallStop_begins {s : State} {ms : Nat} (hreset : s.hall.inReset = false) (hms : 10 ≤ ms) (hstop : s.hall.stop = false)
    (hmode : s.hall.mode ≠ .setup) : ∃ f h, (∃ g, f.held = some g ∧ g.cls = .hall)
      ∧ (s.hall.fault.held = none → ∃ g, f.held = some g ∧ g.src = .hall ∧ g.code = .hallStop ∧ g.index = none)
      ∧ (h = s.host ∨ ∃ r, h = s.host.report r)
      ∧ exec (.hallStopAsserted ms) s = .next ((({ s with
        hall := { s.hall with stop := true, mode := .stopped, fault := f }
        host := h.report (.hallMode .stopped true .stopAsserted s.hall.clock) } : State).push stopTasks).settle) := by
  obtain ⟨f, h, hcapture, hhall, hfirst, hhost⟩ := capture_hall
    ({ s with hall := { s.hall with stop := true, mode := .stopped } } : State) .hall .hallStop none
  refine ⟨f, h, hhall, hfirst, hhost, ?_⟩
  rw [exec_hallStopAsserted, execHallStopAsserted, handled, hreset, if_neg Bool.false_ne_true,
    if_neg (not_or.2 ⟨Nat.not_lt.2 hms, by rw [hstop]; exact Bool.false_ne_true⟩), if_neg hmode]
  dsimp only
  rw [hcapture]
  rfl

/-- Settles O22: the stop reaches the tables one by one, then both cranes, the composer and the guards. -/
theorem hallStopHaltsTheHall : Obligations.HallStopHaltsTheHall := by
  intro ms s hreset hset hms hstop hmode hsettle hwaiting
  obtain ⟨f, h0, hhall, hfirst, hhost, hexec⟩ := hallStop_begins hreset hms hstop hmode
  obtain ⟨n, hn, v, hv, hvwork, u, w, htables, hcranes, st, h, hgrows, rfl⟩ := stopBlocks_comesTo (s := { s with
    hall := { s.hall with stop := true, mode := .stopped, fault := f }
    host := h0.report (.hallMode .stopped true .stopAsserted s.hall.clock) }) rfl hsettle hwaiting hset.1
  rw [settle_of_comesTo hv hn hvwork, takeChanged_eq] at hexec
  obtain ⟨hframe, hcranesMoving, hcranesRest, hids, hmoves, hcranesSent, htablesSent⟩ := hcranes
  obtain ⟨_, _, _, rfl⟩ := hframe
  obtain ⟨⟨_, _, _, _, _, _, _, _, _, _, _, _, _, hgrows', rfl⟩, hhalted, hidle, -, hsent, hunits⟩ := htables
  have hall : ∀ k : TableId, k ∈ [0, 1, 2, 3] := by decide
  refine ⟨_, hexec, rfl, rfl, rfl, hhall, hfirst, fun k hruns => ?_, fun k => hidle k (hall k), hcranesMoving, fun c hc => ?_,
    fun hnodup => ⟨hids, fun m hm c hmove hworks => ⟨fun hstate => ?_, fun hstate => ?_⟩, fun m hm hrests => ?_⟩,
    ⟨fun k hk => ?_, fun k hk => ?_, fun c hc => ?_, fun c hc => ?_⟩, fun hmask hroom => ?_, ?_, rfl, rfl, rfl, fun z => ?_,
    rfl, rfl, rfl⟩
  · obtain ⟨hstate, hcause, hactive, hswap, hcontour⟩ := hhalted k (hall k) hruns
    exact ⟨hstate, hcause, hactive, hswap, hcontour⟩
  · exact hcranesRest c (not_works_of_absent hc)
  · refine (hmoves m.id m (move_of_mem hnodup hm)).trans (congrArg some ?_)
    exact stoppedBy_both hstate hmove hworks
  · refine (hmoves m.id m (move_of_mem hnodup hm)).trans (congrArg some ?_)
    exact stoppedBy_neither fun _ h => hstate h.2.2
  · refine (hmoves m.id m (move_of_mem hnodup hm)).trans (congrArg some ?_)
    refine stoppedBy_neither fun c h => ?_
    obtain ⟨hidle, hbusy, hhalted⟩ := hrests c h.2.1
    exact h.1.elim hidle (fun h => h.elim hbusy hhalted)
  · obtain ⟨n, hfree, hbusy⟩ := sent_of_idle (hsent k (hall k)) ((killsArc_iff _ _).2 hk) (hwaiting _)
    simp only [haltHanded, haltCmd_tableUnit, haltSender_tableUnit] at hfree hbusy
    exact ⟨n, fun hout => (htablesSent k).trans (hfree hout), fun hout => (htablesSent k).trans (hbusy hout)⟩
  · exact (htablesSent k).trans ((hsent k (hall k)).kept (fun h => hk ((killsArc_iff _ _).1 h)))
  · have hsends := hcranesSent c
    rw [hunits (craneUnit c) (fun k _ => (craneUnit_ne_tableUnit c k).symm)] at hsends
    obtain ⟨n, hfree, hbusy⟩ := sent_of_idle hsends hc (hwaiting _)
    simp only [haltHanded, haltCmd_craneUnit, haltSender_craneUnit] at hfree hbusy
    exact ⟨n, hfree, hbusy⟩
  · have hsends := hcranesSent c
    rw [hunits (craneUnit c) (fun k _ => (craneUnit_ne_tableUnit c k).symm)] at hsends
    exact hsends.kept hc
  · exact (hgrows'.trans hgrows).mem (report_behind_one hhost hmask hroom)
  · exact (hgrows'.trans hgrows).status 7 (h0.report_tells _).1
  · exact congrArg GuardRec.waiter (Vector.getElem_map ..)

end Sys2Proof.Machine
